-- ==== Sys2Proof/Word.lean ====
section
/-! DEFINITION. The word types of the Jorval 3208's three wire formats (spec/12_record_formats.md R198).
Quantities the manual counts (frame ends, centi-dB, node numbers) are Nat or Int, not words. -/

namespace Sys2Proof

/-- One byte of the controller port or of the configuration memory (R198). -/
abbrev Byte := BitVec 8

/-- A 16-bit field: a check value, or the event set of CLEAR EVENTS (R198, section 12.2). -/
abbrev Word16 := BitVec 16

/-- The bits of a slot record in the order sent (R198). -/
abbrev Bits := List Bool

end Sys2Proof
end

