-- ==== Sys2Proof/Config.lean ====
section
/-! DEFINITION. The fixed limits of the part, each with the rule that states it, and the two values that depend on
microseconds, which the model does not count. -/

namespace Sys2Proof.Config

/-- Places in the changeover table (R64). -/
def tablePlaces : Nat := 6
/-- The silence count at which SILENT ends (R51). -/
def silenceFull : Nat := 12
/-- Consecutive clear own slots that end LISTEN (R52). -/
def clearFull : Nat := 2
/-- Missed frame ends at which a peer is ABSENT (R58). -/
def missedFull : Nat := 8
/-- Frame ends of linger (R82, R85). -/
def lingerFull : Nat := 4
/-- Room of the request queue (R166). -/
def queueRoom : Nat := 16
/-- Requests at which the hold line is asserted (R167). -/
def holdHigh : Nat := 12
/-- Requests at which the hold line is deasserted (R167). -/
def holdLow : Nat := 8
/-- Room of the notice queue (R178). -/
def noticeRoom : Nat := 16
/-- Most messages one request may place (R136, R137). -/
def attemptsFull : Nat := 16
/-- Upper bound of the 16-bit saturating counts (R38, R57, R65, R160, R161). -/
def count16 : Nat := 65535
/-- Upper bound of a repeat count and of a notice's lost count (R177, R181). -/
def count8 : Nat := 255
/-- Upper bound of a wear count (R20). -/
def wearFull : Nat := 4294967295
/-- Wear added by a drive that is not hot (R20). -/
def coldWear : Nat := 1
/-- Wear added by a hot drive (R20). -/
def hotWear : Nat := 50
/-- Most claim entries on a switch (R4). -/
def claimsFull : Nat := 4
/-- Byte address of the wear area (section 12.3). -/
def wearBase : Nat := 16384
/-- Switch indices with a count in the wear area (R192). -/
def wearSlots : Nat := 48
/-- Longest participant list of a PROPOSE (R131). -/
def participantsFull : Nat := 8

/-- DESIGN CHOICE (log 4), safe. What the time remaining of a pulsing ready line depends on beyond the model:
the microseconds since its last request. It has no body, so nothing can be proved of its value; the line's
number and the number of the draw are its arguments, and its use bounds it to 1 .. P (R105). -/
opaque readyElapsed : Nat → Nat → Nat

/-- DESIGN CHOICE (log 27), safe. Whether another node's sync has begun on the line at the moment a timer expires (R44). It
has no body, so nothing can be proved of its value; the number of the draw is its argument. -/
opaque syncBegun : Nat → Bool

end Sys2Proof.Config
end

