-- ==== Sys2Proof/Syntax.lean ====
section
/-! DEFINITION. The commands of the node: one constructor of Instr for each row of spec/opcode_table.json, with
the operands the outside supplies at that event. -/

namespace Sys2Proof

/-- The identity of a changeover: sponsor node number and sequence number (00_scope.md Terms, R63). -/
structure Tag where
  sponsor : Nat
  seq : Nat
deriving DecidableEq, Repr

/-- The two sponsor slots (R128). -/
inductive SlotName where
  | a
  | b
deriving DecidableEq, Repr

/-- Levels of the position-sense lines at one moment: (switch index, position named). A switch that is not
listed gives no valid reading (R2; log 8). -/
abbrev SenseLevels := List (Nat × Nat)

/-- Which memory access was not answered (R189, R192, R195; log 9). For a save write the operand is how many
bytes of that write had reached the memory. -/
inductive MemoryAccess where
  | planRead
  | wearRead
  | saveWrite (reached : Nat)
deriving DecidableEq, Repr

/-- The commands. -/
inductive Instr where
  /-- HARDWARE_RESET (R61, R196): `reached` bytes of a save write in flight had reached the memory. -/
  | hardwareReset (reached : Nat)
  /-- RESET_RELEASE (R189): the strap pins, and the plan area as the tools left it during the reset. -/
  | resetRelease (straps : Nat) (plan : List Byte)
  /-- MEMORY_NO_ANSWER (R189, R192, R195). -/
  | memoryNoAnswer (access : MemoryAccess)
  /-- PLAN_REFUSED (R191). -/
  | planRefused
  /-- PLAN_ACCEPTED (R193): the position sense of every switch as read at step 5. -/
  | planAccepted (sense : SenseLevels)
  /-- FRAME_RECEIVED (R160): the bytes after the start marker, and the sense levels at the event. -/
  | frameReceived (bytes : List Byte) (sense : SenseLevels)
  /-- FRAME_GAP_TIMEOUT (R160). -/
  | frameGapTimeout
  /-- RESPONSE_SEND_COMPLETE (R161): the sense levels serve a held RESTART or CLEAR FAULT. -/
  | responseSendComplete (sense : SenseLevels)
  /-- REQUEST_UNKNOWN_KIND (R163 step 1). -/
  | requestUnknownKind (id kind : Nat)
  /-- MAKE (R164). -/
  | make (id route : Nat) (target frequency : Option Nat)
  /-- BREAK (R164). -/
  | breakRoute (id route : Nat)
  /-- EXCHANGE (R164): break route first, make route second. -/
  | exchange (id breakRoute makeRoute : Nat) (target frequency : Option Nat)
  /-- RETRIM (R164). -/
  | retrim (id route : Nat) (target frequency : Option Nat)
  /-- CANCEL (R138, R168). -/
  | cancel (id requestId : Nat)
  /-- TAKE_NOTICE (R168, R179). -/
  | takeNotice (id : Nat)
  /-- QUERY_NODE (R170). -/
  | queryNode (id : Nat)
  /-- QUERY_ROUTE (R40, R169). -/
  | queryRoute (id route : Nat)
  /-- QUERY_SWITCH (R23, R169). -/
  | querySwitch (id index : Nat)
  /-- CLEAR_FAULT (R22, R171). -/
  | clearFault (id index : Nat) (sense : SenseLevels)
  /-- CLEAR_EVENTS (R171, R182): the event bits of section 12.2. -/
  | clearEvents (id : Nat) (events : Word16)
  /-- SET_NOTIFY_MAP (R171, R183): one byte for each event. -/
  | setNotifyMap (id : Nat) (lines : List Byte)
  /-- SAVE_WEAR (R172, R194). -/
  | saveWear (id : Nat)
  /-- SAVE_WEAR_WRITE_ACCEPTED (R195). -/
  | saveWearWriteAccepted
  /-- SAVE_WEAR_WRITE_FAILED (R195): `reached` bytes of the write had reached the memory. -/
  | saveWearWriteFailed (reached : Nat)
  /-- LEAVE_BUS (R53, R173). -/
  | leaveBus (id : Nat)
  /-- JOIN_BUS (R54, R173). -/
  | joinBus (id : Nat)
  /-- RESTART (R174): the sense levels read for stopped switches (R25). -/
  | restart (id : Nat) (sense : SenseLevels)
  /-- SYNC_RECOGNISED (R45). -/
  | syncRecognised
  /-- FRAME_TIMER_EXPIRY (R44). -/
  | frameTimerExpiry
  /-- SEARCH_SPAN_EXPIRY (R45). -/
  | searchSpanExpiry
  /-- OWN_SLOT_START (R46). -/
  | ownSlotStart
  /-- SLOT_END (R48) of the next slot of the frame: the bits the line carried in it. -/
  | slotEnd (line : Bits)
  /-- FRAME_END (R43): the sense levels at the frame end, which its settle judgements read. -/
  | frameEnd (sense : SenseLevels)
  /-- SETTLE_END (R17, R18). -/
  | settleEnd (index : Nat)
  /-- ANSWER_WINDOW_EXPIRY (R74). -/
  | answerWindowExpiry (tag : Tag)
  /-- QUIET_TIMEOUT (R76). -/
  | quietTimeout (tag : Tag)
  /-- LINGER_EXPIRY (R85). -/
  | lingerExpiry (tag : Tag)
  /-- BACKOFF_EXPIRY (R137). -/
  | backoffExpiry (slot : SlotName)
  /-- TAKE_UP (R130). -/
  | takeUp
  /-- SILENCE_COUNT_COMPLETE (R51). -/
  | silenceCountComplete
  /-- CLEAR_COUNT_COMPLETE (R52). -/
  | clearCountComplete
  /-- PEER_ABSENT (R58, R146). -/
  | peerAbsent
  /-- DETECTOR_SAMPLE (R95): the level in deci-dBm as the front end gives it. -/
  | detectorSample (input : Nat) (level : Int)
  /-- READY_PULSE_EXPIRY (R105). -/
  | readyPulseExpiry (line : Nat)
deriving DecidableEq, Repr

end Sys2Proof
end

