-- ==== Sys2Proof/WellFormed.lean ====
section
/-! DEFINITION. Which commands the block's wires can carry: each operand within the range its field or pin has. -/

namespace Sys2Proof

/-- A field of two bytes on the controller port (section 12.2). -/
def fits16 (n : Nat) : Bool := n < 65536

/-- An optional field of two bytes (section 12.2). -/
def fitsOption16 : Option Nat → Bool
  | none => true
  | some n => fits16 n

/-- Sense levels name switches 0 to 47 and positions 0 to 255, each switch once (R1). -/
def senseOk (sense : SenseLevels) : Bool :=
  sense.all (fun p => p.1 < 48 && p.2 < 256) && decide ((sense.map Prod.fst).Nodup)

/-- A tag of a slot record (R198 section 12.1). -/
def Tag.ok (t : Tag) : Bool := 1 ≤ t.sponsor && t.sponsor ≤ 30 && t.seq < 256

/-- The bytes of a completed frame are as many as its length field gives (R160). -/
def frameComplete : List Byte → Bool
  | hi :: lo :: rest => rest.length == hi.toNat * 256 + lo.toNat
  | _ => false

/-- Bytes that a save write can have put into the memory before it ended: at most one count of 4 (section 12.3). -/
def reachedOk (reached : Nat) : Bool := reached ≤ 4

/-- The well-formed commands. -/
def Instr.wellFormed : Instr → Bool
  | .hardwareReset reached => reachedOk reached
  | .resetRelease straps plan => straps < 32 && plan.length ≤ Config.wearBase
  | .memoryNoAnswer (.saveWrite reached) => reachedOk reached
  | .memoryNoAnswer .planRead => true
  | .memoryNoAnswer .wearRead => true
  | .planRefused => true
  | .planAccepted sense => senseOk sense
  | .frameReceived bytes sense => frameComplete bytes && senseOk sense
  | .frameGapTimeout => true
  | .responseSendComplete sense => senseOk sense
  | .requestUnknownKind id kind => fits16 id && kind < 256 && !(1 ≤ kind && kind ≤ 16)
  | .make id route target frequency => fits16 id && fits16 route && fitsOption16 target && fitsOption16 frequency
  | .breakRoute id route => fits16 id && fits16 route
  | .exchange id brk mk target frequency =>
      fits16 id && fits16 brk && fits16 mk && fitsOption16 target && fitsOption16 frequency
  | .retrim id route target frequency => fits16 id && fits16 route && fitsOption16 target && fitsOption16 frequency
  | .cancel id requestId => fits16 id && fits16 requestId
  | .takeNotice id => fits16 id
  | .queryNode id => fits16 id
  | .queryRoute id route => fits16 id && fits16 route
  | .querySwitch id index => fits16 id && index < 256
  | .clearFault id index sense => fits16 id && index < 256 && senseOk sense
  | .clearEvents id _ => fits16 id
  | .setNotifyMap id lines => fits16 id && lines.length == 10
  | .saveWear id => fits16 id
  | .saveWearWriteAccepted => true
  | .saveWearWriteFailed reached => reachedOk reached
  | .leaveBus id => fits16 id
  | .joinBus id => fits16 id
  | .restart id sense => fits16 id && senseOk sense
  | .syncRecognised => true
  | .frameTimerExpiry => true
  | .searchSpanExpiry => true
  | .ownSlotStart => true
  | .slotEnd line => line.length ≤ 480
  | .frameEnd sense => senseOk sense
  | .settleEnd index => index < 48
  | .answerWindowExpiry tag => tag.ok
  | .quietTimeout tag => tag.ok
  | .lingerExpiry tag => tag.ok
  | .backoffExpiry _ => true
  | .takeUp => true
  | .silenceCountComplete => true
  | .clearCountComplete => true
  | .peerAbsent => true
  | .detectorSample input _ => input < 8
  | .readyPulseExpiry line => line < 4

end Sys2Proof
end

