-- ==== Sys2Proof/Machine/State.lean ====
section
/-! DEFINITION. The node's state as plain data, block by block (spec/00_scope.md "Blocks"), and its value right after
hardware reset. Every field is listed with its rule in INVENTORY.md. -/

namespace Sys2Proof.Machine

/-! ### Switches and claims (chapter 1) -/

/-- Switch kinds, in the order of R1. -/
inductive SwitchKind where
  | spdt
  | sp4t
  | sp8t
  | transfer
  | stepatt
deriving DecidableEq, Repr

/-- The plan part of a switch record (R1). `step` and `maxCode` are 0 for a kind other than STEPATT. -/
structure SwitchPlan where
  index : Nat
  kind : SwitchKind
  step : Nat
  maxCode : Nat
  sensed : Bool
  settleTime : Nat
  partner : Option Nat
  lifeLimit : Option Nat
deriving DecidableEq, Repr

/-- Who holds a claim entry (R4): a tag (pending) or a route (established). -/
inductive Holder where
  | pending (tag : Tag)
  | established (route : Nat)
deriving DecidableEq, Repr

/-- The successor of a claim entry (R4, R8). -/
structure Successor where
  tag : Tag
  position : Option Nat
deriving DecidableEq, Repr

/-- A claim entry (R4). -/
structure Claim where
  holder : Holder
  position : Option Nat
  successor : Option Successor
deriving DecidableEq, Repr

/-- Switch states (R2). -/
inductive SwitchState where
  | still
  | moving
  | fault
deriving DecidableEq, Repr

/-- Reasons of a switch in FAULT (R2). -/
inductive FaultReason where
  | sense
  | skew
deriving DecidableEq, Repr

/-- Outcomes of a settle (R17, R18). -/
inductive SettleOutcome where
  | right
  | sense
  | skew
deriving DecidableEq, Repr

/-- A switch record (R1, R2). `current = none` is UNKNOWN. `driveLines` is the position toward which the switch's
drive lines are asserted, none when they are released (R14, R17). -/
structure Switch where
  plan : SwitchPlan
  state : SwitchState
  current : Option Nat
  commanded : Option Nat
  settleLeft : Nat
  faultReason : Option FaultReason
  wear : Nat
  worn : Bool
  claims : List Claim
  waiters : List Tag
  driveLines : Option Nat
deriving DecidableEq, Repr

/-! ### Routes (chapter 2) -/

/-- One setting of a route (R27). -/
structure Setting where
  switch : Nat
  position : Nat
deriving DecidableEq, Repr

/-- The plan part of a route record (R27). -/
structure RoutePlan where
  id : Nat
  settings : List Setting
  participants : List Nat
  trimNode : Option Nat
  defaultTarget : Option Nat
  defaultFrequency : Nat
  table : Option Nat
  detectors : List Nat
  inhibits : List Nat
  ready : Option Nat
  noRetry : Bool
  hotTolerant : Bool
  trimAttenuator : Option Nat
deriving DecidableEq, Repr

/-- Route states (R29). -/
inductive RouteState where
  | idle
  | established
  | orphaned
deriving DecidableEq, Repr

/-- Level flags (R28, R118). -/
inductive LevelFlag where
  | none
  | short
  | long
deriving DecidableEq, Repr

/-- A route record (R27, R28). -/
structure Route where
  plan : RoutePlan
  state : RouteState
  holder : Option Nat
  established : List Nat
  frequency : Option Nat
  target : Option Nat
  achieved : Option Nat
  flag : LevelFlag
  hotMade : Bool
  busy : Option Tag
deriving DecidableEq, Repr

/-- The Route Table (R26, R38). -/
structure Rtb where
  routes : List Route
  stray : Nat
deriving DecidableEq, Repr

/-! ### Records of the Path Bus (chapter 3, section 12.1) -/

/-- Object reasons, in the order of their codes (R70, R198). -/
inductive ObjectReason where
  | held
  | full
  | faulty
  | unknown
  | noTrim
  | notHolder
  | routeBusy
deriving DecidableEq, Repr

/-- Fail reasons, in the order of their codes (R70, R198). -/
inductive FailReason where
  | hot
  | sense
  | skew
  | noAnswer
deriving DecidableEq, Repr

/-- A report with its detail and value (R70). -/
inductive Report where
  | accept (loss : Nat)
  | object (reason : ObjectReason)
  | quiet
  | settled (flag : LevelFlag) (hot : Bool) (achieved : Nat)
  | fail (reason : FailReason)
  | withdraw
deriving DecidableEq, Repr

/-- A stage entry of a slot record (R70). -/
structure StageEntry where
  tag : Tag
  make : Nat
  report : Report
deriving DecidableEq, Repr

/-- A PROPOSE (section 12.1). -/
structure Propose where
  seq : Nat
  make : Nat
  brk : Option Nat
  frequency : Nat
  target : Option Nat
  trimNode : Option Nat
  participants : List Nat
  window : Nat
  hotTolerant : Bool
deriving DecidableEq, Repr

/-- A message (R46, R47). -/
inductive Message where
  | propose (p : Propose)
  | release (route : Nat) (force : Bool)
deriving DecidableEq, Repr

/-- A slot record less its check value, which the fields determine (R46, R198). -/
structure SlotRecord where
  sender : Nat
  draining : Bool
  entries : List StageEntry
  message : Option Message
deriving DecidableEq, Repr

/-! ### The bus side (chapter 3) -/

/-- Node bus states (R49). -/
inductive BusState where
  | loading
  | planFault
  | silent
  | listen
  | onBus
  | draining
  | offBus
  | duplicate
deriving DecidableEq, Repr

/-- Causes of DUPLICATE (R56). -/
inductive DuplicateCause where
  | ownSlotInUse
  | ownRecordFailed
  | ownRecordAltered
deriving DecidableEq, Repr

/-- Where the node stands in a frame (R43, R45): between a frame end and the next sync, in the slots with the number
of the slot that ends next (31 once slot 30 has ended), or in a frame whose slots are not judged (R56). -/
inductive FramePlace where
  | idle
  | slots (next : Nat)
  | unjudged
deriving DecidableEq, Repr

/-- What the node drives on the line (R44, R46, R61). -/
inductive BusDrive where
  | nothing
  | sync
  | record
deriving DecidableEq, Repr

/-- A message on the outbound list, with the sponsor slot that placed it (R47). -/
structure Outbound where
  slot : SlotName
  message : Message
deriving DecidableEq, Repr

/-- Presence of a peer (R57). -/
inductive Presence where
  | unheard
  | present
  | absent
deriving DecidableEq, Repr

/-- A peer table entry (R57). `lastDraining` is the bus state last heard: absent, ON-BUS (false) or DRAINING (true). -/
structure Peer where
  node : Nat
  presence : Presence
  missed : Nat
  checkFailures : Nat
  lastDraining : Option Bool
deriving DecidableEq, Repr

/-- The Bus Interface Unit (chapter 3). -/
structure Biu where
  node : Option Nat
  busState : BusState
  cause : Option DuplicateCause
  silence : Nat
  clear : Nat
  timerRunning : Bool
  synced : Bool
  period : Nat
  place : FramePlace
  begunInListen : Bool
  ownCopy : Option SlotRecord
  drive : BusDrive
  outbound : List Outbound
  peers : List Peer
  heard : List Nat
deriving DecidableEq, Repr

/-! ### Changeovers (chapter 4) -/

/-- Kinds of changeover (R63). -/
inductive ChangeKind where
  | make
  | exchange
  | retrim
deriving DecidableEq, Repr

/-- Roles (R63). -/
inductive Role where
  | participant
  | breakOnly
  | sponsorOnly
deriving DecidableEq, Repr

/-- Phases (R63). -/
inductive Phase where
  | answer
  | cold
  | move
  | done
  | failed
deriving DecidableEq, Repr

/-- Rank of a standing (R63, R71). -/
inductive Rank where
  | none
  | accept
  | quiet
  | settled
deriving DecidableEq, Repr

/-- What a SETTLED report stored in a standing (R71). -/
structure SettledReport where
  flag : LevelFlag
  hot : Bool
  achieved : Nat
deriving DecidableEq, Repr

/-- One participant's standing in a context (R63, R71). -/
structure Standing where
  node : Nat
  rank : Rank
  accept : Option Nat
  settled : Option SettledReport
deriving DecidableEq, Repr

/-- The trim outcome (R75, R119). -/
structure TrimOutcome where
  code : Nat
  flag : LevelFlag
  achieved : Nat
deriving DecidableEq, Repr

/-- State of a withdrawal (R86, R87). -/
inductive Withdrawal where
  | none
  | pending
  | sent
deriving DecidableEq, Repr

/-- Reasons of a close, in the order of R82. -/
inductive CloseReason where
  | ok
  | objected
  | noAnswer
  | hot
  | sense
  | skew
  | withdrawn
  | peerLost
deriving DecidableEq, Repr

/-- A close record (R82). -/
structure CloseRecord where
  reason : CloseReason
  node : Option Nat
  objection : Option ObjectReason
deriving DecidableEq, Repr

/-- A context of the changeover table (R63). `kept` is the report kept aside under a WITHDRAW (R86), `quietWait` that
the quiet wait of R76 runs. -/
structure Context where
  tag : Tag
  kind : ChangeKind
  make : Nat
  brk : Option Nat
  frequency : Nat
  target : Option Nat
  trimNode : Option Nat
  participants : List Nat
  hotTolerant : Bool
  role : Role
  phase : Phase
  report : Option Report
  kept : Option Report
  standing : List Standing
  window : Nat
  quietLeft : Nat
  quietWait : Bool
  waitSet : List Nat
  driven : List Nat
  hotMark : Bool
  trim : Option TrimOutcome
  withdrawal : Withdrawal
  close : Option CloseRecord
  passedCommit : Bool
  linger : Nat
deriving DecidableEq, Repr

/-- The Changeover Engine (chapter 4). Contexts stand in the order in which they opened (R70). -/
structure Cxe where
  contexts : List Context
  reservations : List SlotName
  rejected : Nat
  unplaced : Nat
  quietTimeout : Nat
deriving DecidableEq, Repr

/-! ### The cold window (chapter 5) -/

/-- A detector record (R94). -/
structure Detector where
  input : Nat
  threshold : Int
  hysteresis : Nat
  hot : Bool
  fresh : Bool
  lastSample : Option Int
deriving DecidableEq, Repr

/-- A guard entry (R97). `watch` is ON when true. -/
structure GuardEntry where
  tag : Tag
  lines : List Nat
  detectors : List Nat
  hotTolerant : Bool
  watch : Bool
deriving DecidableEq, Repr

/-- An inhibit line (R99). -/
structure InhibitLine where
  line : Nat
  users : Nat
  asserted : Bool
deriving DecidableEq, Repr

/-- A ready line (R105). `timeLeft` is the time remaining as last set; the microseconds since are not counted (log 4). -/
structure ReadyLine where
  line : Nat
  pulsing : Bool
  timeLeft : Nat
  active : Bool
deriving DecidableEq, Repr

/-- The RF Guard (chapter 5). -/
structure Rfg where
  detectors : List Detector
  guards : List GuardEntry
  lines : List InhibitLine
  ready : List ReadyLine
  pulseWidth : Nat
deriving DecidableEq, Repr

/-! ### Level trim (chapter 6) -/

/-- A point of a calibration table (R110). -/
structure CalPoint where
  frequency : Nat
  loss : Nat
deriving DecidableEq, Repr

/-- A calibration table (R110). -/
structure CalTable where
  index : Nat
  points : List CalPoint
deriving DecidableEq, Repr

/-! ### Sponsoring (chapter 7) -/

/-- The changeover-bearing request kinds (R128). -/
inductive RequestKind where
  | make
  | breakRoute
  | exchange
  | retrim
deriving DecidableEq, Repr

/-- A request as queued and as held by a sponsor slot (R128, R165). `route` is the request's first route and `second`
the make route of an EXCHANGE. -/
structure Job where
  id : Nat
  kind : RequestKind
  route : Nat
  second : Option Nat
  target : Option Nat
  frequency : Option Nat
deriving DecidableEq, Repr

/-- States of a sponsor slot (R129). -/
inductive SlotState where
  | free
  | sending
  | opened
  | backoff
deriving DecidableEq, Repr

/-- How a CANCEL of a slot's request stands (R128). -/
inductive CancelState where
  | none
  | waiting
  | taken
  | late
deriving DecidableEq, Repr

/-- A sponsor slot (R128). -/
structure SponsorSlot where
  state : SlotState
  job : Option Job
  attempts : Nat
  tag : Option Tag
  sent : Bool
  backoff : Nat
  cancel : CancelState
  lastClose : Option CloseRecord
deriving DecidableEq, Repr

/-- A slot that is FREE, every field cleared (R144). -/
def SponsorSlot.empty : SponsorSlot :=
  { state := .free, job := none, attempts := 0, tag := none, sent := false, backoff := 0, cancel := .none, lastClose := none }

/-- The Sponsor Unit (chapter 7), with the answer window W that R188 gives it. -/
structure Spu where
  slotA : SponsorSlot
  slotB : SponsorSlot
  seq : Nat
  single : Bool
  window : Nat
deriving DecidableEq, Repr

/-! ### Notices and events (chapter 10) -/

/-- Kinds of notice, in the order of R177. -/
inductive NoticeKind where
  | made
  | exchanged
  | retrimmed
  | released
  | failed
  | cancelled
  | orphaned
deriving DecidableEq, Repr

/-- Results of a notice, in the order of R177. -/
inductive NoticeResult where
  | ok
  | objected
  | noAnswer
  | hot
  | sense
  | skew
  | withdrawn
  | peerLost
  | excessiveContention
  | notHolder
  | routeBusy
  | badValue
deriving DecidableEq, Repr

/-- A notice (R177). -/
structure Notice where
  id : Nat
  kind : NoticeKind
  route : Nat
  second : Option Nat
  result : NoticeResult
  node : Option Nat
  objection : Option ObjectReason
  attempts : Nat
  achieved : Option Nat
  residual : Option Int
  short : Bool
  long : Bool
  hotMade : Bool
  cancelTooLate : Bool
  lost : Nat
deriving DecidableEq, Repr

/-- The ten events, in the order of section 10.3. -/
inductive EventName where
  | notice
  | hold
  | plan
  | switchFault
  | hotMove
  | worn
  | orphan
  | peer
  | busCheck
  | duplicate
deriving DecidableEq, Repr

/-- Last sources of edge events (section 10.3). -/
inductive EventSource where
  | switch (index : Nat)
  | wearAreaLost
  | route (id : Nat)
  | node (number : Nat)
  | cause (c : DuplicateCause)
deriving DecidableEq, Repr

/-- Where the notify map sends an event (R183). -/
inductive NotifyLine where
  | none
  | line1
  | line2
deriving DecidableEq, Repr

/-- An event's status and its place in the notify map (R180, R181, R183). -/
structure EventStatus where
  name : EventName
  raised : Bool
  repeats : Nat
  source : Option EventSource
  line : NotifyLine
deriving DecidableEq, Repr

/-! ### Plan loader (chapter 11) -/

/-- Load states (R197). -/
inductive LoadState where
  | loading
  | loaded
  | fault
deriving DecidableEq, Repr

/-- Causes of a refused plan (R191). -/
inductive PlanCause where
  | strap
  | memory
  | header
  | check
  | range
  | order
  | partner
  | reference
  | setting
  | trim
deriving DecidableEq, Repr

/-- Sections of the plan that a content check can name (R188, R190). -/
inductive PlanSection where
  | header
  | constants
  | switches
  | detectors
  | tables
  | routes
deriving DecidableEq, Repr

/-- The cause of a refused plan, with section and entry position for the causes of R190 (R191, log 20). -/
structure PlanFault where
  cause : PlanCause
  at? : Option (PlanSection × Nat)
deriving DecidableEq, Repr

/-- The writes of a save, in order (R195, R201). -/
inductive SaveWrite where
  | openMark
  | count (index : Nat)
  | check
  | closeMark
deriving DecidableEq, Repr

/-- Save states (R194): WRITING holds the copy of the 48 counts and the write the memory has not yet accepted. -/
inductive SaveState where
  | idle
  | writing (copy : List Nat) (at? : SaveWrite)
deriving DecidableEq, Repr

/-- Outcomes of the last save (R194). -/
inductive LastSave where
  | none
  | complete
  | failed
deriving DecidableEq, Repr

/-- The Plan Loader (chapter 11). `begun` is that the reset has ended and the load runs (R189); `wearValid` is the wear
area as found at load: absent, VALID (true) or LOST (false). -/
structure Pld where
  load : LoadState
  begun : Bool
  fault : Option PlanFault
  wearValid : Option Bool
  save : SaveState
  lastSave : LastSave
deriving DecidableEq, Repr

/-! ### Responses (chapter 9) -/

/-- The body of a request frame as its kind gives it (section 12.2). `wrongForm` is a body that fails the form
test of R163 step 3 for a kind the port has; `unknownKind` is a frame of no kind of the port. -/
inductive RequestBody where
  | make (route : Nat) (target frequency : Option Nat)
  | breakRoute (route : Nat)
  | exchange (breakRoute makeRoute : Nat) (target frequency : Option Nat)
  | retrim (route : Nat) (target frequency : Option Nat)
  | cancel (requestId : Nat)
  | takeNotice
  | queryRoute (route : Nat)
  | querySwitch (index : Nat)
  | queryNode
  | clearFault (index : Nat)
  | clearEvents (events : Word16)
  | setNotifyMap (lines : List Byte)
  | saveWear
  | leaveBus
  | joinBus
  | restart
  | wrongForm (kind : Nat)
  | unknownKind (kind : Nat)
deriving DecidableEq, Repr

/-- A good request frame (R160): its request id and what it asks. -/
structure Request where
  id : Nat
  body : RequestBody
deriving DecidableEq, Repr

/-- Refusal reasons, in the order of their codes (R162, section 12.2). -/
inductive RefusalReason where
  | badRequest
  | noPlan
  | offBus
  | duplicate
  | unknownRoute
  | badValue
  | notHolder
  | routeBusy
  | queueFull
deriving DecidableEq, Repr

/-- The bus part of a QUERY NODE answer (R60). -/
structure BusAnswer where
  node : Option Nat
  busState : BusState
  cause : Option DuplicateCause
  silence : Option Nat
  clear : Option Nat
  synced : Bool
  period : Nat
  outbound : List SlotName
  peers : List Peer
deriving DecidableEq, Repr

/-- An inhibit line as QUERY NODE shows it (R107). -/
structure LineAnswer where
  line : Nat
  users : Nat
  asserted : Bool
  tags : List Tag
deriving DecidableEq, Repr

/-- A ready line as QUERY NODE shows it (R107): the time remaining when PULSING. -/
structure ReadyAnswer where
  line : Nat
  timeLeft : Option Nat
deriving DecidableEq, Repr

/-- The answer to QUERY NODE, part by part (R170). -/
structure NodeAnswer where
  bus : BusAnswer
  contexts : List Context
  reservations : List SlotName
  rejected : Nat
  unplaced : Nat
  slotA : SponsorSlot
  slotB : SponsorSlot
  seq : Nat
  single : Bool
  detectors : List Detector
  lines : List LineAnswer
  guards : List GuardEntry
  ready : List ReadyAnswer
  pulseWidth : Nat
  stray : Nat
  load : LoadState
  fault : Option PlanFault
  wearValid : Option Bool
  saving : Bool
  lastSave : LastSave
  framingFaults : Nat
  overruns : Nat
  queue : List Job
  hold : Bool
  notices : Nat
  events : List EventStatus
deriving DecidableEq, Repr

/-- The body of an ANSWER (R169, R170). -/
inductive Answer where
  | route (r : Route)
  | switch (w : Switch)
  | node (n : NodeAnswer)
deriving DecidableEq, Repr

/-- Results of a response (R162). -/
inductive ResponseResult where
  | taken
  | tooLate
  | notFound
  | notice (n : Notice)
  | empty
  | answer (a : Answer)
  | noChange
  | cleared
  | stillFaulty
  | notFaulty
  | busy
  | refused (reason : RefusalReason)
deriving DecidableEq, Repr

/-- A response (R161, R162): the request id and kind it answers, and its result. -/
structure Response where
  id : Nat
  kind : Nat
  result : ResponseResult
deriving DecidableEq, Repr

/-- The Controller Port (chapters 9 and 10). -/
structure Ctp where
  queue : List Job
  notices : List Notice
  events : List EventStatus
  hold : Bool
  notify1 : Bool
  notify2 : Bool
  rxBuffer : Option Request
  sending : Option Response
  framingFaults : Nat
  overruns : Nat
deriving DecidableEq, Repr

/-! ### The node -/

/-- Work that a counted frame end still owes to a block (R43; log 1). -/
inductive Work where
  | settle (index : Nat)
  | quiet (tag : Tag)
  | window (tag : Tag)
  | absence
  | linger (tag : Tag)
  | silence
  | clear
  | backoff (slot : SlotName)
  | takeUp
deriving DecidableEq, Repr

/-- The state of the node. `mem` is the configuration memory (section 12.3); `sense`, `agenda`, `freeDraws` and `pending`
are the model's own (INVENTORY.md). -/
structure State where
  biu : Biu
  cxe : Cxe
  sbc : List Switch
  rfg : Rfg
  ltu : List CalTable
  rtb : Rtb
  spu : Spu
  ctp : Ctp
  pld : Pld
  mem : List Host.Cell
  sense : SenseLevels
  agenda : List Work
  freeDraws : Nat
  pending : List Instr
deriving DecidableEq, Repr

/-- Faults: none. The manual gives the node no failure that stops it (log 10). Raised by nobody; safe. -/
inductive Fault where
deriving DecidableEq, Repr

/-- Refusals. -/
inductive Refusal where
  /-- Raised by exec for a command without a meaning in the model; no command is left without one. Safe. -/
  | notModelled (mnemonic : String)
deriving DecidableEq, Repr

/-! ### Reset values -/

/-- The peer table after hardware reset and, less the check-failure counts, after RESTART (R61, R62). -/
def Peer.blank (node : Nat) : Peer :=
  { node := node, presence := .unheard, missed := 0, checkFailures := 0, lastDraining := none }

/-- An event lowered, with the line the map gives it (R186). -/
def EventStatus.lowered (name : EventName) (line : NotifyLine) : EventStatus :=
  { name := name, raised := false, repeats := 0, source := none, line := line }

/-- The ten events lowered under the default notify map (R183, R186). -/
def EventStatus.defaults : List EventStatus :=
  [ .lowered .notice .line1, .lowered .hold .none, .lowered .plan .line2, .lowered .switchFault .line2,
    .lowered .hotMove .none, .lowered .worn .none, .lowered .orphan .none, .lowered .peer .none,
    .lowered .busCheck .none, .lowered .duplicate .line2 ]

/-- The Bus Interface Unit at hardware reset (R61). -/
def Biu.reset : Biu :=
  { node := none, busState := .loading, cause := none, silence := 0, clear := 0, timerRunning := false, synced := false,
    period := 0, place := .idle, begunInListen := false, ownCopy := none, drive := .nothing, outbound := [],
    peers := (List.range 30).map (fun k => Peer.blank (k + 1)), heard := [] }

/-- The Changeover Engine at hardware reset (R92). -/
def Cxe.reset : Cxe :=
  { contexts := [], reservations := [], rejected := 0, unplaced := 0, quietTimeout := 0 }

/-- The RF Guard at hardware reset (R108). -/
def Rfg.reset : Rfg :=
  { detectors := [], guards := [],
    lines := (List.range 8).map (fun k => { line := k, users := 0, asserted := false }),
    ready := (List.range 4).map (fun k => { line := k, pulsing := false, timeLeft := 0, active := false }),
    pulseWidth := 0 }

/-- The Sponsor Unit at hardware reset (R144). -/
def Spu.reset : Spu :=
  { slotA := .empty, slotB := .empty, seq := 0, single := false, window := 0 }

/-- The Controller Port at hardware reset (R176, R186). -/
def Ctp.reset : Ctp :=
  { queue := [], notices := [], events := EventStatus.defaults, hold := false, notify1 := false, notify2 := false,
    rxBuffer := none, sending := none, framingFaults := 0, overruns := 0 }

/-- The Plan Loader at hardware reset (R197), the reset not yet ended (R189). -/
def Pld.reset : Pld :=
  { load := .loading, begun := false, fault := none, wearValid := none, save := .idle, lastSave := .none }

/-- The node right after hardware reset, with an empty configuration memory (log 7) and nothing queued. -/
def State.reset : State :=
  { biu := .reset, cxe := .reset, sbc := [], rfg := .reset, ltu := [], rtb := { routes := [], stray := 0 }, spu := .reset,
    ctp := .reset, pld := .reset, mem := [], sense := [], agenda := [], freeDraws := 0, pending := [] }

end Sys2Proof.Machine
end

