-- ==== Sys2Proof/Machine/Ops.lean ====
section
/-! DEFINITION. Named operations shared by the blocks: saturating counts, the records of each block by their key,
the configuration memory, and the one check computation of R198. -/

namespace Sys2Proof.Machine

/-- A quantity described as saturating stays at its upper bound (00_scope.md Conventions). -/
def satAdd (bound n k : Nat) : Nat := min bound (n + k)

/-! ### Records by key -/

/-- This node's number, 0 before the straps are read (R50). -/
def State.me (s : State) : Nat := s.biu.node.getD 0

/-- The switch record of an index, if the plan fills it (R1). -/
def State.switch? (s : State) (index : Nat) : Option Switch := s.sbc.find? (fun w => w.plan.index == index)

/-- Change the switch record of an index. -/
def State.onSwitch (s : State) (index : Nat) (f : Switch → Switch) : State :=
  { s with sbc := s.sbc.map (fun w => if w.plan.index = index then f w else w) }

/-- Change every switch record. -/
def State.onSwitches (s : State) (f : Switch → Switch) : State := { s with sbc := s.sbc.map f }

/-- The partner of a switch, if it has one (R3). -/
def State.partner? (s : State) (index : Nat) : Option Nat := (s.switch? index).bind (fun w => w.plan.partner)

/-- The route record of an id, if this node holds one (R26). -/
def State.route? (s : State) (id : Nat) : Option Route := s.rtb.routes.find? (fun r => r.plan.id == id)

/-- Change the route record of an id. -/
def State.onRoute (s : State) (id : Nat) (f : Route → Route) : State :=
  { s with rtb := { s.rtb with routes := s.rtb.routes.map (fun r => if r.plan.id = id then f r else r) } }

/-- Change every route record. -/
def State.onRoutes (s : State) (f : Route → Route) : State :=
  { s with rtb := { s.rtb with routes := s.rtb.routes.map f } }

/-- A participant record names this node in its plan participant list (R26). -/
def State.participantRecord (s : State) (r : Route) : Bool := r.plan.participants.contains s.me

/-- The context with a tag (R63: no two contexts hold the same tag). -/
def State.context? (s : State) (tag : Tag) : Option Context := s.cxe.contexts.find? (fun c => c.tag == tag)

/-- Change the context with a tag. -/
def State.onContext (s : State) (tag : Tag) (f : Context → Context) : State :=
  { s with cxe := { s.cxe with contexts := s.cxe.contexts.map (fun c => if c.tag = tag then f c else c) } }

/-- A sponsor slot by name (R128). -/
def State.slot (s : State) : SlotName → SponsorSlot
  | .a => s.spu.slotA
  | .b => s.spu.slotB

/-- Replace a sponsor slot. -/
def State.setSlot (s : State) (name : SlotName) (slot : SponsorSlot) : State :=
  match name with
  | .a => { s with spu := { s.spu with slotA := slot } }
  | .b => { s with spu := { s.spu with slotB := slot } }

/-- The other sponsor slot. -/
def otherSlot : SlotName → SlotName
  | .a => .b
  | .b => .a

/-- The guard entry with a tag (R97). -/
def State.guard? (s : State) (tag : Tag) : Option GuardEntry := s.rfg.guards.find? (fun g => g.tag == tag)

/-- Whether the node is on the bus to speak: ON-BUS or DRAINING (R46, R49). -/
def BusState.speaks : BusState → Bool
  | .onBus => true
  | .draining => true
  | _ => false

/-! ### Configuration memory (section 12.3) -/

/-- The byte the memory answers at an address. An address not listed answers no byte (log 7). -/
def Memory.read : List Host.Cell → Nat → Option Byte
  | [], _ => none
  | (k, b) :: rest, a => if k = a then some b else Memory.read rest a

/-- Store one byte, keeping the addresses strictly rising. -/
def Memory.write : List Host.Cell → Nat → Byte → List Host.Cell
  | [], a, b => [(a, b)]
  | (k, c) :: rest, a, b =>
    if a < k then (a, b) :: (k, c) :: rest
    else if a = k then (a, b) :: rest
    else (k, c) :: Memory.write rest a b

/-- Store bytes at rising addresses. -/
def Memory.writeBytes (mem : List Host.Cell) (a : Nat) : List Byte → List Host.Cell
  | [] => mem
  | b :: bs => Memory.writeBytes (Memory.write mem a b) (a + 1) bs

/-- The bytes of `n` addresses from `a`, none where the memory answers fewer. -/
def Memory.readBytes (mem : List Host.Cell) (a : Nat) : Nat → Option (List Byte)
  | 0 => some []
  | n + 1 =>
    match Memory.read mem a, Memory.readBytes mem (a + 1) n with
    | some b, some bs => some (b :: bs)
    | _, _ => none

/-- The bytes the memory answers from `a` on, at most `fuel`, up to the first address it answers nothing at. -/
def Memory.run (mem : List Host.Cell) (a : Nat) : Nat → List Byte
  | 0 => []
  | fuel + 1 =>
    match Memory.read mem a with
    | some b => b :: Memory.run mem (a + 1) fuel
    | none => []

/-- Addresses strictly rising from above `low` (`low` counts one past the address before). -/
def Memory.risingFrom (low : Nat) : List Host.Cell → Bool
  | [] => true
  | (k, _) :: rest => decide (low ≤ k) && Memory.risingFrom (k + 1) rest

/-- The canonical form of the memory: addresses strictly rising. An address not listed answers no byte, so no entry can
equal what an unlisted address answers. -/
def Memory.wf (mem : List Host.Cell) : Bool := Memory.risingFrom 0 mem

/-- A byte list as cells at rising addresses. -/
def Memory.cellsFrom (a : Nat) : List Byte → List Host.Cell
  | [] => []
  | b :: bs => (a, b) :: Memory.cellsFrom (a + 1) bs

/-- The memory with its plan area replaced by what the tools left there (chapter 11, opening; log 7): at most the
bytes before the wear area. -/
def Memory.placePlan (mem : List Host.Cell) (plan : List Byte) : List Host.Cell :=
  Memory.cellsFrom 0 (plan.take Config.wearBase) ++ mem.filter (fun c => decide (Config.wearBase ≤ c.1))

/-! ### Bits, bytes and the check computation (R198) -/

/-- The `width` low bits of a number, most significant first (R198). -/
def bitsOf : Nat → Nat → Bits
  | 0, _ => []
  | width + 1, n => n.testBit width :: bitsOf width n

/-- The number that bits spell, most significant first (R198). -/
def bitsValue (bits : Bits) : Nat := bits.foldl (fun n b => 2 * n + b.toNat) 0

/-- One bit through the check register: polynomial x^16 + x^12 + x^5 + 1 (R198). -/
def crcBit (reg : Word16) (b : Bool) : Word16 :=
  if reg.msb != b then (reg <<< 1) ^^^ 0x1021#16 else reg <<< 1

/-- The check value of bits in the order sent or stored: the register starts at all ones and is not inverted (R198). -/
def crc16 (bits : Bits) : Word16 := bits.foldl crcBit 0xFFFF#16

/-- The bits of bytes in order (R198). DESIGN CHOICE (log 45): each byte's most significant bit first. -/
def byteBits (bytes : List Byte) : Bits := bytes.flatMap (fun b => bitsOf 8 b.toNat)

/-- The check value of bytes in the order sent or stored (R198). -/
def crcBytes (bytes : List Byte) : Word16 := crc16 (byteBits bytes)

/-- The `count` low bytes of a number, most significant first (R198). -/
def bytesOf : Nat → Nat → List Byte
  | 0, _ => []
  | count + 1, n => BitVec.ofNat 8 (n / 256 ^ count) :: bytesOf count n

/-- The number that bytes spell, most significant first (R198). -/
def bytesValue (bytes : List Byte) : Nat := bytes.foldl (fun n b => 256 * n + b.toNat) 0

/-- A two's complement number of `width` bits as a signed number (R198). -/
def signedValue (width n : Nat) : Int := if n < 2 ^ (width - 1) then (n : Int) else (n : Int) - 2 ^ width

/-- A signed number in two's complement of `count` bytes (R198). -/
def signedBytes (count : Nat) (i : Int) : List Byte := bytesOf count (i % (256 : Int) ^ count).toNat

end Sys2Proof.Machine
end

