-- ==== Sys2Proof/Machine/Flags.lean ====
section
/-! DEFINITION. Status flags: the ten events and their repeat counts, the hold line, the notify lines, and the notice
queue (chapter 10, R167). -/

namespace Sys2Proof.Machine

/-- Which events are edge events (section 10.3). -/
def EventName.isEdge : EventName → Bool
  | .notice => false
  | .hold => false
  | .plan => false
  | _ => true

/-- The ten events in the order of their bits (sections 10.3 and 12.2). -/
def EventName.all : List EventName :=
  [.notice, .hold, .plan, .switchFault, .hotMove, .worn, .orphan, .peer, .busCheck, .duplicate]

/-- One firing of an edge event (R181). -/
def EventStatus.fire (source : EventSource) (e : EventStatus) : EventStatus :=
  if e.raised then { e with repeats := satAdd Config.count8 e.repeats 1, source := some source }
  else { e with raised := true, repeats := 0, source := some source }

/-- An edge event lowered (R182). -/
def EventStatus.lower (e : EventStatus) : EventStatus := { e with raised := false, repeats := 0, source := none }

/-- A block fires an edge event at the Controller Port (R181). -/
def State.fire (s : State) (name : EventName) (source : EventSource) : State :=
  { s with ctp := { s.ctp with
      events := s.ctp.events.map (fun e => if e.name = name then e.fire source else e) } }

/-- The status of an event by name. -/
def State.event? (s : State) (name : EventName) : Option EventStatus := s.ctp.events.find? (fun e => e.name == name)

/-- The hold line after an event that leaves `count` requests in the queue (R167). -/
def holdAfter (count : Nat) (asserted : Bool) : Bool :=
  if Config.holdHigh ≤ count then true else if count ≤ Config.holdLow then false else asserted

/-- Whether a level event's condition holds (R180). -/
def levelRaised (notices : List Notice) (hold : Bool) (bus : BusState) : EventName → Bool → Bool
  | .notice, _ => !notices.isEmpty
  | .hold, _ => hold
  | .plan, _ => bus == .planFault
  | _, raised => raised

/-- Whether a notify line is asserted under the map (R184). -/
def notifyAsserted (events : List EventStatus) (line : NotifyLine) : Bool :=
  events.any (fun e => e.raised && e.line == line)

/-- The end of one event at the node: the hold line is judged on the queue as it stands (R167), the level events follow
their conditions (R180), and the notify lines are judged (R184). -/
def State.complete (s : State) : State :=
  let hold := holdAfter s.ctp.queue.length s.ctp.hold
  let events := s.ctp.events.map (fun e =>
    { e with raised := levelRaised s.ctp.notices hold s.biu.busState e.name e.raised })
  { s with ctp := { s.ctp with
      hold := hold, events := events,
      notify1 := notifyAsserted events .line1, notify2 := notifyAsserted events .line2 } }

/-- A notice joins the notice queue, in place of the newest when the queue is full (R178). -/
def joinNotice (notices : List Notice) (n : Notice) : List Notice :=
  if notices.length < Config.noticeRoom then notices ++ [{ n with lost := 0 }]
  else
    let gone := match notices.getLast? with
      | some last => last.lost
      | none => 0
    notices.dropLast ++ [{ n with lost := satAdd Config.count8 gone 1 }]

/-- A block hands the Controller Port a notice (R178). -/
def State.notice (s : State) (n : Notice) : State :=
  { s with ctp := { s.ctp with notices := joinNotice s.ctp.notices n } }

end Sys2Proof.Machine
end

