-- ==== Sys2Proof/Machine/Guard.lean ====
section
/-! DEFINITION. The RF Guard: detectors, guard entries, inhibit lines, the quiet test, the hot test and the ready lines
(chapter 5). -/

namespace Sys2Proof.Machine

/-- A sample after saturation to -700 .. +300 (R95). -/
def saturateLevel (level : Int) : Int := max (-700) (min 300 level)

/-- Whether a detector record is HOT after a sample (R95, R96), the sample already saturated. -/
def Detector.hotAfter (d : Detector) (level : Int) : Bool :=
  if d.fresh then decide (d.threshold ≤ level)
  else if d.hot then decide (d.threshold - d.hysteresis ≤ level)
  else decide (d.threshold ≤ level)

/-- A sample taken by a detector record (R95, R96). -/
def Detector.sample (level : Int) (d : Detector) : Detector :=
  { d with hot := d.hotAfter (saturateLevel level), fresh := false, lastSample := some (saturateLevel level) }

/-- A detector record reset to HOT and fresh (R108, R109). -/
def Detector.refresh (d : Detector) : Detector := { d with hot := true, fresh := true, lastSample := none }

/-- The detector record of an input (R94). -/
def Rfg.detector? (g : Rfg) (input : Nat) : Option Detector := g.detectors.find? (fun d => d.input == input)

/-- Whether an input's detector is HOT. -/
def Rfg.inputHot (g : Rfg) (input : Nat) : Bool :=
  match g.detector? input with
  | some d => d.hot
  | none => false

/-- Whether some detector of a guard entry is HOT. -/
def Rfg.entryHot (g : Rfg) (e : GuardEntry) : Bool := e.detectors.any g.inputHot

/-- The guard entry of a tag. -/
def Rfg.entry? (g : Rfg) (tag : Tag) : Option GuardEntry := g.guards.find? (fun e => e.tag == tag)

/-- One more user of an inhibit line (R98, R99). -/
def InhibitLine.take (l : InhibitLine) : InhibitLine := { l with users := l.users + 1, asserted := true }

/-- One user fewer of an inhibit line (R99, R103). -/
def InhibitLine.release (l : InhibitLine) : InhibitLine :=
  { l with users := l.users - 1, asserted := decide (0 < l.users - 1) }

/-- The open request (R98): OPENED adds the entry and a user to each of its lines, IN USE changes nothing. DESIGN CHOICE
(log 31): entries stand, and are shown, in the order they were opened. -/
def Rfg.openGuard (g : Rfg) (tag : Tag) (lines detectors : List Nat) (hotTolerant : Bool) : Rfg :=
  match g.entry? tag with
  | some _ => g
  | none =>
    { g with
      guards := g.guards ++
        [{ tag := tag, lines := lines, detectors := detectors, hotTolerant := hotTolerant, watch := false }]
      lines := g.lines.map (fun l => if l.line ∈ lines then l.take else l) }

/-- Set the watch of an entry. -/
def Rfg.setWatch (g : Rfg) (tag : Tag) (on : Bool) : Rfg :=
  { g with guards := g.guards.map (fun e => if e.tag = tag then { e with watch := on } else e) }

/-- The quiet test (R100, R101): PASS (true) with the watch OFF, or NOT YET with the watch ON. -/
def Rfg.quietTest (g : Rfg) (tag : Tag) : Bool × Rfg :=
  match g.entry? tag with
  | none => (false, g)
  | some e =>
    if e.hotTolerant || !g.entryHot e then (true, g.setWatch tag false) else (false, g.setWatch tag true)

/-- The end-watch request (R102). -/
def Rfg.endWatch (g : Rfg) (tag : Tag) : Rfg := g.setWatch tag false

/-- The close request (R103): CLOSED takes the entry's user from each of its lines, NONE changes nothing. -/
def Rfg.closeGuard (g : Rfg) (tag : Tag) : Rfg :=
  match g.entry? tag with
  | none => g
  | some e =>
    { g with
      guards := g.guards.filter (fun x => x.tag != tag)
      lines := g.lines.map (fun l => if l.line ∈ e.lines then l.release else l) }

/-- The hot test at drive (R104). -/
def Rfg.hotTest (g : Rfg) (tag : Tag) : Bool :=
  match g.entry? tag with
  | some e => g.entryHot e
  | none => false

/-- A pulse request (R105). -/
def Rfg.pulse (g : Rfg) (line : Nat) : Rfg :=
  { g with ready := g.ready.map (fun r =>
      if r.line = line then { r with pulsing := true, timeLeft := g.pulseWidth, active := true } else r) }

/-- A ready line IDLE (R105, R109). -/
def ReadyLine.rest (r : ReadyLine) : ReadyLine := { r with pulsing := false, timeLeft := 0, active := false }

/-- The expiry of a pulse (R105). A line that is IDLE has no pulse to end. -/
def Rfg.pulseExpiry (g : Rfg) (line : Nat) : Rfg :=
  { g with ready := g.ready.map (fun r => if r.line = line && r.pulsing then r.rest else r) }

/-- A sample on an input (R95): the guard with the record classified, and the tags of the watched entries that then
pass their quiet test, whose watch goes OFF (R100). -/
def Rfg.takeSample (g : Rfg) (input : Nat) (level : Int) : Rfg × List Tag :=
  let before := g.inputHot input
  let g := { g with detectors := g.detectors.map (fun d => if d.input = input then d.sample level else d) }
  if g.inputHot input = before then (g, [])
  else
    let passing := g.guards.filter (fun e => e.watch && e.detectors.contains input && !g.entryHot e)
    ({ g with guards := g.guards.map (fun e =>
        if e.watch && e.detectors.contains input && !g.entryHot e then { e with watch := false } else e) },
     passing.map (fun e => e.tag))

/-- The guard at RESTART (R109). -/
def Rfg.restart (g : Rfg) : Rfg :=
  { g with
    guards := []
    lines := g.lines.map (fun l => { l with users := 0, asserted := false })
    ready := g.ready.map ReadyLine.rest
    detectors := g.detectors.map Detector.refresh }

end Sys2Proof.Machine
end

