-- ==== Sys2Proof/Machine/Operands.lean ====
section
/-! DEFINITION. What the wires and the memory carry, read into operands and written from them: the slot record (section
12.1, R48, R198, R199), the request frame (section 12.2, R160, R163, R200), the plan area (section 12.3, R188 to R190,
R201) and the wear area (R192). -/

namespace Sys2Proof.Machine

/-! ### The slot record -/

/-- The start pattern 1011 0010 (section 12.1). -/
def startPattern : Bits := [true, false, true, true, false, false, true, false]

/-- Take a field of `width` bits from the front of a record. -/
def takeField (width : Nat) (bits : Bits) : Option (Nat × Bits) :=
  if width ≤ bits.length then some (bitsValue (bits.take width), bits.drop width) else none

/-- Object reasons by code (section 12.1). -/
def ObjectReason.ofCode : Nat → Option ObjectReason
  | 1 => some .held
  | 2 => some .full
  | 3 => some .faulty
  | 4 => some .unknown
  | 5 => some .noTrim
  | 6 => some .notHolder
  | 7 => some .routeBusy
  | _ => none

/-- Codes of object reasons (section 12.1). -/
def ObjectReason.code : ObjectReason → Nat
  | .held => 1
  | .full => 2
  | .faulty => 3
  | .unknown => 4
  | .noTrim => 5
  | .notHolder => 6
  | .routeBusy => 7

/-- Fail reasons by code (section 12.1). -/
def FailReason.ofCode : Nat → Option FailReason
  | 1 => some .hot
  | 2 => some .sense
  | 3 => some .skew
  | 4 => some .noAnswer
  | _ => none

/-- Codes of fail reasons (section 12.1). -/
def FailReason.code : FailReason → Nat
  | .hot => 1
  | .sense => 2
  | .skew => 3
  | .noAnswer => 4

/-- Level flags by code (section 12.1). -/
def LevelFlag.ofCode : Nat → Option LevelFlag
  | 0 => some .none
  | 1 => some .short
  | 2 => some .long
  | _ => none

/-- Codes of level flags (section 12.1). -/
def LevelFlag.code : LevelFlag → Nat
  | .none => 0
  | .short => 1
  | .long => 2

/-- A report from its code, detail and value (section 12.1, R199). -/
def Report.decode (code detail value : Nat) : Option Report :=
  match code with
  | 1 => if detail = 0 ∧ value ≤ 20000 then some (.accept value) else none
  | 2 => if value = 0 then (ObjectReason.ofCode detail).map .object else none
  | 3 => if detail = 0 ∧ value = 0 then some .quiet else none
  | 4 =>
    if detail < 8 ∧ value ≤ 185500 then
      (LevelFlag.ofCode (detail % 4)).map (fun f => .settled f (decide (4 ≤ detail)) value)
    else none
  | 5 => if value = 0 then (FailReason.ofCode detail).map .fail else none
  | 6 => if detail = 0 ∧ value = 0 then some .withdraw else none
  | _ => none

/-- Code of a report (section 12.1). -/
def Report.code : Report → Nat
  | .accept _ => 1
  | .object _ => 2
  | .quiet => 3
  | .settled _ _ _ => 4
  | .fail _ => 5
  | .withdraw => 6

/-- Detail of a report (section 12.1, R70). -/
def Report.detail : Report → Nat
  | .accept _ => 0
  | .object r => r.code
  | .quiet => 0
  | .settled f hot _ => f.code + 4 * hot.toNat
  | .fail r => r.code
  | .withdraw => 0

/-- Value of a report (section 12.1, R70). -/
def Report.value : Report → Nat
  | .accept v => v
  | .settled _ _ v => v
  | _ => 0

/-- A node number of a record: 1 to 30 (R199). -/
def nodeOk (n : Nat) : Bool := 1 ≤ n && n ≤ 30

/-- Read one stage entry (section 12.1, R199). -/
def StageEntry.read (bits : Bits) : Option (StageEntry × Bits) := do
  let (sponsor, bits) ← takeField 5 bits
  let (seq, bits) ← takeField 8 bits
  let (make, bits) ← takeField 12 bits
  let (code, bits) ← takeField 3 bits
  let (detail, bits) ← takeField 4 bits
  let (value, bits) ← takeField 18 bits
  let report ← Report.decode code detail value
  if nodeOk sponsor && make != 0 then
    some ({ tag := { sponsor := sponsor, seq := seq }, make := make, report := report }, bits)
  else none

/-- The bits of one stage entry (section 12.1). -/
def StageEntry.bits (e : StageEntry) : Bits :=
  bitsOf 5 e.tag.sponsor ++ bitsOf 8 e.tag.seq ++ bitsOf 12 e.make ++ bitsOf 3 e.report.code ++ bitsOf 4 e.report.detail
    ++ bitsOf 18 e.report.value

/-- Read `count` stage entries (section 12.1). -/
def readEntries : Nat → Bits → Option (List StageEntry × Bits)
  | 0, bits => some ([], bits)
  | count + 1, bits =>
    match StageEntry.read bits with
    | none => none
    | some (e, bits) =>
      match readEntries count bits with
      | none => none
      | some (es, bits) => some (e :: es, bits)

/-- Read `count` fields of `width` bits. -/
def readFields (width : Nat) : Nat → Bits → Option (List Nat × Bits)
  | 0, bits => some ([], bits)
  | count + 1, bits =>
    match takeField width bits with
    | none => none
    | some (n, bits) =>
      match readFields width count bits with
      | none => none
      | some (ns, bits) => some (n :: ns, bits)

/-- A flag and its companion field: absent as 0 and 0, present as 1 and a value within its codes (R199). -/
def flagged (flag value : Nat) (ok : Nat → Bool) : Option (Option Nat) :=
  if flag = 0 then (if value = 0 then some none else none)
  else if ok value then some (some value) else none

/-- Read a PROPOSE (section 12.1, R199). -/
def Propose.read (bits : Bits) : Option (Propose × Bits) := do
  let (seq, bits) ← takeField 8 bits
  let (make, bits) ← takeField 12 bits
  let (brkFlag, bits) ← takeField 1 bits
  let (brkValue, bits) ← takeField 12 bits
  let (frequency, bits) ← takeField 16 bits
  let (targetFlag, bits) ← takeField 1 bits
  let (targetValue, bits) ← takeField 15 bits
  let (trimFlag, bits) ← takeField 1 bits
  let (trimValue, bits) ← takeField 5 bits
  let (countCode, bits) ← takeField 3 bits
  let (fields, bits) ← readFields 5 8 bits
  let (windowCode, bits) ← takeField 5 bits
  let (hot, bits) ← takeField 1 bits
  let brk ← flagged brkFlag brkValue (fun v => v != 0)
  let target ← flagged targetFlag targetValue (fun v => decide (v ≤ 25000))
  let trimNode ← flagged trimFlag trimValue nodeOk
  let participants := fields.take (countCode + 1)
  if make != 0 && decide (400 ≤ frequency) && decide (frequency ≤ 44000) && participants.all nodeOk
      && (fields.drop (countCode + 1)).all (fun n => n == 0) && decide (3 ≤ windowCode) then
    some ({ seq := seq, make := make, brk := brk, frequency := frequency, target := target, trimNode := trimNode,
            participants := participants, window := windowCode + 1, hotTolerant := hot == 1 }, bits)
  else none

/-- The bits of a PROPOSE (section 12.1), 0 wherever the table gives 0 (R199). -/
def Propose.bits (p : Propose) : Bits :=
  bitsOf 8 p.seq ++ bitsOf 12 p.make ++ bitsOf 1 p.brk.isSome.toNat ++ bitsOf 12 (p.brk.getD 0)
    ++ bitsOf 16 p.frequency ++ bitsOf 1 p.target.isSome.toNat ++ bitsOf 15 (p.target.getD 0)
    ++ bitsOf 1 p.trimNode.isSome.toNat ++ bitsOf 5 (p.trimNode.getD 0) ++ bitsOf 3 (p.participants.length - 1)
    ++ ((p.participants ++ List.replicate 8 0).take 8).flatMap (bitsOf 5) ++ bitsOf 5 (p.window - 1)
    ++ bitsOf 1 p.hotTolerant.toNat

/-- Read the message of a kind (section 12.1): kind 3 fails (R199). -/
def readMessage (kind : Nat) (bits : Bits) : Option (Option Message × Bits) :=
  match kind with
  | 0 => some (none, bits)
  | 1 => (Propose.read bits).map (fun r => (some (.propose r.1), r.2))
  | 2 => do
    let (route, bits) ← takeField 12 bits
    let (force, bits) ← takeField 1 bits
    if route != 0 then some (some (.release route (force == 1)), bits) else none
  | _ => none

/-- The message kind code (section 12.1). -/
def messageKind : Option Message → Nat
  | none => 0
  | some (.propose _) => 1
  | some (.release _ _) => 2

/-- The bits of a message (section 12.1). -/
def messageBits : Option Message → Bits
  | none => []
  | some (.propose p) => p.bits
  | some (.release route force) => bitsOf 12 route ++ bitsOf 1 force.toNat

/-- The fields of a record under its check value (section 12.1). -/
def SlotRecord.body (r : SlotRecord) : Bits :=
  bitsOf 5 r.sender ++ bitsOf 1 r.draining.toNat ++ bitsOf 3 r.entries.length ++ bitsOf 2 (messageKind r.message)
    ++ r.entries.flatMap StageEntry.bits ++ messageBits r.message

/-- The bits a node drives for a record, start pattern and check value included (R46, R198, section 12.1). -/
def SlotRecord.bits (r : SlotRecord) : Bits :=
  startPattern ++ r.body ++ bitsOf 16 (crc16 r.body).toNat

/-- The fields of a record body, none where a field is outside its codes or the length disagrees (R48, R199). -/
def SlotRecord.ofBody (body : Bits) : Option SlotRecord := do
  let (sender, bits) ← takeField 5 body
  let (draining, bits) ← takeField 1 bits
  let (count, bits) ← takeField 3 bits
  let (kind, bits) ← takeField 2 bits
  if 6 < count then none
  else
    let (entries, bits) ← readEntries count bits
    let (message, bits) ← readMessage kind bits
    if nodeOk sender && bits.isEmpty then
      some { sender := sender, draining := draining == 1, entries := entries, message := message }
    else none

/-- A record from the bits after the start pattern, its check value tested (R48, R198). -/
def SlotRecord.decode (bits : Bits) : Option SlotRecord :=
  if bits.length < 16 then none
  else
    let body := bits.take (bits.length - 16)
    if bitsValue (bits.drop (bits.length - 16)) = (crc16 body).toNat then SlotRecord.ofBody body else none

/-- What a node heard in a slot (R48). -/
inductive Heard where
  | nothing
  | failed
  | good (record : SlotRecord)
deriving DecidableEq, Repr

/-- Judge the bits of a slot (R48): no record start, a failed record, or a good record whose sender is the slot. -/
def judgeSlot (slot : Nat) (line : Bits) : Heard :=
  if line.take 8 = startPattern then
    match SlotRecord.decode (line.drop 8) with
    | some r => if r.sender = slot then .good r else .failed
    | none => .failed
  else .nothing

/-- A record within the codes of section 12.1, as a node forms it (R199). -/
def Report.inCodes : Report → Bool
  | .accept v => v ≤ 20000
  | .settled _ _ v => v ≤ 185500
  | _ => true

/-- A stage entry within its codes (R199). -/
def StageEntry.inCodes (e : StageEntry) : Bool :=
  nodeOk e.tag.sponsor && e.tag.seq < 256 && (1 ≤ e.make && e.make ≤ 4095) && e.report.inCodes

/-- A message within its codes (R199). -/
def Message.inCodes : Message → Bool
  | .propose p =>
    p.seq < 256 && (1 ≤ p.make && p.make ≤ 4095) && p.brk.all (fun v => 1 ≤ v && v ≤ 4095)
      && (400 ≤ p.frequency && p.frequency ≤ 44000) && p.target.all (fun v => v ≤ 25000) && p.trimNode.all nodeOk
      && (1 ≤ p.participants.length && p.participants.length ≤ 8) && p.participants.all nodeOk
      && (4 ≤ p.window && p.window ≤ 32)
  | .release route _ => 1 ≤ route && route ≤ 4095

/-- A record within its codes (R199). -/
def SlotRecord.inCodes (r : SlotRecord) : Bool :=
  nodeOk r.sender && r.entries.length ≤ 6 && r.entries.all StageEntry.inCodes && r.message.all Message.inCodes

/-! ### The request frame -/

/-- The kind code of a request body (section 12.2). -/
def RequestBody.kind : RequestBody → Nat
  | .make _ _ _ => 1
  | .breakRoute _ => 2
  | .exchange _ _ _ _ => 3
  | .retrim _ _ _ => 4
  | .cancel _ => 5
  | .takeNotice => 6
  | .queryRoute _ => 7
  | .querySwitch _ => 8
  | .queryNode => 9
  | .clearFault _ => 10
  | .clearEvents _ => 11
  | .setNotifyMap _ => 12
  | .saveWear => 13
  | .leaveBus => 14
  | .joinBus => 15
  | .restart => 16
  | .wrongForm kind => kind
  | .unknownKind kind => kind

/-- The value of two bytes, most significant first (R198). -/
def pair (hi lo : Byte) : Nat := hi.toNat * 256 + lo.toNat

/-- Options, target and frequency of a MAKE, EXCHANGE or RETRIM body (section 12.2, R200). -/
def readOptions : List Byte → Option (Option Nat × Option Nat)
  | o :: rest =>
    match o.toNat, rest with
    | 0, [] => some (none, none)
    | 1, [th, tl] => some (some (pair th tl), none)
    | 2, [fh, fl] => some (none, some (pair fh fl))
    | 3, [th, tl, fh, fl] => some (some (pair th tl), some (pair fh fl))
    | _, _ => none
  | [] => none

/-- The bytes of options, target and frequency (section 12.2). -/
def optionBytes (target frequency : Option Nat) : List Byte :=
  BitVec.ofNat 8 (target.isSome.toNat + 2 * frequency.isSome.toNat)
    :: ((target.map (bytesOf 2)).getD [] ++ (frequency.map (bytesOf 2)).getD [])

/-- The request that a kind and body bytes spell; a body not of its kind's length or options is of wrong form (R163,
R200). -/
def RequestBody.decode (kind : Nat) (body : List Byte) : RequestBody :=
  match kind, body with
  | 1, rh :: rl :: rest =>
    match readOptions rest with
    | some (t, f) => .make (pair rh rl) t f
    | none => .wrongForm 1
  | 2, [rh, rl] => .breakRoute (pair rh rl)
  | 3, bh :: bl :: mh :: ml :: rest =>
    match readOptions rest with
    | some (t, f) => .exchange (pair bh bl) (pair mh ml) t f
    | none => .wrongForm 3
  | 4, rh :: rl :: rest =>
    match readOptions rest with
    | some (t, f) => .retrim (pair rh rl) t f
    | none => .wrongForm 4
  | 5, [ih, il] => .cancel (pair ih il)
  | 6, [] => .takeNotice
  | 7, [rh, rl] => .queryRoute (pair rh rl)
  | 8, [i] => .querySwitch i.toNat
  | 9, [] => .queryNode
  | 10, [i] => .clearFault i.toNat
  | 11, [eh, el] => .clearEvents (BitVec.ofNat 16 (pair eh el))
  | 12, [a, b, c, d, e, f, g, h, i, j] => .setNotifyMap [a, b, c, d, e, f, g, h, i, j]
  | 13, [] => .saveWear
  | 14, [] => .leaveBus
  | 15, [] => .joinBus
  | 16, [] => .restart
  | k, _ => if 1 ≤ k ∧ k ≤ 16 then .wrongForm k else .unknownKind k

/-- The body bytes of a request (section 12.2). -/
def RequestBody.bytes : RequestBody → List Byte
  | .make r t f => bytesOf 2 r ++ optionBytes t f
  | .breakRoute r => bytesOf 2 r
  | .exchange b m t f => bytesOf 2 b ++ bytesOf 2 m ++ optionBytes t f
  | .retrim r t f => bytesOf 2 r ++ optionBytes t f
  | .cancel i => bytesOf 2 i
  | .queryRoute r => bytesOf 2 r
  | .querySwitch i => bytesOf 1 i
  | .clearFault i => bytesOf 1 i
  | .clearEvents e => bytesOf 2 e.toNat
  | .setNotifyMap lines => lines
  | _ => []

/-- Judge a completed frame, its bytes from the length field on (R160): none is a framing fault. -/
def Request.ofFrame : List Byte → Option Request
  | lh :: ll :: rest =>
    let length := pair lh ll
    if 5 ≤ length ∧ length ≤ 15 ∧ rest.length = length then
      match rest with
      | ih :: il :: k :: bodyAndCheck =>
        let body := bodyAndCheck.take (length - 5)
        if bytesValue (bodyAndCheck.drop (length - 5)) = (crcBytes (lh :: ll :: ih :: il :: k :: body)).toNat then
          some { id := pair ih il, body := RequestBody.decode k.toNat body }
        else none
      | _ => none
    else none
  | _ => none

/-- The bytes of a request frame after its start marker (section 12.2). -/
def Request.frame (r : Request) : List Byte :=
  let head := bytesOf 2 (5 + r.body.bytes.length) ++ bytesOf 2 r.id ++ bytesOf 1 r.body.kind ++ r.body.bytes
  head ++ bytesOf 2 (crcBytes head).toNat

/-- Whether the fields of a request fit its frame (section 12.2). -/
def RequestBody.fits : RequestBody → Bool
  | .make r t f => fits16 r && fitsOption16 t && fitsOption16 f
  | .breakRoute r => fits16 r
  | .exchange b m t f => fits16 b && fits16 m && fitsOption16 t && fitsOption16 f
  | .retrim r t f => fits16 r && fitsOption16 t && fitsOption16 f
  | .cancel i => fits16 i
  | .queryRoute r => fits16 r
  | .querySwitch i => i < 256
  | .clearFault i => i < 256
  | .setNotifyMap lines => lines.length == 10
  | .wrongForm _ => false
  | .unknownKind _ => false
  | _ => true

/-- Whether a request's fields are within their codes, beyond its length (R163 step 3, R200). -/
def RequestBody.formOk : RequestBody → Bool
  | .clearEvents e => e.toNat % 1024 != 0 && e.toNat < 1024
  | .setNotifyMap lines => lines.length == 10 && lines.all (fun b => b.toNat ≤ 2)
  | .wrongForm _ => false
  | _ => true

/-! ### The plan area -/

/-- A switch entry as read (section 12.3). -/
structure RawSwitch where
  index : Nat
  kind : Nat
  step : Nat
  maxCode : Nat
  sensed : Nat
  settle : Nat
  partner : Nat
  life : Nat
deriving DecidableEq, Repr

/-- A route entry as read (section 12.3). -/
structure RawRoute where
  id : Nat
  settings : List (Nat × Nat)
  participants : List Nat
  trimNode : Nat
  target : Nat
  frequency : Nat
  table : Nat
  detectors : List Nat
  inhibits : List Nat
  ready : Nat
  flags : Nat
  attenuator : Nat
deriving DecidableEq, Repr

/-- The plan as read, before its contents are checked (R189). -/
structure RawPlan where
  period : Nat
  window : Nat
  quiet : Nat
  single : Nat
  pulse : Nat
  switches : List RawSwitch
  detectors : List (Int × Nat)
  tables : List (Nat × List (Nat × Nat))
  routes : List RawRoute
deriving DecidableEq, Repr

/-- Take a field of `count` bytes; none where the memory answers fewer. -/
def takeBytes (count : Nat) (bytes : List Byte) : Option (Nat × List Byte) :=
  if count ≤ bytes.length then some (bytesValue (bytes.take count), bytes.drop count) else none

/-- Read `count` items one after another. -/
def readMany {α : Type} (item : List Byte → Option (α × List Byte)) : Nat → List Byte → Option (List α × List Byte)
  | 0, bytes => some ([], bytes)
  | count + 1, bytes =>
    match item bytes with
    | none => none
    | some (x, bytes) =>
      match readMany item count bytes with
      | none => none
      | some (xs, bytes) => some (x :: xs, bytes)

/-- Two one-byte or two-byte numbers after one another. -/
def takePair (width : Nat) (bytes : List Byte) : Option ((Nat × Nat) × List Byte) := do
  let (x, bytes) ← takeBytes width bytes
  let (y, bytes) ← takeBytes width bytes
  some ((x, y), bytes)

/-- Read a list preceded by its one-byte count. -/
def readCounted {α : Type} (item : List Byte → Option (α × List Byte)) (bytes : List Byte) : Option (List α × List Byte) := do
  let (count, bytes) ← takeBytes 1 bytes
  readMany item count bytes

/-- Read a switch entry (section 12.3). -/
def RawSwitch.read (bytes : List Byte) : Option (RawSwitch × List Byte) := do
  let (index, bytes) ← takeBytes 1 bytes
  let (kind, bytes) ← takeBytes 1 bytes
  let (step, bytes) ← takeBytes 1 bytes
  let (maxCode, bytes) ← takeBytes 1 bytes
  let (sensed, bytes) ← takeBytes 1 bytes
  let (settle, bytes) ← takeBytes 1 bytes
  let (partner, bytes) ← takeBytes 1 bytes
  let (life, bytes) ← takeBytes 4 bytes
  some ({ index := index, kind := kind, step := step, maxCode := maxCode, sensed := sensed, settle := settle,
          partner := partner, life := life }, bytes)

/-- Read a detector entry (section 12.3). -/
def readDetector (bytes : List Byte) : Option ((Int × Nat) × List Byte) := do
  let (threshold, bytes) ← takeBytes 2 bytes
  let (hysteresis, bytes) ← takeBytes 1 bytes
  some ((signedValue 16 threshold, hysteresis), bytes)

/-- Read a calibration table (section 12.3). -/
def readTable (bytes : List Byte) : Option ((Nat × List (Nat × Nat)) × List Byte) := do
  let (index, bytes) ← takeBytes 1 bytes
  let (points, bytes) ← readCounted (takePair 2) bytes
  some ((index, points), bytes)

/-- Read a route entry (section 12.3). -/
def RawRoute.read (bytes : List Byte) : Option (RawRoute × List Byte) := do
  let (id, bytes) ← takeBytes 2 bytes
  let (settings, bytes) ← readCounted (takePair 1) bytes
  let (participants, bytes) ← readCounted (takeBytes 1) bytes
  let (trimNode, bytes) ← takeBytes 1 bytes
  let (target, bytes) ← takeBytes 2 bytes
  let (frequency, bytes) ← takeBytes 2 bytes
  let (table, bytes) ← takeBytes 1 bytes
  let (detectors, bytes) ← readCounted (takeBytes 1) bytes
  let (inhibits, bytes) ← readCounted (takeBytes 1) bytes
  let (ready, bytes) ← takeBytes 1 bytes
  let (flags, bytes) ← takeBytes 1 bytes
  let (attenuator, bytes) ← takeBytes 1 bytes
  some ({ id := id, settings := settings, participants := participants, trimNode := trimNode, target := target,
          frequency := frequency, table := table, detectors := detectors, inhibits := inhibits, ready := ready,
          flags := flags, attenuator := attenuator }, bytes)

/-- The header: format and the four counts (section 12.3). -/
structure PlanHeader where
  format : Nat
  switches : Nat
  detectors : Nat
  tables : Nat
  routes : Nat
deriving DecidableEq, Repr

/-- Read the header (section 12.3). -/
def PlanHeader.read (bytes : List Byte) : Option (PlanHeader × List Byte) := do
  let (format, bytes) ← takeBytes 2 bytes
  let (switches, bytes) ← takeBytes 1 bytes
  let (detectors, bytes) ← takeBytes 1 bytes
  let (tables, bytes) ← takeBytes 1 bytes
  let (routes, bytes) ← takeBytes 1 bytes
  some ({ format := format, switches := switches, detectors := detectors, tables := tables, routes := routes }, bytes)

/-- The header's own test: format 1, counts within their ranges (R188, R201). -/
def PlanHeader.ok (h : PlanHeader) : Bool :=
  h.format == 1 && h.switches ≤ 48 && h.detectors == 8 && h.tables ≤ 64 && h.routes ≤ 128

/-- Read the sections after the header, by its counts (R201). -/
def RawPlan.read (h : PlanHeader) (bytes : List Byte) : Option (RawPlan × List Byte) := do
  let (period, bytes) ← takeBytes 2 bytes
  let (window, bytes) ← takeBytes 1 bytes
  let (quiet, bytes) ← takeBytes 1 bytes
  let (single, bytes) ← takeBytes 1 bytes
  let (pulse, bytes) ← takeBytes 1 bytes
  let (switches, bytes) ← readMany RawSwitch.read h.switches bytes
  let (detectors, bytes) ← readMany readDetector h.detectors bytes
  let (tables, bytes) ← readMany readTable h.tables bytes
  let (routes, bytes) ← readMany RawRoute.read h.routes bytes
  some ({ period := period, window := window, quiet := quiet, single := single, pulse := pulse, switches := switches,
          detectors := detectors, tables := tables, routes := routes }, bytes)

/-! ### The content checks of R190 -/

/-- A position of a switch's kind (R1). -/
def SwitchPlan.allows (p : SwitchPlan) (position : Nat) : Bool :=
  match p.kind with
  | .spdt => position ≤ 2
  | .sp4t => position ≤ 4
  | .sp8t => position ≤ 8
  | .transfer => 1 ≤ position && position ≤ 2
  | .stepatt => position ≤ p.maxCode

/-- Kinds by code (section 12.3). -/
def SwitchKind.ofCode : Nat → Option SwitchKind
  | 1 => some .spdt
  | 2 => some .sp4t
  | 3 => some .sp8t
  | 4 => some .transfer
  | 5 => some .stepatt
  | _ => none

/-- Position of the first entry that fails (R190). DESIGN CHOICE (log 47): each is judged against the entries before it, so of
two with one index the later fails. -/
def firstBad {α : Type} (ok : List α → α → Bool) (before : List α) : List α → Option Nat
  | [] => none
  | x :: rest => if ok before x then firstBad ok (before ++ [x]) rest else some before.length

/-- Between two bounds. -/
def within (low high n : Nat) : Bool := low ≤ n && n ≤ high

/-- Check 1: the constants within their ranges (R188), in their order. -/
def RawPlan.constants (p : RawPlan) : List Bool :=
  [within 400 2000 p.period && p.period % 50 == 0, within 4 32 p.window, within 1 255 p.quiet, p.single ≤ 1,
   within 1 255 p.pulse]

/-- Check 2 of one switch entry (R190, section 12.3). -/
def RawSwitch.rangeOk (before : List RawSwitch) (w : RawSwitch) : Bool :=
  w.index ≤ 47 && !before.any (fun v => v.index == w.index) && within 1 5 w.kind
    && (if w.kind = 5 then (w.step == 25 || w.step == 50 || w.step == 100) && within 1 255 w.maxCode
        else w.step == 0 && w.maxCode == 0)
    && w.sensed ≤ 1 && within 1 64 w.settle

/-- Check 3 of one detector entry. -/
def detectorOk (d : Int × Nat) : Bool := decide (-600 ≤ d.1) && decide (d.1 ≤ 200) && d.2 ≤ 100

/-- Check 4 of one calibration table. -/
def tableRangeOk (before : List (Nat × List (Nat × Nat))) (t : Nat × List (Nat × Nat)) : Bool :=
  t.1 ≤ 63 && !before.any (fun u => u.1 == t.1) && within 2 16 t.2.length
    && t.2.all (fun q => within 400 44000 q.1 && q.2 ≤ 20000)

/-- Strictly ascending. -/
def ascending : List Nat → Bool
  | [] => true
  | [_] => true
  | x :: y :: rest => x < y && ascending (y :: rest)

/-- Check 6 of one route entry: its id in range and above the id before it. -/
def RawRoute.orderOk (before : List RawRoute) (r : RawRoute) : Bool :=
  within 1 4095 r.id && (match before.getLast? with
    | some q => q.id < r.id
    | none => true)

/-- Check 7 of one switch entry: its partner names it back, is of its kind and is not itself (R3). -/
def RawSwitch.partnerOk (all : List RawSwitch) (w : RawSwitch) : Bool :=
  w.partner == 255 ||
    (w.partner != w.index && all.any (fun v => v.index == w.partner && v.partner == w.index && v.kind == w.kind))

/-- Check 8 of one route entry: the fields of R27 within their ranges. -/
def RawRoute.rangeOk (r : RawRoute) : Bool :=
  r.settings.length ≤ 8 && r.settings.all (fun q => q.1 ≤ 47)
    && within 1 8 r.participants.length && r.participants.all nodeOk && decide r.participants.Nodup
    && (r.trimNode == 0 || r.participants.contains r.trimNode)
    && (r.target ≤ 25000 || r.target == 65535) && ((r.target == 65535) == (r.trimNode == 0))
    && within 400 44000 r.frequency && (r.table ≤ 63 || r.table == 255)
    && r.detectors.length ≤ 4 && r.detectors.all (fun d => d ≤ 7) && decide r.detectors.Nodup
    && r.inhibits.length ≤ 4 && r.inhibits.all (fun l => l ≤ 7) && decide r.inhibits.Nodup
    && (r.ready ≤ 3 || r.ready == 255) && r.flags ≤ 3 && (r.attenuator ≤ 47 || r.attenuator == 255)

/-- A code that stands for an absent field (R201). -/
def absentAt (code n : Nat) : Option Nat := if n = code then none else some n

/-- The plan part of a switch record from its entry (R1, R201). -/
def RawSwitch.plan (w : RawSwitch) : SwitchPlan :=
  { index := w.index, kind := (SwitchKind.ofCode w.kind).getD .spdt, step := w.step, maxCode := w.maxCode,
    sensed := w.sensed == 1, settleTime := w.settle, partner := absentAt 255 w.partner, lifeLimit := absentAt 0 w.life }

/-- Check 9 of one route entry: every reference names something the plan holds. -/
def RawRoute.referenceOk (p : RawPlan) (r : RawRoute) : Bool :=
  r.settings.all (fun q => p.switches.any (fun w => w.index == q.1 && w.plan.allows q.2))
    && (r.table == 255 || p.tables.any (fun t => t.1 == r.table))
    && (r.attenuator == 255 ||
      (p.switches.any (fun w => w.index == r.attenuator && w.kind == 5 && w.partner == 255)
        && !r.settings.any (fun q => q.1 == r.attenuator)))

/-- Check 10 of one route entry: no switch twice, and partners at one position (R3). -/
def RawRoute.settingOk (p : RawPlan) (r : RawRoute) : Bool :=
  decide ((r.settings.map Prod.fst).Nodup) &&
    r.settings.all (fun q => r.settings.all (fun v =>
      !p.switches.any (fun w => w.index == q.1 && w.partner == v.1) || q.2 == v.2))

/-- Check 11 of one route entry: a sponsor-only route is bare (R26). -/
def RawRoute.sponsorOnlyOk (me : Nat) (r : RawRoute) : Bool :=
  r.participants.contains me ||
    (r.settings.isEmpty && r.table == 255 && r.detectors.isEmpty && r.inhibits.isEmpty && r.ready == 255
      && r.attenuator == 255)

/-- Check 12 of one route entry: where this node is trim node it names a trim attenuator. -/
def RawRoute.trimOk (me : Nat) (r : RawRoute) : Bool := r.trimNode != me || r.attenuator != 255

/-- The checks of R190 in the order of its table, each with its cause, section and first failing entry. -/
def RawPlan.checks (me : Nat) (p : RawPlan) : List (PlanCause × PlanSection × Option Nat) :=
  [(.range, .constants, firstBad (fun _ b => b) [] p.constants),
   (.range, .switches, firstBad RawSwitch.rangeOk [] p.switches),
   (.range, .detectors, firstBad (fun _ d => detectorOk d) [] p.detectors),
   (.range, .tables, firstBad tableRangeOk [] p.tables),
   (.order, .tables, firstBad (fun _ t => ascending (t.2.map Prod.fst)) [] p.tables),
   (.order, .routes, firstBad RawRoute.orderOk [] p.routes),
   (.partner, .switches, firstBad (fun _ w => w.partnerOk p.switches) [] p.switches),
   (.range, .routes, firstBad (fun _ r => r.rangeOk) [] p.routes),
   (.reference, .routes, firstBad (fun _ r => r.referenceOk p) [] p.routes),
   (.setting, .routes, firstBad (fun _ r => r.settingOk p) [] p.routes),
   (.setting, .routes, firstBad (fun _ r => r.sponsorOnlyOk me) [] p.routes),
   (.trim, .routes, firstBad (fun _ r => r.trimOk me) [] p.routes)]

/-- The first failure of the content checks (R190). -/
def RawPlan.firstFailure (me : Nat) (p : RawPlan) : Option PlanFault :=
  (p.checks me).findSome? (fun c => c.2.2.map (fun pos => { cause := c.1, at? := some (c.2.1, pos) }))

/-- The plan part of a route record from its entry (R27, R201). -/
def RawRoute.plan (r : RawRoute) : RoutePlan :=
  { id := r.id, settings := r.settings.map (fun q => { switch := q.1, position := q.2 }), participants := r.participants,
    trimNode := absentAt 0 r.trimNode, defaultTarget := absentAt 65535 r.target, defaultFrequency := r.frequency,
    table := absentAt 255 r.table, detectors := r.detectors, inhibits := r.inhibits, ready := absentAt 255 r.ready,
    noRetry := r.flags % 2 == 1, hotTolerant := 2 ≤ r.flags, trimAttenuator := absentAt 255 r.attenuator }

/-- A cause that names no entry (R191). -/
def PlanFault.plain (cause : PlanCause) : PlanFault := { cause := cause, at? := none }

/-- Steps 2 to 4 of R189 on the bytes the memory answers from address 0: the plan as accepted, or the cause. -/
def readPlan (me : Nat) (bytes : List Byte) : Except PlanFault RawPlan :=
  match PlanHeader.read bytes with
  | none => .error (.plain .memory)
  | some (h, rest) =>
    if h.ok then
      match RawPlan.read h rest with
      | none => .error (.plain .memory)
      | some (p, tail) =>
        match takeBytes 2 tail with
        | none => .error (.plain .memory)
        | some (check, _) =>
          if check = (crcBytes (bytes.take (bytes.length - tail.length))).toNat then
            match p.firstFailure me with
            | some f => .error f
            | none => .ok p
          else .error (.plain .check)
    else .error (.plain .header)

/-! ### The wear area -/

/-- Cut bytes into numbers of four bytes. -/
def countsOf : Nat → List Byte → List Nat
  | 0, _ => []
  | n + 1, bytes => bytesValue (bytes.take 4) :: countsOf n (bytes.drop 4)

/-- The 48 counts of a VALID wear area, none where it is LOST (R192, section 12.3). -/
def readWear (mem : List Host.Cell) : Option (List Nat) :=
  match Memory.read mem Config.wearBase, Memory.readBytes mem (Config.wearBase + 1) (4 * Config.wearSlots),
      Memory.readBytes mem (Config.wearBase + 1 + 4 * Config.wearSlots) 2 with
  | some mark, some counts, some check =>
    if mark = 1#8 ∧ bytesValue check = (crcBytes counts).toNat then some (countsOf Config.wearSlots counts) else none
  | _, _, _ => none

/-- The address and bytes of one write of a save (R195, R201). -/
def SaveWrite.target (copy : List Nat) : SaveWrite → Nat × List Byte
  | .openMark => (Config.wearBase, [0#8])
  | .count i => (Config.wearBase + 1 + 4 * i, bytesOf 4 (copy.getD i 0))
  | .check => (Config.wearBase + 1 + 4 * Config.wearSlots, bytesOf 2 (crcBytes (copy.flatMap (bytesOf 4))).toNat)
  | .closeMark => (Config.wearBase, [1#8])

end Sys2Proof.Machine
end

