-- ==== Sys2Proof/Machine/Switches.lean ====
section
/-! DEFINITION. The Switch Bank Controller: claims and the claim check, drive, settle and position sense, wear, and the
reset of the bank (chapter 1). -/

namespace Sys2Proof.Machine

/-! ### Position sense -/

/-- What a switch's sense lines read: a position of its kind, or none where the reading is not valid (R2). -/
def Switch.reading (w : Switch) (sense : SenseLevels) : Option Nat :=
  match sense.find? (fun p => p.1 == w.plan.index) with
  | some (_, p) => if w.plan.allows p then some p else none
  | none => none

/-! ### Claims -/

/-- Whether a claim entry is the excluded entry of a break route (R5). -/
def Claim.excluded (brk : Option Nat) (c : Claim) : Bool :=
  match brk with
  | some r => c.holder == .established r
  | none => false

/-- The covered set of a claim check in the order of R6 (R5): each setting's switch, its partner directly after it where
no setting names the partner, and the trim attenuator last with its position not yet given. DESIGN CHOICE (log 48): a member
that a setting names stands at its own setting's place, wherever its partner's setting stands (R3). -/
def State.coveredSet (s : State) (make : Nat) (trimHere : Bool) : List (Nat × Option Nat) :=
  match s.route? make with
  | none => []
  | some r =>
    let named := r.plan.settings.map Setting.switch
    r.plan.settings.flatMap (fun st =>
      (st.switch, some st.position) ::
        (match s.partner? st.switch with
         | some p => if p ∈ named then [] else [(p, some st.position)]
         | none => []))
      ++ (match trimHere, r.plan.trimAttenuator with
          | true, some a => [(a, none)]
          | _, _ => [])

/-- Whether a switch is in FAULT. -/
def State.inFault (s : State) (index : Nat) : Bool :=
  match s.switch? index with
  | some w => w.state == .fault
  | none => false

/-- The positions named on a switch by everything but the excluded entry (R6 step 2). -/
def Switch.namedPositions (w : Switch) (brk : Option Nat) : List (Option Nat) :=
  (w.claims.filter (fun c => !c.excluded brk)).map Claim.position
    ++ (w.claims.filterMap Claim.successor).map Successor.position

/-- The test of one switch at one position (R6, and the third case of R8): none is granted. -/
def State.testSwitch (s : State) (brk : Option Nat) (index : Nat) (want : Option Nat) : Option ObjectReason :=
  match s.switch? index with
  | none => none
  | some w =>
    let others := w.claims.filter (fun c => !c.excluded brk)
    let partnerFault := match w.plan.partner with
      | some p => s.inFault p
      | none => false
    let held := match want with
      | some p => (w.namedPositions brk).any (fun q => q != some p)
      | none => !others.isEmpty
    if w.state == .fault || partnerFault then some .faulty
    else if held then some .held
    else if Config.claimsFull ≤ others.length then some .full
    else if w.claims.any (fun c => c.excluded brk && c.successor.isSome) then some .held
    else none

/-- The grant recorded on one switch (R8): a successor on the excluded entry, or a new claim entry. DESIGN CHOICE (log 37): a
new entry stands last, so QUERY SWITCH lists them as they were granted. -/
def Switch.grant (tag : Tag) (brk : Option Nat) (want : Option Nat) (w : Switch) : Switch :=
  if w.claims.any (Claim.excluded brk) then
    { w with claims := w.claims.map (fun c =>
        if c.excluded brk then { c with successor := some { tag := tag, position := want } } else c) }
  else { w with claims := w.claims ++ [{ holder := .pending tag, position := want, successor := none }] }

/-- The claim check, taken whole (R7): the first failing switch's result and nothing recorded, or every grant. -/
def State.claimCheck (s : State) (tag : Tag) (make : Nat) (brk : Option Nat) (trimHere : Bool) :
    Option ObjectReason × State :=
  let covered := s.coveredSet make trimHere
  match covered.findSome? (fun p => s.testSwitch brk p.1 p.2) with
  | some why => (some why, s)
  | none => (none, covered.foldl (fun s p => s.onSwitch p.1 (Switch.grant tag brk p.2)) s)

/-- The tag's claim on a switch given a position (R9). -/
def Switch.fixPosition (tag : Tag) (code : Nat) (w : Switch) : Switch :=
  { w with claims := w.claims.map (fun c =>
      { (if c.holder = .pending tag then { c with position := some code } else c) with
        successor := c.successor.map (fun u => if u.tag = tag then { u with position := some code } else u) }) }

/-- Answers to a request to fix the trim position (R9). -/
inductive FixAnswer where
  | fixed
  | noClaim
deriving DecidableEq, Repr

/-- Whether a tag holds a claim on a switch, as a pending claim entry or as a successor (R9). -/
def Switch.claimedBy (tag : Tag) (w : Switch) : Bool :=
  w.claims.any (fun c => c.holder == .pending tag || (c.successor.map Successor.tag) == some tag)

/-- Fix the trim position of the tag's claim on the attenuator (R9): FIXED, or NO CLAIM and nothing changes. -/
def State.fixTrim (s : State) (tag : Tag) (attenuator code : Nat) : FixAnswer × State :=
  match s.switch? attenuator with
  | some w =>
    if w.claimedBy tag then (.fixed, s.onSwitch attenuator (Switch.fixPosition tag code)) else (.noClaim, s)
  | none => (.noClaim, s)

/-- Conversion on one switch (R10). -/
def Switch.convert (tag : Tag) (route : Nat) (w : Switch) : Switch :=
  { w with claims := w.claims.map (fun c =>
      if c.holder = .pending tag then
        { c with holder := .established route,
                 position := match c.position with
                   | some p => some p
                   | none => w.current }
      else c) }

/-- How many pending claim entries a tag holds on a switch. -/
def Switch.pendingOf (tag : Tag) (w : Switch) : Nat := (w.claims.filter (fun c => c.holder == .pending tag)).length

/-- Conversion of a tag's pending claims to established claims of a route, answered with the number of entries converted
(R10). -/
def State.convertClaims (s : State) (tag : Tag) (route : Nat) : Nat × State :=
  ((s.sbc.map (Switch.pendingOf tag)).sum, s.onSwitches (Switch.convert tag route))

/-- A tag's claims dropped on one switch (R11). -/
def Switch.dropTag (tag : Tag) (w : Switch) : Switch :=
  { w with claims := (w.claims.filter (fun c => c.holder != .pending tag)).map (fun c =>
      match c.successor with
      | some u => if u.tag = tag then { c with successor := none } else c
      | none => c) }

/-- Drop a tag's claims and successors (R11). -/
def State.dropTagClaims (s : State) (tag : Tag) : State := s.onSwitches (Switch.dropTag tag)

/-- A route's claims dropped on one switch (R12): an entry with a successor becomes the successor's pending claim. -/
def Switch.dropRoute (route : Nat) (w : Switch) : Switch :=
  { w with claims := w.claims.filterMap (fun c =>
      if c.holder = .established route then
        match c.successor with
        | some u => some { holder := .pending u.tag, position := u.position, successor := none }
        | none => none
      else some c) }

/-- Drop a route's claims on every switch of the bank (R12). -/
def State.dropRouteClaims (s : State) (route : Nat) : State := s.onSwitches (Switch.dropRoute route)

/-! ### Drive and wear -/

/-- Answers to a drive request (R13). -/
inductive DriveAnswer where
  | refused
  | fault (reason : FaultReason)
  | atPosition
  | wait
  | driven (hot : Bool)
deriving DecidableEq, Repr

/-- A switch STILL with its current position equal to the position wanted (R13). -/
def Switch.stillAt (position : Nat) (w : Switch) : Bool := w.state == .still && w.current == some position

/-- A switch MOVING toward a position (R13). -/
def Switch.movingTo (position : Nat) (w : Switch) : Bool := w.state == .moving && w.commanded == some position

/-- Add a tag to a waiter set, which holds no duplicates (R2). -/
def Switch.addWaiter (tag : Tag) (w : Switch) : Switch :=
  if tag ∈ w.waiters then w else { w with waiters := w.waiters ++ [tag] }

/-- The wear count after a drive (R20). -/
def wearAfter (wear : Nat) (hot : Bool) : Nat :=
  satAdd Config.wearFull wear (if hot then Config.hotWear else Config.coldWear)

/-- Whether a wear count is at or above the life limit, where there is one (R21, R24). -/
def wornAt (limit : Option Nat) (wear : Nat) : Bool :=
  match limit with
  | some n => n ≤ wear
  | none => false

/-- A drive or redirection applied to one switch (R14, R15, R20, R21). -/
def Switch.applyDrive (position : Nat) (hot : Bool) (w : Switch) : Switch :=
  let wear := wearAfter w.wear hot
  { w with
    commanded := some position, current := none, state := .moving, settleLeft := w.plan.settleTime,
    driveLines := some position, wear := wear, worn := w.worn || wornAt w.plan.lifeLimit wear }

/-- The members a drive of a switch concerns: the switch, and its partner if it has one (R3, R13). -/
def State.members (s : State) (index : Nat) : List Switch :=
  (index :: (s.partner? index).toList).filterMap s.switch?

/-- One member under a DRIVEN answer (R13): driven or redirected, or left alone, and the tag waits where it then moves. -/
def Switch.driveMember (tag : Tag) (position : Nat) (hot : Bool) (w : Switch) : Switch :=
  if w.stillAt position then w
  else if w.movingTo position then w.addWaiter tag
  else (w.applyDrive position hot).addWaiter tag

/-- WORN fires for a member that this drive first makes worn (R21). -/
def State.fireWorn (s : State) (before : Switch) : State :=
  match s.switch? before.plan.index with
  | some w => if w.worn && !before.worn then s.fire .worn (.switch before.plan.index) else s
  | none => s

/-- A drive request (R13 to R15, R20, R21), `inMove` being what the CXE marks of the context. DESIGN CHOICE (log 29): the
last source of HOT MOVE is the switch the request names, even where only its partner is driven. DESIGN CHOICE (log 25): of two
members it makes worn, WORN fires for the one it names first. -/
def State.drive (s : State) (tag : Tag) (inMove : Bool) (index position : Nat) : DriveAnswer × State :=
  let claimed := match s.switch? index with
    | some w => w.claims.any (fun c => c.holder == .pending tag && c.position == some position)
    | none => false
  let members := s.members index
  if !(inMove && claimed) then (.refused, s)
  else if members.any (fun w => w.state == .fault) then
    (.fault (if members.any (fun w => w.faultReason == some .sense) then .sense else .skew), s)
  else if members.all (Switch.stillAt position) then (.atPosition, s)
  else if members.all (fun w => w.stillAt position || w.movingTo position) then
    (.wait, members.foldl (fun s w => s.onSwitch w.plan.index (Switch.driveMember tag position false)) s)
  else
    let hot := s.rfg.hotTest tag
    let s' := members.foldl (fun s w => s.onSwitch w.plan.index (Switch.driveMember tag position hot)) s
    let s' := if hot then s'.fire .hotMove (.switch index) else s'
    (.driven hot, members.foldl State.fireWorn s')

/-! ### Settle -/

/-- One frame end at a switch (R16). -/
def Switch.settleTick (w : Switch) : Switch :=
  if w.state = .moving then { w with settleLeft := w.settleLeft - 1 } else w

/-- The partner's record while it is MOVING (R18). -/
def State.movingPartner? (s : State) (index : Nat) : Option Switch :=
  match (s.partner? index).bind s.switch? with
  | some p => if p.state = .moving then some p else none
  | none => none

/-- The index that stands for a switch, or for a pair both members of which are MOVING: the lower of the two. -/
def State.settleUnit (s : State) (index : Nat) : Nat :=
  match s.movingPartner? index with
  | some p => min index p.plan.index
  | none => index

/-- Whether the settle of a switch, or of its pair, has ended (R16, R18). -/
def State.settleEnded (s : State) (index : Nat) : Bool :=
  match s.switch? index with
  | some w =>
    w.state == .moving && w.settleLeft == 0 &&
      (match s.movingPartner? index with
       | some p => p.settleLeft == 0
       | none => true)
  | none => false

/-- Whether a member that ends its settle is judged RIGHT (R17). A member that was not driven judges RIGHT (R18). -/
def Switch.judgedRight (sense : SenseLevels) (w : Switch) : Bool :=
  w.state != .moving || !w.plan.sensed ||
    (match w.reading sense with
     | some p => w.commanded == some p
     | none => false)

/-- A member after its settle (R17, R18): STILL at the commanded position, or in FAULT with the reading. -/
def Switch.afterSettle (sense : SenseLevels) (reason : FaultReason) (w : Switch) : Switch :=
  if w.state = .moving then
    if w.judgedRight sense then
      { w with state := .still, current := w.commanded, settleLeft := 0, driveLines := none }
    else
      { w with state := .fault, current := w.reading sense, faultReason := some reason, settleLeft := 0, driveLines := none }
  else w

/-- The outcome of a settle from the judgements of its members (R17, R18). -/
def settleOutcome (rights : List Bool) : SettleOutcome :=
  if rights.all id then .right else if rights.any id then .skew else .sense

/-- What a settle's end reports (R19): the outcome, the switches of the unit and the waiters to be told. -/
structure SettleReport where
  outcome : SettleOutcome
  switches : List Nat
  waiters : List Tag
deriving DecidableEq, Repr

/-- SWITCH FAULT fires for a member that went to FAULT (R19). -/
def State.fireFault (s : State) (before : Switch) : State :=
  match s.switch? before.plan.index with
  | some w => if w.state = .fault ∧ before.state = .moving then s.fire .switchFault (.switch before.plan.index) else s
  | none => s

/-- The end of a settle at the SBC (R17 to R19): the members judged, the waiter sets emptied. -/
def State.endSettle (s : State) (index : Nat) : SettleReport × State :=
  let members := s.members index
  let outcome := settleOutcome (members.map (Switch.judgedRight s.sense))
  let reason : FaultReason := if outcome = .skew then .skew else .sense
  let report : SettleReport :=
    { outcome := outcome, switches := members.map (fun w => w.plan.index),
      waiters := (members.flatMap Switch.waiters).dedup }
  let s' := members.foldl (fun t w =>
    t.onSwitch w.plan.index (fun v => { v.afterSettle s.sense reason with waiters := [] })) s
  (report, members.foldl State.fireFault s')

/-! ### CLEAR FAULT and the resets -/

/-- Answers of CLEAR FAULT (R22). -/
inductive ClearFaultAnswer where
  | cleared
  | stillFaulty
  | notFaulty
deriving DecidableEq, Repr

/-- CLEAR FAULT on one switch record (R22). -/
def Switch.clearFault (sense : SenseLevels) (w : Switch) : ClearFaultAnswer × Switch :=
  if w.state = .fault then
    if w.reading sense = w.commanded ∧ w.commanded.isSome then
      (.cleared, { w with state := .still, current := w.commanded, faultReason := none })
    else (.stillFaulty, { w with current := w.reading sense })
  else (.notFaulty, w)

/-- A switch at RESTART (R25). -/
def Switch.restart (sense : SenseLevels) (w : Switch) : Switch :=
  let w := { w with claims := [], waiters := [] }
  if w.state = .moving then
    let found := if w.plan.sensed then w.reading sense else none
    { w with state := .still, settleLeft := 0, driveLines := none, current := found, commanded := found }
  else w

/-- A switch as start-up finds it (R24), with the wear count saved at its index, or 0 where the wear area is LOST. -/
def SwitchPlan.start (sense : SenseLevels) (counts : Option (List Nat)) (p : SwitchPlan) : Switch :=
  let wear := match counts with
    | some saved => saved.getD p.index 0
    | none => 0
  let bare : Switch :=
    { plan := p, state := .still, current := none, commanded := none, settleLeft := 0, faultReason := none,
      wear := wear, worn := counts.isSome && wornAt p.lifeLimit wear, claims := [], waiters := [], driveLines := none }
  let found := if p.sensed then bare.reading sense else none
  { bare with current := found, commanded := found }

end Sys2Proof.Machine
end

