-- ==== Sys2Proof/Machine/Routes.lean ====
section
/-! DEFINITION. The Route Table: the route check, taking a route down and recording it ESTABLISHED, RELEASE, and orphaning
(chapter 2, R149). -/

namespace Sys2Proof.Machine

/-- Answers of the route check (R30). -/
inductive RouteAnswer where
  | marked
  | breakOnly
  | refuse (reason : ObjectReason)
deriving DecidableEq, Repr

/-- A route record in IDLE, its runtime fields cleared except the busy tag (R29, R32). -/
def Route.clear (r : Route) : Route :=
  { r with state := .idle, holder := none, established := [], frequency := none, target := none, achieved := none,
           flag := .none, hotMade := false }

/-- A route record as the plan gives it, IDLE with no busy tag (R41). -/
def RoutePlan.record (p : RoutePlan) : Route :=
  { plan := p, state := .idle, holder := none, established := [], frequency := none, target := none, achieved := none,
    flag := .none, hotMade := false, busy := none }

/-- Set the busy tag of a record. -/
def Route.mark (tag : Tag) (r : Route) : Route := { r with busy := some tag }

/-- Set the busy tag of a record that carries none (R30, a sponsor that is no participant). -/
def Route.markFree (tag : Tag) (r : Route) : Route := if r.busy.isNone then r.mark tag else r

/-- Apply a marking to the make route's record and, where there is one, to the break route's. -/
def State.markRoutes (s : State) (make : Nat) (brk : Option Nat) (f : Route → Route) : State :=
  let s := s.onRoute make f
  match brk with
  | some b => if b = make then s else s.onRoute b f
  | none => s

/-- Steps 1 to 4 of the route check at a participant (R30): the answer before anything is marked. -/
def State.routeCheckAnswer (s : State) (sponsor make : Nat) (brk : Option Nat) (trimHere : Bool) : RouteAnswer :=
  let retrim := brk == some make
  let record := s.route? make
  let notFree : Bool := match record with
    | some r => if retrim then r.busy.isSome else r.state != .idle || r.busy.isSome
    | none => false
  let breakRecord := (brk.bind s.route?).filter s.participantRecord
  let notHeld : Bool := match breakRecord with
    | some b => !(b.state == .established && b.holder == some sponsor)
    | none => false
  let breakBusy : Bool := match breakRecord with
    | some b => b.busy.isSome
    | none => false
  let noAttenuator : Bool := match record with
    | some r => trimHere && r.plan.trimAttenuator.isNone
    | none => false
  if record.isNone && brk.isNone then .refuse .unknown
  else if notFree then .refuse .routeBusy
  else if notHeld then .refuse .notHolder
  else if breakBusy then .refuse .routeBusy
  else if noAttenuator then .refuse .noTrim
  else if record.isNone then .breakOnly
  else .marked

/-- The route check (R30). -/
def State.routeCheck (s : State) (tag : Tag) (make : Nat) (brk : Option Nat) (participant trimHere : Bool) :
    RouteAnswer × State :=
  if participant then
    match s.routeCheckAnswer tag.sponsor make brk trimHere with
    | .refuse why => (.refuse why, s)
    | answer => (answer, s.markRoutes make brk (Route.mark tag))
  else (.marked, s.markRoutes make brk (Route.markFree tag))

/-- Remove the busy tags a closing context holds (R31). -/
def State.dropBusy (s : State) (tag : Tag) : State :=
  s.onRoutes (fun r => if r.busy = some tag then { r with busy := none } else r)

/-- Take a route down: its claims dropped and its record IDLE (R29, R32, R37). -/
def State.takeDown (s : State) (route : Nat) : State := (s.dropRouteClaims route).onRoute route Route.clear

/-- The break route taken down at the entry to MOVE, where the record is ESTABLISHED or ORPHANED (R32). -/
def State.breakDown (s : State) (route : Nat) : State :=
  match s.route? route with
  | some r => if r.state = .idle then s else s.takeDown route
  | none => s

/-- The achieved loss and level flag at DONE from the standings (R34, R81). -/
def Context.outcome (c : Context) : Option Nat × LevelFlag :=
  match c.trimNode with
  | some t =>
    match (c.standing.find? (fun x => x.node == t)).bind Standing.settled with
    | some r => (some r.achieved, r.flag)
    | none => (none, .none)
  | none =>
    if c.standing.all (fun x => x.accept.isSome) then
      (some ((c.standing.map (fun x => x.accept.getD 0)).sum), .none)
    else (none, .none)

/-- Whether any SETTLED report heard carried the hot mark (R35). -/
def Context.hotMade (c : Context) : Bool :=
  c.standing.any (fun x => match x.settled with
    | some r => r.hot
    | none => false)

/-- The make route's record at DONE (R33); its busy tag goes with the context's others (R31). -/
def Context.establish (c : Context) (r : Route) : Route :=
  { r with state := .established, holder := some c.tag.sponsor, established := c.participants,
           frequency := some c.frequency, target := c.target, achieved := c.outcome.1, flag := c.outcome.2,
           hotMade := c.hotMade }

/-- Conversion and recording at DONE, where this node holds a record of the make route (R33, R81 step 1). -/
def State.makeEstablished (s : State) (c : Context) : State :=
  match s.route? c.make with
  | some _ => (s.convertClaims c.tag c.make).2.onRoute c.make c.establish
  | none => s

/-- What a RELEASE heard meets at this node (R37, R38). -/
inductive ReleaseAnswer where
  | honoured
  | stray
  | noRecord
deriving DecidableEq, Repr

/-- Whether a RELEASE is honoured by a record (R37). -/
def Route.honours (sender : Nat) (force : Bool) (r : Route) : Bool :=
  (r.state == .established && r.holder == some sender) || (r.state == .orphaned && force)

/-- A RELEASE heard from a sender (R37, R38). -/
def State.releaseHeard (s : State) (sender route : Nat) (force : Bool) : ReleaseAnswer × State :=
  match s.route? route with
  | none => (.noRecord, s)
  | some r =>
    if r.honours sender force then (.honoured, s.takeDown route)
    else (.stray, { s with rtb := { s.rtb with stray := satAdd Config.count16 s.rtb.stray 1 } })

/-- The first of a list's nodes that is among the absent (R147, R149). -/
def firstAbsent (absent : List Nat) (nodes : List Nat) : Option Nat := nodes.find? (fun n => absent.contains n)

/-- The ORPHAN notice of a route (R149). -/
def orphanNotice (route : Nat) (node : Option Nat) : Notice :=
  { id := 0, kind := .orphaned, route := route, second := none, result := .peerLost, node := node, objection := none,
    attempts := 0, achieved := none, residual := none, short := false, long := false, hotMade := false,
    cancelTooLate := false, lost := 0 }

/-- Whether an absence orphans a record (R149). -/
def Route.orphanedBy (absent : List Nat) (r : Route) : Bool :=
  r.state == .established && (firstAbsent absent r.established).isSome

/-- One record orphaned, with its event and its notice (R149). -/
def State.orphan (absent : List Nat) (s : State) (r : Route) : State :=
  let s := s.onRoute r.plan.id (fun q => { q with state := .orphaned })
  (s.fire .orphan (.route r.plan.id)).notice (orphanNotice r.plan.id (firstAbsent absent r.established))

/-- The Route Table takes an absence notice, in order of route id (R149). -/
def State.orphanRoutes (s : State) (absent : List Nat) : State :=
  (s.rtb.routes.filter (Route.orphanedBy absent)).foldl (State.orphan absent) s

end Sys2Proof.Machine
end

