-- ==== Sys2Proof/Machine/Contexts.lean ====
section
/-! DEFINITION. One context of the changeover table: its own report, its standings, its places in the table, CANCEL and the
withdrawal test (R63, R64, R69 to R71, R79, R86, R87). -/

namespace Sys2Proof.Machine

/-- A context that has not closed: ANSWER, COLD or MOVE (R82). -/
def Context.isOpen (c : Context) : Bool := c.phase == .answer || c.phase == .cold || c.phase == .move

/-! ### The own report -/

/-- The own report as the steps of R69 see it: the report kept aside while a WITHDRAW stands (R86). -/
def Context.underlying (c : Context) : Option Report := if c.report = some .withdraw then c.kept else c.report

/-- A step of R69: it changes the report kept aside while a WITHDRAW stands (R86). -/
def Context.setReport (c : Context) (r : Report) : Context :=
  if c.report = some .withdraw then { c with kept := some r } else { c with report := some r }

/-- Whether a report is an ACCEPT. -/
def isAccept : Option Report → Bool
  | some (.accept _) => true
  | _ => false

/-- The quiet test passes in COLD: ACCEPT becomes QUIET and the wait ends (R69, R76). -/
def Context.quietPass (c : Context) : Context :=
  if c.phase == .cold && c.quietWait && isAccept c.underlying then { (c.setReport .quiet) with quietWait := false } else c

/-- Quiet remaining reaches 0: ACCEPT becomes FAIL HOT and the wait ends (R69, R76). -/
def Context.quietFail (c : Context) : Context :=
  if c.phase == .cold && c.quietWait && isAccept c.underlying then { (c.setReport (.fail .hot)) with quietWait := false }
  else c

/-- The trim node lacks an ACCEPT value: ACCEPT or QUIET becomes FAIL NO ANSWER (R69, R75). -/
def Context.trimFail (c : Context) : Context :=
  if isAccept c.underlying || c.underlying == some .quiet then
    { (c.setReport (.fail .noAnswer)) with quietWait := false }
  else c

/-- The SETTLED report of a context (R70, R78). -/
def Context.settledReport (c : Context) : Report :=
  match c.trim with
  | some t => .settled t.flag c.hotMark t.achieved
  | none => .settled .none c.hotMark 0

/-- The wait set is empty in MOVE with the report QUIET: it becomes SETTLED (R69, R78, R79). -/
def Context.settleReport (c : Context) : Context :=
  if c.phase == .move && c.waitSet.isEmpty && c.underlying == some .quiet then c.setReport c.settledReport else c

/-- A fault in MOVE with the report QUIET: it becomes FAIL (R69, R79). -/
def Context.moveFail (c : Context) (r : FailReason) : Context :=
  if c.phase == .move && c.underlying == some .quiet then c.setReport (.fail r) else c

/-- The fail reason of a switch fault (R79). -/
def FaultReason.fail : FaultReason → FailReason
  | .sense => .sense
  | .skew => .skew

/-- Add an index to a set, at its end (log 49). -/
def addIndex (i : Nat) (l : List Nat) : List Nat := if i ∈ l then l else l ++ [i]

/-- A drive answer taken by a context in MOVE (R79). -/
def Context.takeDriveAnswer (c : Context) (index : Nat) : DriveAnswer → Context
  | .atPosition => c
  | .wait => { c with waitSet := addIndex index c.waitSet }
  | .driven hot =>
    { c with waitSet := addIndex index c.waitSet, driven := addIndex index c.driven, hotMark := c.hotMark || hot }
  | .fault r => c.moveFail r.fail
  | .refused => c.moveFail .sense

/-- A settle outcome taken by a context (R79, R151): the unit's switches leave both sets; in MOVE a fault becomes the
report FAIL, and an empty wait set SETTLED. DESIGN CHOICE (log 34): a closed context's wait set is emptied with its driven
set. -/
def Context.takeOutcome (c : Context) (switches : List Nat) (outcome : SettleOutcome) : Context :=
  let c := { c with waitSet := c.waitSet.filter (fun i => i ∉ switches), driven := c.driven.filter (fun i => i ∉ switches) }
  match outcome with
  | .right => c.settleReport
  | .sense => c.moveFail .sense
  | .skew => c.moveFail .skew

/-! ### Standings -/

/-- Rank of a standing as a number (R71). -/
def Rank.level : Rank → Nat
  | .none => 0
  | .accept => 1
  | .quiet => 2
  | .settled => 3

/-- A participant's report raises its standing, never lowering it (R71). -/
def Standing.raise (x : Standing) : Report → Standing
  | .accept v => if x.rank = .none then { x with rank := .accept, accept := some v } else x
  | .quiet => if x.rank.level < Rank.quiet.level then { x with rank := .quiet } else x
  | .settled flag hot v =>
    if x.rank = .settled then x else { x with rank := .settled, settled := some { flag := flag, hot := hot, achieved := v } }
  | _ => x

/-- Raise the sender's standing in a context (R71). -/
def Context.raise (sender : Nat) (r : Report) (c : Context) : Context :=
  { c with standing := c.standing.map (fun x => if x.node = sender then x.raise r else x) }

/-- Every standing at a rank or higher (R73, R77, R80). -/
def Context.allAt (c : Context) (rank : Rank) : Bool := c.standing.all (fun x => rank.level ≤ x.rank.level)

/-- The rank of a node's standing. -/
def Context.rankOf (c : Context) (node : Nat) : Rank :=
  match c.standing.find? (fun x => x.node == node) with
  | some x => x.rank
  | none => .none

/-! ### Places (R64) -/

/-- Places of the table that are neither held nor reserved (R64). -/
def State.placeFree (s : State) : Bool :=
  s.cxe.contexts.length + s.cxe.reservations.length < Config.tablePlaces

/-- Reserve a place for a sponsor slot. DESIGN CHOICE (log 49): reservations stand in the order granted. -/
def State.reserve (s : State) (name : SlotName) : State :=
  { s with cxe := { s.cxe with reservations := s.cxe.reservations ++ [name] } }

/-- End a slot's reservation (R64). -/
def State.unreserve (s : State) (name : SlotName) : State :=
  { s with cxe := { s.cxe with reservations := s.cxe.reservations.filter (fun n => n != name) } }

/-! ### CANCEL at the Changeover Engine -/

/-- Answers of the CXE to a CANCEL (R86). -/
inductive CxeCancel where
  | taken
  | tooLate
  | closed (record : CloseRecord) (passedCommit : Bool)
deriving DecidableEq, Repr

/-- Whether WITHDRAW may replace an own report: none, ACCEPT or QUIET (R69, R88). -/
def withdrawable : Option Report → Bool
  | none => true
  | some (.accept _) => true
  | some .quiet => true
  | some _ => false

/-- The pending withdrawal of a context (R86). DEDUCED (log 28): an own report that R69 lets nothing change, OBJECT, FAIL or
SETTLED, stays as it is. -/
def Context.withdraw (c : Context) : Context :=
  { c with withdrawal := .pending, kept := c.report, report := if withdrawable c.report then some .withdraw else c.report }

/-- CANCEL of a context's tag (R86). A tag with no context has closed and been freed; it answers as closed. -/
def State.cxeCancel (s : State) (tag : Tag) : CxeCancel × State :=
  match s.context? tag with
  | none => (.closed { reason := .ok, node := none, objection := none } true, s)
  | some c =>
    match c.phase with
    | .move => (.tooLate, s)
    | .answer | .cold =>
      (.taken, if c.withdrawal = .none then s.onContext tag Context.withdraw else s)
    | .done | .failed =>
      (.closed (c.close.getD { reason := .ok, node := none, objection := none }) c.passedCommit, s)

/-- Whether the withdrawal test finds a context past its commit point (R87). -/
def Context.tooLate (c : Context) : Bool := c.passedCommit

/-- The withdrawal test of one context (R87): WITHDRAW goes out, or the report kept aside returns. -/
def Context.testWithdrawal (c : Context) : Context :=
  if c.withdrawal = .pending then
    if c.tooLate then { c with withdrawal := .none, report := c.kept, kept := none }
    else { c with withdrawal := .sent }
  else c

end Sys2Proof.Machine
end

