-- ==== Sys2Proof/Machine/Sponsor.lean ====
section
/-! DEFINITION. The Sponsor Unit: the re-check, placing messages, take-up and retry, the close hand-off, CANCEL, and the
notices it writes (chapter 7, R157). -/

namespace Sys2Proof.Machine

/-! ### Jobs -/

/-- The routes a request names, in its order (R128). -/
def Job.routes (j : Job) : List Nat := j.route :: j.second.toList

/-- The make route of a changeover-bearing request (R133): the second route of an EXCHANGE, else its one route. -/
def Job.makeRoute (j : Job) : Nat := j.second.getD j.route

/-- The break route of a request's PROPOSE (R133). -/
def Job.breakRoute? (j : Job) : Option Nat :=
  match j.kind with
  | .make => none
  | .breakRoute => none
  | .exchange => some j.route
  | .retrim => some j.route

/-- Failures of the checks of R131. -/
inductive CheckFailure where
  | notHolder
  | routeBusy
  | badValue
deriving DecidableEq, Repr

/-- A route ESTABLISHED with this node as holder (R131). -/
def State.held (s : State) (route : Nat) : Bool :=
  match s.route? route with
  | some r => r.state == .established && r.holder == some s.me
  | none => false

/-- A route in a given state. -/
def State.routeIs (s : State) (route : Nat) (state : RouteState) : Bool :=
  match s.route? route with
  | some r => r.state == state
  | none => false

/-- The participant list of a request's PROPOSE (R133). -/
def State.jobParticipants (s : State) (j : Job) : List Nat :=
  let plan := match s.route? j.makeRoute with
    | some r => r.plan.participants
    | none => []
  let established := match s.route? j.route with
    | some r => r.established
    | none => []
  match j.kind with
  | .make => plan
  | .breakRoute => plan
  | .retrim => established
  | .exchange => plan ++ established.filter (fun n => n ∉ plan)

/-- The checks of R131, in the order of its table. -/
def State.recheck (s : State) (j : Job) : Option CheckFailure :=
  match j.kind with
  | .breakRoute => if s.held j.route || s.routeIs j.route .orphaned then none else some .notHolder
  | .retrim => if s.held j.route then none else some .notHolder
  | .exchange =>
    if !s.held j.route then some .notHolder
    else if !s.routeIs j.makeRoute .idle then some .routeBusy
    else if Config.participantsFull < (s.jobParticipants j).length then some .badValue
    else none
  | .make => if s.routeIs j.route .idle then none else some .routeBusy

/-! ### Notices (R142) -/

/-- A notice of a request with no figures and no flags. -/
def Job.notice (j : Job) (kind : NoticeKind) (result : NoticeResult) (attempts : Nat) : Notice :=
  { id := j.id, kind := kind, route := j.route, second := j.second, result := result, node := none, objection := none,
    attempts := attempts, achieved := none, residual := none, short := false, long := false, hotMade := false,
    cancelTooLate := false, lost := 0 }

/-- The notice result of a close reason (R142, R177). -/
def CloseReason.result : CloseReason → NoticeResult
  | .ok => .ok
  | .objected => .objected
  | .noAnswer => .noAnswer
  | .hot => .hot
  | .sense => .sense
  | .skew => .skew
  | .withdrawn => .withdrawn
  | .peerLost => .peerLost

/-- The notice result of a failed re-check (R131). -/
def CheckFailure.result : CheckFailure → NoticeResult
  | .notHolder => .notHolder
  | .routeBusy => .routeBusy
  | .badValue => .badValue

/-- A notice that carries a close record's failing node and object reason (R142). -/
def Notice.withClose (n : Notice) (c : CloseRecord) : Notice := { n with node := c.node, objection := c.objection }

/-- The notice kind of a request that was carried out (R136). -/
def RequestKind.doneKind : RequestKind → NoticeKind
  | .make => .made
  | .exchange => .exchanged
  | .retrim => .retrimmed
  | .breakRoute => .released

/-! ### Slots -/

/-- The end of DRAINING: table empty and both slots FREE (R53). -/
def State.drainTest (s : State) : State :=
  if s.biu.busState = .draining ∧ s.cxe.contexts = [] ∧ s.spu.slotA.state = .free ∧ s.spu.slotB.state = .free then
    { s with biu := { s.biu with busState := .offBus, silence := Config.silenceFull } }
  else s

/-- Whether a request names a route that carries a busy tag here (R130, R137). -/
def State.jobBusy (s : State) (j : Job) : Bool :=
  j.routes.any (fun r => match s.route? r with
    | some x => x.busy.isSome
    | none => false)

/-- Whether a queued request may be taken into a slot (R130). -/
def State.eligible (s : State) (name : SlotName) (j : Job) : Bool :=
  !s.jobBusy j &&
    (match (s.slot (otherSlot name)).job with
     | some k => j.routes.all (fun r => r ∉ k.routes)
     | none => true)

/-- A message placed on the outbound list for a slot (R47). -/
def State.place (s : State) (name : SlotName) (m : Message) : State :=
  { s with biu := { s.biu with outbound := s.biu.outbound ++ [{ slot := name, message := m }] } }

/-- Whether the table holds a context of this node's sponsorship with a sequence (R132). -/
def State.seqHeld (s : State) (seq : Nat) : Bool := s.cxe.contexts.any (fun c => c.tag == { sponsor := s.me, seq := seq })

/-- The next sequence number: the one after, wrapping at 255, skipping those held (R132). The table holds at most six
contexts, so six skips are enough. -/
def State.nextSeq (s : State) : Nat → Nat → Nat
  | 0, seq => (seq + 1) % 256
  | fuel + 1, seq =>
    let next := (seq + 1) % 256
    if s.seqHeld next then s.nextSeq fuel next else next

/-- The PROPOSE of a request (R133). -/
def State.buildPropose (s : State) (j : Job) (seq : Nat) : Propose :=
  let record := s.route? j.makeRoute
  let trim := record.bind (fun r => r.plan.trimNode)
  let hot (route : Option Nat) : Bool := match route.bind s.route? with
    | some r => r.plan.hotTolerant
    | none => false
  { seq := seq, make := j.makeRoute, brk := j.breakRoute?,
    frequency := j.frequency.getD ((record.map (fun r => r.plan.defaultFrequency)).getD 0),
    target := if trim.isSome then j.target.orElse (fun _ => record.bind (fun r => r.plan.defaultTarget)) else none,
    trimNode := trim, participants := s.jobParticipants j, window := s.spu.window,
    hotTolerant := hot (some j.makeRoute) || (j.kind == .exchange && hot (some j.route)) }

/-- A PROPOSE placed for a request in a slot, the reservation granted (R132). -/
def State.placePropose (s : State) (name : SlotName) (j : Job) : State :=
  let seq := s.nextSeq Config.tablePlaces s.spu.seq
  let p := s.buildPropose j seq
  let slot := s.slot name
  let s := ((s.reserve name).place name (.propose p)).setSlot name
    { slot with state := .sending, job := some j, attempts := slot.attempts + 1,
                tag := some { sponsor := s.me, seq := seq }, sent := false, backoff := 0 }
  { s with spu := { s.spu with seq := seq } }

/-- A RELEASE placed for a BREAK in a slot (R134): force is set when the route is ORPHANED. -/
def State.placeRelease (s : State) (name : SlotName) (j : Job) : State :=
  let slot := s.slot name
  (s.place name (.release j.route (s.routeIs j.route .orphaned))).setSlot name
    { slot with state := .sending, job := some j, attempts := 1, tag := none, sent := false, backoff := 0 }

/-- A request removed from the queue (R166). -/
def State.dequeue (s : State) (j : Job) : State := { s with ctp := { s.ctp with queue := s.ctp.queue.erase j } }

/-- Take-up into one FREE slot (R130, R132): the oldest eligible request, re-checked; after NO PLACE only BREAKs are
selected and the request keeps the place it held. -/
def State.takeUpSlot (name : SlotName) : Nat → Bool → State → State
  | 0, _, s => s
  | fuel + 1, onlyBreak, s =>
    match s.ctp.queue.find? (fun j => s.eligible name j && (!onlyBreak || j.kind == .breakRoute)) with
    | none => s
    | some j =>
      match s.recheck j with
      | some why => State.takeUpSlot name fuel onlyBreak ((s.dequeue j).notice (j.notice .failed why.result 0))
      | none =>
        if j.kind = .breakRoute then (s.dequeue j).placeRelease name j
        else if s.placeFree then (s.dequeue j).placePropose name j
        else State.takeUpSlot name fuel true s

/-- Whether a slot may take a request up (R129, R130). -/
def State.slotOpen (s : State) (name : SlotName) : Bool :=
  (s.slot name).state == .free && (name == .a || !s.spu.single)

/-- Take-up at an event of R130: A, then B; only while ON-BUS. -/
def State.takeUps (s : State) : State :=
  let one (name : SlotName) (s : State) : State :=
    if s.biu.busState = .onBus ∧ s.slotOpen name then State.takeUpSlot name (s.ctp.queue.length + 1) false s else s
  one .b (one .a s)

/-- The retry of a slot whose backoff has run out (R137): re-check, reservation, a new PROPOSE. It waits at 0 while a
route it names is busy here, while there is no place, and outside ON-BUS and DRAINING. -/
def State.retrySlot (s : State) (name : SlotName) : State :=
  let slot := s.slot name
  match slot.job with
  | some j =>
    if slot.state = .backoff ∧ slot.backoff = 0 ∧ s.biu.busState.speaks ∧ s.jobBusy j = false then
      match s.recheck j with
      | some why => ((s.setSlot name .empty).notice (j.notice .failed why.result slot.attempts)).drainTest
      | none => if s.placeFree then s.placePropose name j else s
    else s
  | none => s

/-- An event of R130: retries of A and B (R137), then take-ups (log 17). -/
def State.sponsorEvent (s : State) : State := ((s.retrySlot .a).retrySlot .b).takeUps

/-- A slot becomes FREE: the BIU tests for the end of DRAINING (R53, R129) and the SPU tries a take-up (R130). -/
def State.freeSlot (s : State) (name : SlotName) : State := (s.setSlot name .empty).drainTest.sponsorEvent

/-- A slot's request ends with a notice (R136, R142). -/
def State.endRequest (s : State) (name : SlotName) (n : Notice) : State := (s.notice n).freeSlot name

/-! ### The close hand-off (R136, R137) -/

/-- Backoff of a failed attempt at a node (R137). -/
def backoffFor (attempt node : Nat) : Nat := attempt * (1 + node % 4)

/-- The close of a context as handed to the SPU (R82). -/
structure HandOff where
  tag : Tag
  record : CloseRecord
  done : Bool
  passedCommit : Bool
  achieved : Option Nat
  flag : LevelFlag
  hotMade : Bool
  target : Option Nat
  withdrawalSent : Bool
deriving DecidableEq, Repr

/-- Whether a close may be retried, the cancel aside (R136 step 3). -/
def State.retryable (s : State) (j : Job) (done passedCommit : Bool) (record : CloseRecord) : Bool :=
  !done && !passedCommit &&
    (record.reason == .noAnswer ||
      (record.reason == .objected &&
        (record.objection == some .held || record.objection == some .full || record.objection == some .routeBusy))) &&
    j.routes.all (fun r => match s.route? r with
      | some x => !x.plan.noRetry
      | none => true)

/-- The notice of a request whose changeover reached DONE (R142). -/
def HandOff.doneNotice (h : HandOff) (j : Job) (attempts : Nat) (late : Bool) : Notice :=
  { j.notice j.kind.doneKind .ok attempts with
    achieved := h.achieved,
    residual := match h.target, h.achieved with
      | some t, some a => some ((t : Int) - a)
      | _, _ => none,
    short := h.flag == .short, long := h.flag == .long, hotMade := h.hotMade, cancelTooLate := late }

/-- The SPU decides on a hand-off for one OPEN slot (R136). -/
def State.judgeClose (s : State) (name : SlotName) (slot : SponsorSlot) (j : Job) (h : HandOff) : State :=
  let cancel := if h.passedCommit && slot.cancel == .taken then .late else slot.cancel
  let late := cancel == .late
  if h.done then s.endRequest name (h.doneNotice j slot.attempts late)
  else if cancel = .taken then
    s.endRequest name ((j.notice .cancelled h.record.reason.result slot.attempts).withClose h.record)
  else if s.retryable j h.done h.passedCommit h.record && cancel == .none then
    if slot.attempts < Config.attemptsFull then
      s.setSlot name { slot with state := .backoff, backoff := backoffFor slot.attempts s.me, cancel := cancel,
                                 lastClose := some h.record }
    else s.endRequest name ((j.notice .failed .excessiveContention slot.attempts).withClose h.record)
  else
    s.endRequest name { (j.notice .failed h.record.reason.result slot.attempts).withClose h.record with cancelTooLate := late }

/-- The slot that is OPEN with a tag (R136). -/
def State.openSlot? (s : State) (tag : Tag) : Option SlotName :=
  if s.spu.slotA.state = .opened ∧ s.spu.slotA.tag = some tag then some .a
  else if s.spu.slotB.state = .opened ∧ s.spu.slotB.tag = some tag then some .b
  else none

/-- The SPU takes a hand-off (R136); one whose tag is no slot's current tag is disregarded. -/
def State.takeHandOff (s : State) (h : HandOff) : State :=
  match s.openSlot? h.tag with
  | none => s
  | some name =>
    match (s.slot name).job with
    | some j => s.judgeClose name (s.slot name) j h
    | none => s

/-! ### Own messages heard (R134, R135) -/

/-- The slot whose message went out in the record of the own slot (R47, R135). -/
def State.sentSlot? (s : State) : Option SlotName :=
  if s.spu.slotA.state = .sending ∧ s.spu.slotA.sent then some .a
  else if s.spu.slotB.state = .sending ∧ s.spu.slotB.sent then some .b
  else none

/-- The CXE answers OPENED for the slot's PROPOSE (R135): the slot enters OPEN, and a WAITING cancel is passed on (R139). -/
def State.proposeOpened (s : State) : State :=
  match s.sentSlot? with
  | none => s
  | some name =>
    let slot := { s.slot name with state := .opened }
    match slot.cancel, slot.tag with
    | .waiting, some tag =>
      let (answer, s) := s.cxeCancel tag
      s.setSlot name { slot with cancel := if answer = .taken then .taken else slot.cancel }
    | _, _ => s.setSlot name slot

/-- The CXE answers NOT OPENED (R135): FAILED, NO ANSWER, and the slot FREE. -/
def State.proposeNotOpened (s : State) : State :=
  match s.sentSlot? with
  | none => s
  | some name =>
    match (s.slot name).job with
    | some j => s.endRequest name (j.notice .failed .noAnswer (s.slot name).attempts)
    | none => s

/-- This node hears its own RELEASE (R134). -/
def State.releaseAnswered (s : State) (honoured : Bool) : State :=
  match s.sentSlot? with
  | none => s
  | some name =>
    match (s.slot name).job with
    | some j =>
      s.endRequest name
        (if honoured then j.notice .released .ok (s.slot name).attempts
         else j.notice .failed .notHolder (s.slot name).attempts)
    | none => s

/-! ### CANCEL (R138, R139) -/

/-- Answers of the SPU to a CANCEL (R138). -/
inductive CancelAnswer where
  | taken
  | tooLate
  | notFound
deriving DecidableEq, Repr

/-- The slot that holds a request id (R138). DESIGN CHOICE (log 33): of two slots that hold one id, slot A. -/
def State.slotHolding? (s : State) (id : Nat) : Option (SlotName × Job) :=
  match (s.spu.slotA.job).filter (fun j => j.id == id), (s.spu.slotB.job).filter (fun j => j.id == id) with
  | some j, _ => some (.a, j)
  | none, some j => some (.b, j)
  | none, none => none

/-- CANCEL of a slot OPEN with a tag (R139). -/
def State.cancelOpen (s : State) (name : SlotName) (tag : Tag) (j : Job) : CancelAnswer × State :=
  match s.cxeCancel tag with
  | (.taken, s) => (.taken, s.setSlot name { s.slot name with cancel := .taken })
  | (.tooLate, s) => (.tooLate, s)
  | (.closed record passed, s) =>
    if s.retryable j (record.reason == .ok) passed record then
      (.taken, s.setSlot name { s.slot name with cancel := .taken })
    else (.tooLate, s)

/-- CANCEL of a request in a slot (R138). -/
def State.cancelSlot (s : State) (name : SlotName) (j : Job) : CancelAnswer × State :=
  let slot := s.slot name
  match slot.cancel with
  | .waiting | .taken => (.taken, s)
  | .late => (.tooLate, s)
  | .none =>
    match slot.state, slot.tag with
    | .backoff, _ => (.taken, s.endRequest name (j.notice .cancelled .ok slot.attempts))
    | .sending, tag =>
      if s.biu.outbound.any (fun o => o.slot == name) then
        let s := { s with biu := { s.biu with outbound := s.biu.outbound.filter (fun o => o.slot != name) } }
        (.taken, (s.unreserve name).endRequest name (j.notice .cancelled .ok slot.attempts))
      else if tag.isSome then (.taken, s.setSlot name { slot with cancel := .waiting })
      else (.tooLate, s)
    | .opened, some tag => s.cancelOpen name tag j
    | _, _ => (.notFound, s)

/-- CANCEL of a request id (R138): the slots first, then the oldest in the queue. -/
def State.cancelRequest (s : State) (id : Nat) : CancelAnswer × State :=
  match s.slotHolding? id with
  | some (name, j) => s.cancelSlot name j
  | none =>
    match s.ctp.queue.find? (fun j => j.id == id) with
    | some q => (.taken, (s.dequeue q).notice (q.notice .cancelled .ok 0))
    | none => (.notFound, s)

/-! ### The withdrawal test and entry to DUPLICATE -/

/-- The CXE tells the SPU that a cancel came too late (R140): TAKEN becomes LATE in the slot holding the tag. -/
def SponsorSlot.cancelLate (tag : Tag) (slot : SponsorSlot) : SponsorSlot :=
  if slot.tag = some tag ∧ slot.cancel = .taken then { slot with cancel := .late } else slot

/-- The test of every context with withdrawal PENDING at the own slot start (R87, R140). -/
def State.testWithdrawals (s : State) : State :=
  let late := (s.cxe.contexts.filter (fun c => c.withdrawal == .pending && c.tooLate)).map Context.tag
  let s := { s with cxe := { s.cxe with contexts := s.cxe.contexts.map Context.testWithdrawal } }
  late.foldl (fun s tag => { s with spu := { s.spu with
    slotA := s.spu.slotA.cancelLate tag, slotB := s.spu.slotB.cancelLate tag } }) s

/-- The SPU ends an occupied slot's request on entry to DUPLICATE (R157). -/
def State.endSilent (s : State) (name : SlotName) : State :=
  match (s.slot name).job with
  | some j => s.endRequest name { j.notice .failed .peerLost (s.slot name).attempts with node := some s.me }
  | none => s

end Sys2Proof.Machine
end

