-- ==== Sys2Proof/Machine/Trim.lean ====
section
/-! DEFINITION. The Level Trim Unit: segment loss by interpolation and the trim code (chapter 6). -/

namespace Sys2Proof.Machine

/-- num / den rounded to the nearest whole number, an exact half away from zero (R114). -/
def roundAway (num : Int) (den : Nat) : Int :=
  let magnitude : Int := ((2 * num.natAbs + den) / (2 * den) : Nat)
  if num < 0 then -magnitude else magnitude

/-- The loss at a frequency between two adjacent points (R114). -/
def lossBetween (a b : CalPoint) (f : Nat) : Nat :=
  ((a.loss : Int) + roundAway (((b.loss : Int) - a.loss) * ((f : Int) - a.frequency)) (b.frequency - a.frequency)).toNat

/-- The loss at a frequency above the point `a` (R113). -/
def lossAbove (f : Nat) (a : CalPoint) : List CalPoint → Nat
  | [] => a.loss
  | b :: rest => if f = b.frequency then b.loss else if f < b.frequency then lossBetween a b f else lossAbove f b rest

/-- The loss of a table at a frequency (R113). -/
def tableLoss (f : Nat) : List CalPoint → Nat
  | [] => 0
  | a :: rest => if f ≤ a.frequency then a.loss else lossAbove f a rest

/-- The segment loss of a route at this node (R111, R112): 0 where its record names no table. -/
def State.segmentLoss (s : State) (route frequency : Nat) : Nat :=
  match (s.route? route).bind (fun r => r.plan.table) with
  | none => 0
  | some index =>
    match s.ltu.find? (fun t => t.index == index) with
    | some t => tableLoss frequency t.points
    | none => 0

/-- The trim computation (R117): target, sum of the losses, step and maximum code. -/
def trimFor (target sum step maxCode : Nat) : TrimOutcome :=
  if target < sum then { code := 0, flag := .short, achieved := sum }
  else
    let raw := (2 * (target - sum) + step) / (2 * step)
    if maxCode < raw then { code := maxCode, flag := .long, achieved := sum + maxCode * step }
    else { code := raw, flag := .none, achieved := sum + raw * step }

end Sys2Proof.Machine
end

