-- ==== Sys2Proof/Machine/Changeover.lean ====
section
/-! DEFINITION. The Changeover Engine: closes, phases, PROPOSE and stage entries heard, settle outcomes, absences and the
freeing of contexts (chapter 4, R146 to R157). -/

namespace Sys2Proof.Machine

/-! ### Closes -/

/-- The close record written (R82): linger remaining 4. -/
def Context.closed (phase : Phase) (record : CloseRecord) (c : Context) : Context :=
  { c with phase := phase, close := some record, quietWait := false, linger := Config.lingerFull }

/-- What a closed context hands to the SPU (R82). -/
def Context.handOff (c : Context) (done : Bool) (record : CloseRecord) : HandOff :=
  { tag := c.tag, record := record, done := done, passedCommit := c.passedCommit,
    achieved := if done then c.outcome.1 else none, flag := if done then c.outcome.2 else .none,
    hotMade := done && c.hotMade, target := c.target, withdrawalSent := c.withdrawal == .sent }

/-- The hand-off, where the sponsor is this node (R82). -/
def State.handOver (s : State) (c : Context) (done : Bool) (record : CloseRecord) : State :=
  if c.tag.sponsor = s.me then s.takeHandOff (c.handOff done record) else s

/-- The RF Guard takes a context's user from its lines (R103). -/
def State.closeGuard (s : State) (tag : Tag) : State := { s with rfg := s.rfg.closeGuard tag }

/-- A context closes FAILED (R83 before MOVE, R84 and R151 in MOVE). -/
def State.closeFailed (s : State) (c : Context) (record : CloseRecord) : State :=
  let s := (s.dropTagClaims c.tag).dropBusy c.tag
  let s := if c.phase = .move then (if c.driven.isEmpty then s.closeGuard c.tag else s)
           else if c.phase = .cold then s.closeGuard c.tag
           else s
  (s.onContext c.tag (Context.closed .failed record)).handOver c false record

/-- A close record of a reason at a node. -/
def CloseRecord.at (reason : CloseReason) (node : Option Nat) : CloseRecord :=
  { reason := reason, node := node, objection := none }

/-- The close reason of a FAIL heard (R73, R77, R80). -/
def FailReason.close : FailReason → CloseReason
  | .hot => .hot
  | .sense => .sense
  | .skew => .skew
  | .noAnswer => .noAnswer

/-! ### Phases -/

/-- Whether this node is the trim node of a context (R75). -/
def State.trimHere (s : State) (c : Context) : Bool := c.trimNode == some s.me

/-- The lists a context names at this node: those of its make and break route where this node holds a participant
record (R75, R97). DESIGN CHOICE (log 31): the make route's come first, then the break route's, and one that both name stands
where the break route has it. -/
def State.named (s : State) (c : Context) (list : RoutePlan → List Nat) : List Nat :=
  (((s.route? c.make).filter s.participantRecord).toList ++ ((c.brk.bind s.route?).filter s.participantRecord).toList).flatMap
    (fun r => list r.plan) |>.dedup

/-- Step 3 of R75 at the trim node: the trim outcome and its position fixed, or FAIL NO ANSWER (R116, R119). The outcome
is kept whether the fix is answered FIXED or NO CLAIM. -/
def State.trimStep (s : State) (tag : Tag) : State :=
  match s.context? tag with
  | none => s
  | some c =>
    match (s.route? c.make).bind (fun r => r.plan.trimAttenuator) with
    | none => s
    | some a =>
      match s.switch? a, c.standing.all (fun x => x.accept.isSome) with
      | some w, true =>
        let t := trimFor (c.target.getD 0) ((c.standing.map (fun x => x.accept.getD 0)).sum) w.plan.step w.plan.maxCode
        ((s.onContext tag (fun c => { c with trim := some t })).fixTrim tag a t.code).2
      | _, _ =>
        let s := s.onContext tag Context.trimFail
        { s with rfg := s.rfg.endWatch tag }

/-- Entry to COLD (R75, R76). -/
def State.enterCold (s : State) (c : Context) : State :=
  if c.role = .sponsorOnly then s.onContext c.tag (fun x => { x with phase := .cold })
  else
    let rfg := s.rfg.openGuard c.tag (s.named c RoutePlan.inhibits) (s.named c RoutePlan.detectors) c.hotTolerant
    let (pass, rfg) := rfg.quietTest c.tag
    let s := { s with rfg := rfg }.onContext c.tag (fun x =>
      let x := { x with phase := .cold, quietLeft := s.cxe.quietTimeout, quietWait := true }
      if pass then x.quietPass else x)
    if s.trimHere c then s.trimStep c.tag else s

/-- The drive requests of a context at its entry to MOVE, in the order of R6 (R78 step 2): a pair once, by the member its
setting names, and the trim attenuator at the trim code. DESIGN CHOICE (log 38): of two members that settings name (R3), the
one first in the list. -/
def State.driveList (s : State) (c : Context) : List (Nat × Nat) :=
  match s.route? c.make with
  | none => []
  | some r =>
    let settings := r.plan.settings.filter (fun st =>
      match s.partner? st.switch with
      | some p => !(r.plan.settings.takeWhile (fun q => q.switch != st.switch)).any (fun q => q.switch == p)
      | none => true)
    settings.map (fun st => (st.switch, st.position))
      ++ (match s.trimHere c, r.plan.trimAttenuator, c.trim with
          | true, some a, some t => [(a, t.code)]
          | _, _, _ => [])

/-- One drive request of a context and its answer (R78, R79). -/
def State.driveFor (tag : Tag) (s : State) (request : Nat × Nat) : State :=
  let (answer, s) := s.drive tag true request.1 request.2
  s.onContext tag (fun c => c.takeDriveAnswer request.1 answer)

/-- Entry to MOVE, the commit point (R78). -/
def State.enterMove (s : State) (c : Context) : State :=
  let s := s.onContext c.tag (fun x => { x with phase := .move, passedCommit := true, quietWait := false })
  let s := match c.brk with
    | some b => s.breakDown b
    | none => s
  let s := if c.role = .participant then (s.driveList c).foldl (State.driveFor c.tag) s else s
  s.onContext c.tag Context.settleReport

/-- Entry to DONE (R81). -/
def State.enterDone (s : State) (c : Context) : State :=
  let record := CloseRecord.at .ok none
  let s := (s.makeEstablished c).dropBusy c.tag
  let s := s.closeGuard c.tag
  let s := match (s.route? c.make).bind (fun r => r.plan.ready) with
    | some l => { s with rfg := s.rfg.pulse l }
    | none => s
  (s.onContext c.tag (Context.closed .done record)).handOver c true record

/-- What a stage entry says to the phase rules: its sender as participant, as sponsor, and its report (R71). -/
structure Voice where
  sender : Nat
  participant : Bool
  sponsor : Bool
  report : Report
deriving DecidableEq, Repr

/-- The close a stage entry asks of an open context (R73, R77, R80). -/
def Voice.close (v : Voice) (phase : Phase) : Option CloseRecord :=
  match v.report with
  | .object why =>
    if v.participant && phase != .move then some { reason := .objected, node := some v.sender, objection := some why }
    else none
  | .fail why => if v.participant then some (.at why.close (some v.sender)) else none
  | .withdraw => if v.sponsor && phase != .move then some (.at .withdrawn (some v.sender)) else none
  | _ => none

/-- The phase tests on the entry just taken, repeated until one leaves the phase as it was (R73, R77, R80). A context
passes at most ANSWER, COLD, MOVE and DONE. -/
def State.testPhases (v : Voice) (tag : Tag) : Nat → State → State
  | 0, s => s
  | fuel + 1, s =>
    match s.context? tag with
    | none => s
    | some c =>
      if !c.isOpen then s
      else
        match v.close c.phase with
        | some record => s.closeFailed c record
        | none =>
          if c.phase = .answer ∧ c.allAt .accept then State.testPhases v tag fuel (s.enterCold c)
          else if c.phase = .cold ∧ c.allAt .quiet then State.testPhases v tag fuel (s.enterMove c)
          else if c.phase = .move ∧ c.allAt .settled then s.enterDone c
          else s

/-! ### Records heard -/

/-- A stage entry heard in a sender's slot (R71). -/
def State.takeEntry (sender : Nat) (s : State) (e : StageEntry) : State :=
  match s.context? e.tag with
  | none => s
  | some c =>
    let v : Voice := { sender := sender, participant := c.participants.contains sender, sponsor := sender == c.tag.sponsor,
                       report := e.report }
    if c.make = e.make ∧ c.isOpen ∧ (v.participant || v.sponsor) then
      State.testPhases v e.tag 4 (if v.participant then s.onContext e.tag (Context.raise sender e.report) else s)
    else s

/-- Whether a good record shows that a participant has freed its context (R72). -/
def Context.freedBy (sender : Nat) (entries : List StageEntry) (c : Context) : Bool :=
  c.isOpen && c.participants.contains sender && c.rankOf sender != .none && !entries.any (fun e => e.tag == c.tag)

/-- A context named by an event closes FAILED, if it is still open. -/
def State.closeOpen (record : Context → CloseRecord) (s : State) (tag : Tag) : State :=
  match s.context? tag with
  | some c => if c.isOpen then s.closeFailed c (record c) else s
  | none => s

/-- The contexts a participant's record leaves out close NO ANSWER (R72). -/
def State.participantFreed (s : State) (sender : Nat) (entries : List StageEntry) : State :=
  ((s.cxe.contexts.filter (Context.freedBy sender entries)).map Context.tag).foldl
    (State.closeOpen (fun _ => .at .noAnswer (some sender))) s

/-- The kind of a PROPOSE's changeover (R65). -/
def Propose.kind (p : Propose) : ChangeKind :=
  match p.brk with
  | none => .make
  | some b => if b = p.make then .retrim else .exchange

/-- Step 2 of R65: a PROPOSE whose contents disagree. -/
def Propose.inconsistent (p : Propose) : Bool :=
  !decide p.participants.Nodup || (match p.trimNode with
    | some t => !p.participants.contains t
    | none => false) || p.trimNode.isSome != p.target.isSome

/-- A new context in ANSWER (R65). DESIGN CHOICE (log 30): quiet remaining and linger remaining are 0 until R75 and R82 set
them. -/
def Propose.context (p : Propose) (sponsor : Nat) (role : Role) : Context :=
  { tag := { sponsor := sponsor, seq := p.seq }, kind := p.kind, make := p.make, brk := p.brk, frequency := p.frequency,
    target := p.target, trimNode := p.trimNode, participants := p.participants, hotTolerant := p.hotTolerant, role := role,
    phase := .answer, report := none, kept := none,
    standing := p.participants.map (fun n => { node := n, rank := .none, accept := none, settled := none }),
    window := p.window, quietLeft := 0, quietWait := false, waitSet := [], driven := [], hotMark := false, trim := none,
    withdrawal := .none, close := none, passedCommit := false, linger := 0 }

/-- The requests of the entry to ANSWER (R67, R68): the role and own report they give. -/
def State.enterAnswer (s : State) (p : Propose) (tag : Tag) (participant : Bool) : Role × Option Report × State :=
  let trimHere := p.trimNode == some s.me
  match s.routeCheck tag p.make p.brk participant trimHere with
  | (answer, s) =>
    if participant then
      match answer with
      | .refuse why => (.participant, some (.object why), s)
      | .breakOnly => (.breakOnly, some (if trimHere then .object .noTrim else .accept 0), s)
      | .marked =>
        match s.claimCheck tag p.make (p.brk.filter (fun b => (s.route? b).isSome)) trimHere with
        | (some why, s) => (.participant, some (.object why), s)
        | (none, s) => (.participant, some (.accept (s.segmentLoss p.make p.frequency)), s)
    else (.sponsorOnly, none, s)

/-- A context opens (R65 step 5, R67). -/
def State.openContext (s : State) (p : Propose) (sponsor : Nat) : State :=
  let tag : Tag := { sponsor := sponsor, seq := p.seq }
  let (role, report, s) := s.enterAnswer p tag (p.participants.contains s.me)
  { s with cxe := { s.cxe with contexts := s.cxe.contexts ++ [{ p.context sponsor role with report := report }] } }

/-- Count a rejected PROPOSE (R65). -/
def State.countRejected (s : State) : State :=
  { s with cxe := { s.cxe with rejected := satAdd Config.count16 s.cxe.rejected 1 } }

/-- Count an unplaced PROPOSE (R65). -/
def State.countUnplaced (s : State) : State :=
  { s with cxe := { s.cxe with unplaced := satAdd Config.count16 s.cxe.unplaced 1 } }

/-- The reservation of the slot whose PROPOSE this node hears ends (R64). -/
def State.endReservation (s : State) : State :=
  match s.sentSlot? with
  | some name => s.unreserve name
  | none => s

/-- A PROPOSE heard in a slot (R65). -/
def State.proposeHeard (s : State) (sponsor : Nat) (p : Propose) : State :=
  let own := sponsor == s.me
  let tag : Tag := { sponsor := sponsor, seq := p.seq }
  if !p.participants.contains s.me && !own then s
  else if p.inconsistent || (s.context? tag).isSome then
    let s := s.countRejected
    if own then s.endReservation.proposeNotOpened else s
  else
    let s := if own then s.endReservation else s
    if s.placeFree then
      let s := s.openContext p sponsor
      if own then s.proposeOpened else s
    else s.countUnplaced

/-- A message heard (R65, R37): a RELEASE goes to the Route Table, which tells the SPU of the node's own. -/
def State.messageHeard (s : State) (sender : Nat) (changeovers : Bool) : Option Message → State
  | none => s
  | some (.propose p) => if changeovers then s.proposeHeard sender p else s
  | some (.release route force) =>
    let (answer, s) := s.releaseHeard sender route force
    if sender = s.me then s.releaseAnswered (answer == .honoured) else s

/-- A good record delivered (R49, R66): the stage entries in order, what they leave out (R72), then the message. -/
def State.deliver (s : State) (r : SlotRecord) : State :=
  if s.biu.busState.speaks then
    let s := r.entries.foldl (State.takeEntry r.sender) s
    (s.participantFreed r.sender r.entries).messageHeard r.sender true r.message
  else s.messageHeard r.sender false r.message

/-! ### Freeing, outcomes and absences -/

/-- A context is freed (R85): removed from the table and from every waiter set, and DRAINING tested. -/
def State.freeContext (s : State) (tag : Tag) : State :=
  let s := { s with cxe := { s.cxe with contexts := s.cxe.contexts.filter (fun c => c.tag != tag) } }
  (s.onSwitches (fun w => { w with waiters := w.waiters.filter (fun t => t != tag) })).drainTest

/-- A closed context whose linger has run out and whose driven set is empty is freed (R85). -/
def State.freeIfDone (s : State) (tag : Tag) : State :=
  match s.context? tag with
  | some c => if !c.isOpen && c.linger == 0 && c.driven.isEmpty then s.freeContext tag else s
  | none => s

/-- A settle outcome reaches a waiting tag's context (R79, R151): a context closed in MOVE releases its lines when its
driven set empties, and is freed when its linger has run out too (R85). -/
def State.tellOutcome (report : SettleReport) (s : State) (tag : Tag) : State :=
  match s.context? tag with
  | none => s
  | some c =>
    let after := c.takeOutcome report.switches report.outcome
    let s := s.onContext tag (fun x => x.takeOutcome report.switches report.outcome)
    let s := if c.phase == .failed && !c.driven.isEmpty && after.driven.isEmpty then s.closeGuard tag else s
    s.freeIfDone tag

/-- The end of a settle (R17 to R19): judged by the SBC, its outcome told to every waiter. -/
def State.settleEnds (s : State) (index : Nat) : State :=
  let (report, s) := s.endSettle index
  report.waiters.foldl (State.tellOutcome report) s

/-- The answer window runs out (R74): the last frame end of a context still in ANSWER is counted, and it closes NO ANSWER,
naming the first silent participant. -/
def State.windowRunsOut (s : State) (tag : Tag) : State :=
  match s.context? tag with
  | some c =>
    if c.phase = .answer ∧ c.window ≤ 1 then
      let c := { c with window := 0 }
      (s.onContext tag (fun x => { x with window := 0 })).closeFailed c (.at .noAnswer ((c.standing.find? (fun x => x.rank == .none)).map Standing.node))
    else s
  | none => s

/-- The quiet wait runs out (R76, R102): its last frame end is counted, and the own report becomes FAIL HOT. -/
def State.quietRunsOut (s : State) (tag : Tag) : State :=
  match s.context? tag with
  | some c =>
    if c.phase = .cold ∧ c.quietWait ∧ c.quietLeft ≤ 1 then
      let s := s.onContext tag (fun x => { x with quietLeft := 0 }.quietFail)
      { s with rfg := s.rfg.endWatch tag }
    else s
  | none => s

/-- Whether an absence names a context (R147). -/
def Context.namedBy (absent : List Nat) (c : Context) : Bool :=
  c.isOpen && (c.participants ++ [c.tag.sponsor]).any (fun n => absent.contains n)

/-- The CXE takes an absence notice (R147). -/
def State.absenceContexts (s : State) (absent : List Nat) : State :=
  ((s.cxe.contexts.filter (Context.namedBy absent)).map Context.tag).foldl
    (State.closeOpen (fun c => .at .peerLost (firstAbsent absent (c.participants ++ [c.tag.sponsor])))) s

/-- A sample's PASS answers reach their contexts (R76, R100). -/
def State.quietPasses (s : State) (tags : List Tag) : State := tags.foldl (fun s t => s.onContext t Context.quietPass) s

/-- A detector sample taken (R95, R96, R100): the record classified, and the watched contexts whose test then passes. -/
def State.sampleTaken (s : State) (input : Nat) (level : Int) : State :=
  let (rfg, tags) := s.rfg.takeSample input level
  ({ s with rfg := rfg }).quietPasses tags

/-- The CXE and SPU on entry to DUPLICATE (R156, R157): reservations end, open contexts close PEER LOST with this node
as failing node, and what is left in the sponsor slots ends. -/
def State.fallSilent (s : State) : State :=
  let s := { s with cxe := { s.cxe with reservations := [] } }
  let s := ((s.cxe.contexts.filter Context.isOpen).map Context.tag).foldl
    (State.closeOpen (fun _ => .at .peerLost (some s.me))) s
  (s.endSilent .a).endSilent .b

end Sys2Proof.Machine
end

