-- ==== Sys2Proof/Machine/Bus.lean ====
section
/-! DEFINITION. The Bus Interface Unit: frames and sync, the own slot, hearing records, DUPLICATE, the peer table, and the
bus states (chapter 3). -/

namespace Sys2Proof.Machine

/-! ### Frames and sync -/

/-- A frame begins at a sync (R43, R44): its slots count from 1, and whether it began in LISTEN with the node already
synced decides whether the own slot is judged in it (R52). -/
def Biu.beginFrame (b : Biu) (drive : BusDrive) : Biu :=
  { b with
    place := .slots 1, begunInListen := b.synced && b.busState == .listen, synced := true, ownCopy := none, drive := drive,
    heard := [] }

/-- Whether a sync now would begin a frame (R45): at any time while not synced, else from the frame end onward. -/
def Biu.awaitsSync (b : Biu) : Bool := b.timerRunning && (!b.synced || b.place == .idle)

/-- A sync seen on the line (R45). -/
def State.syncSeen (s : State) : State :=
  if s.biu.awaitsSync then { s with biu := s.biu.beginFrame .nothing } else s

/-- A timer expires at a node that drives (R44): it drives a sync, or, where another node's sync has begun on the line, does
not drive and recognises that one when it completes (SYNC_RECOGNISED). Whether one has begun is a free value (log 27). -/
def State.timerDrives (s : State) : State :=
  if Config.syncBegun s.freeDraws then { s with freeDraws := s.freeDraws + 1 }
  else { s with freeDraws := s.freeDraws + 1, biu := s.biu.beginFrame .sync }

/-- The frame timer reaches the frame period at a synced node (R44), which in DUPLICATE begins a frame it does not judge
(R56). -/
def State.frameTimerExpires (s : State) : State :=
  if s.biu.timerRunning && s.biu.synced && s.biu.place == .idle then
    if s.biu.busState = .duplicate then { s with biu := { s.biu with place := .unjudged, begunInListen := false, heard := [] } }
    else s.timerDrives
  else s

/-- The search span runs out at a node not synced (R45). DESIGN CHOICE (log 27): what R44 says of two timers that expire close
together holds of this one too. In DUPLICATE the node does not drive (R56). -/
def State.searchSpanExpires (s : State) : State :=
  if s.biu.timerRunning && !s.biu.synced && s.biu.busState != .duplicate then s.timerDrives else s

/-! ### The own slot -/

/-- The stage entries of the changeover table (R70). -/
def State.stageEntries (s : State) : List StageEntry :=
  s.cxe.contexts.filterMap (fun c => c.report.map (fun r => { tag := c.tag, make := c.make, report := r }))

/-- The oldest message leaves the list, and the SPU is told that its slot's message was sent (R46 step 3, R47). -/
def State.takeMessage (s : State) : Option Message × State :=
  match s.biu.outbound with
  | [] => (none, s)
  | o :: rest =>
    (some o.message,
      ({ s with biu := { s.biu with outbound := rest } }).setSlot o.slot { s.slot o.slot with sent := true })

/-- The start of the node's own slot (R46, R87). -/
def State.startOwnSlot (s : State) : State :=
  if s.biu.busState.speaks && s.biu.synced && s.biu.place == .slots s.me && s.biu.ownCopy.isNone then
    let s := s.testWithdrawals
    let entries := s.stageEntries
    let (message, s) := s.takeMessage
    { s with biu := { s.biu with
        ownCopy := some { sender := s.me, draining := s.biu.busState == .draining, entries := entries, message := message }
        drive := .record } }
  else s

/-! ### DUPLICATE -/

/-- Entry to DUPLICATE (R56, R156, R157). -/
def State.enterDuplicate (s : State) (cause : DuplicateCause) : State :=
  let s := { s with biu := { s.biu with busState := .duplicate, cause := some cause, outbound := [] } }
  (s.fire .duplicate (.cause cause)).fallSilent

/-! ### Hearing records -/

/-- Change the peer table entry of a node number. -/
def State.onPeer (s : State) (node : Nat) (f : Peer → Peer) : State :=
  { s with biu := { s.biu with peers := s.biu.peers.map (fun p => if p.node = node then f p else p) } }

/-- Whether a peer is PRESENT. -/
def State.peerPresent (s : State) (node : Nat) : Bool := s.biu.peers.any (fun p => p.node == node && p.presence == .present)

/-- A good record judged in a peer's slot (R57). -/
def State.peerHeard (s : State) (r : SlotRecord) : State :=
  let was := s.peerPresent r.sender
  let s := s.onPeer r.sender (fun p => { p with presence := .present, missed := 0, lastDraining := some r.draining })
  let s := { s with biu := { s.biu with heard := addIndex r.sender s.biu.heard } }
  if was then s else s.fire .peer (.node r.sender)

/-- A failed record in a peer's slot (R59). -/
def State.checkFailed (s : State) (node : Nat) : State :=
  (s.onPeer node (fun p => { p with checkFailures := satAdd Config.count16 p.checkFailures 1 })).fire .busCheck (.node node)

/-- What was heard in a peer's slot (R57, R59, R49). -/
def State.peerSlot (s : State) (slot : Nat) : Heard → State
  | .nothing => s
  | .failed => s.checkFailed slot
  | .good r => (s.peerHeard r).deliver r

/-- A signal in the own slot while OFF-BUS: its frame is no clear one, though the node be back in LISTEN at the frame end
(R52, R54; log 26). -/
def Biu.signalHeard (b : Biu) : Biu := { b with begunInListen := false }

/-- What was heard in the node's own slot, by its bus state (R49, R51, R52, R55, R56; log 13, 14). -/
def State.ownSlot (s : State) (copy : Option SlotRecord) (heard : Heard) : State :=
  match s.biu.busState, heard with
  | .onBus, .good r | .draining, .good r => if copy = some r then s.deliver r else s.enterDuplicate .ownRecordAltered
  | .onBus, .failed | .draining, .failed => s.enterDuplicate .ownRecordFailed
  | .onBus, .nothing | .draining, .nothing => if copy.isSome then s.enterDuplicate .ownRecordFailed else s
  | .listen, .good r => if s.biu.begunInListen then (s.deliver r).enterDuplicate .ownSlotInUse else s
  | .listen, .failed => if s.biu.begunInListen then s.enterDuplicate .ownSlotInUse else s
  | .offBus, .good r => ({ s with biu := s.biu.signalHeard }).deliver r
  | .offBus, .failed => { s with biu := s.biu.signalHeard }
  | _, _ => s

/-- The end of the next slot of the frame (R48): what the line carried is judged and taken. -/
def State.endSlot (s : State) (line : Bits) : State :=
  match s.biu.place with
  | .slots n =>
    if s.biu.timerRunning && s.biu.synced && decide (n ≤ 30) then
      let heard := judgeSlot n line
      let copy := s.biu.ownCopy
      let s := { s with biu := { s.biu with place := .slots (n + 1), drive := .nothing } }
      if n = s.me then ({ s with biu := { s.biu with ownCopy := none } }).ownSlot copy heard else s.peerSlot n heard
    else s
  | _ => s

/-! ### Bus states on request (R53, R54) -/

/-- Answers of the BIU to LEAVE BUS and JOIN BUS. -/
inductive BusAnswerKind where
  | taken
  | noChange
  | refused
deriving DecidableEq, Repr

/-- LEAVE BUS (R53). -/
def State.leave (s : State) : BusAnswerKind × State :=
  match s.biu.busState with
  | .onBus => (.taken, { s with biu := { s.biu with busState := .draining } })
  | .listen => (.taken, { s with biu := { s.biu with busState := .offBus, silence := Config.silenceFull } })
  | .silent => (.taken, { s with biu := { s.biu with busState := .offBus } })
  | .draining | .offBus => (.noChange, s)
  | .duplicate => (.refused, s)
  | .loading | .planFault => (.refused, s)

/-- Entry to LISTEN (R51, R52, R54): clear count 0. A frame in progress keeps whether it began in LISTEN, as one has that a
LEAVE BUS and a JOIN BUS fall into. -/
def Biu.enterListen (b : Biu) : Biu := { b with busState := .listen, clear := 0 }

/-- JOIN BUS (R54). -/
def State.join (s : State) : BusAnswerKind × State :=
  match s.biu.busState with
  | .offBus =>
    (.taken,
      if s.biu.silence = Config.silenceFull then { s with biu := s.biu.enterListen }
      else { s with biu := { s.biu with busState := .silent } })
  | .draining => (.taken, ({ s with biu := { s.biu with busState := .onBus } }).sponsorEvent)
  | .onBus | .listen | .silent => (.noChange, s)
  | .duplicate => (.refused, s)
  | .loading | .planFault => (.refused, s)

/-- The BIU at RESTART (R62): the place in the frame, the timer, synced and the check-failure counts are kept. -/
def Biu.restart (b : Biu) : Biu :=
  { b with
    busState := .silent, cause := none, silence := 0, begunInListen := false, ownCopy := none,
    drive := if b.drive = .record then .nothing else b.drive, outbound := [],
    peers := b.peers.map (fun p => { Peer.blank p.node with checkFailures := p.checkFailures }) }

/-- The BIU takes the node number and the plan's frame period, starts its timer not synced and enters SILENT (R50, R193). -/
def Biu.start (b : Biu) (period : Nat) : Biu :=
  { b with
    busState := .silent, silence := 0, timerRunning := true, synced := false, period := period, place := .idle,
    begunInListen := false }

end Sys2Proof.Machine
end

