-- ==== Sys2Proof/Machine/FrameWork.lean ====
section
/-! DEFINITION. The frame end: every block's counts, and the work they then owe, one piece at a time (R43, R16, R51 to
R53, R58, R74, R76, R85, R137, R146, R202; log 1). -/

namespace Sys2Proof.Machine

/-! ### Counting -/

/-- A peer at a frame end (R58): a PRESENT peer whose slot gave no good record has missed one more, at most 8. -/
def Peer.frameEnd (heard : List Nat) (p : Peer) : Peer :=
  if p.presence = .present ∧ p.node ∉ heard then { p with missed := satAdd Config.missedFull p.missed 1 } else p

/-- The BIU's counts at a frame end (R51, R52, R53, R58). -/
def Biu.frameEnd (b : Biu) : Biu :=
  { b with
    place := .idle, drive := .nothing, ownCopy := none, heard := [], begunInListen := false,
    silence := if b.busState = .silent ∨ b.busState = .offBus then satAdd Config.silenceFull b.silence 1 else b.silence,
    clear := if b.busState = .listen ∧ b.begunInListen then satAdd Config.clearFull b.clear 1 else b.clear,
    peers := b.peers.map (Peer.frameEnd b.heard) }

/-- Whether this frame end is the last of a context's answer window (R74). -/
def Context.windowEnds (c : Context) : Bool := c.phase == .answer && decide (c.window ≤ 1)

/-- Whether this frame end is the last of a context's quiet wait (R76). -/
def Context.quietEnds (c : Context) : Bool := c.phase == .cold && c.quietWait && decide (c.quietLeft ≤ 1)

/-- A context's counts at a frame end: the answer window in ANSWER (R74), the quiet wait (R76), the linger once closed
(R85). The last frame end of a window or of a quiet wait is counted by the work it leaves, since a context that an absence
closes first does not count it (R148; log 1). -/
def Context.frameEnd (c : Context) : Context :=
  { c with
    window := if c.phase = .answer ∧ 1 < c.window then c.window - 1 else c.window,
    quietLeft := if c.phase = .cold ∧ c.quietWait ∧ 1 < c.quietLeft then c.quietLeft - 1 else c.quietLeft,
    linger := if c.isOpen then c.linger else c.linger - 1 }

/-- A sponsor slot's count at a frame end (R137). -/
def SponsorSlot.frameEnd (slot : SponsorSlot) : SponsorSlot :=
  if slot.state = .backoff then { slot with backoff := slot.backoff - 1 } else slot

/-- Every block's counts at a frame end (R43). -/
def State.countFrame (s : State) : State :=
  { s with
    biu := s.biu.frameEnd
    sbc := s.sbc.map Switch.settleTick
    cxe := { s.cxe with contexts := s.cxe.contexts.map Context.frameEnd }
    spu := { s.spu with slotA := s.spu.slotA.frameEnd, slotB := s.spu.slotB.frameEnd } }

/-- Peers whose missed count has reached 8 (R58). -/
def State.absentees (s : State) : List Nat :=
  (s.biu.peers.filter (fun p => p.presence == .present && p.missed == Config.missedFull)).map Peer.node

/-- Whether a slot's backoff has run out (R137). -/
def SponsorSlot.retryDue (slot : SponsorSlot) : Bool := slot.state == .backoff && slot.backoff == 0

/-- The work the counts of a frame end leave to the blocks, in the order the model does it when the sender asks for no
other (log 1). `contexts` is the changeover table before the frame end was counted. -/
def State.owed (s : State) (contexts : List Context) : List Work :=
  ((s.sbc.map (fun w => w.plan.index)).filter (fun i => s.settleEnded i && s.settleUnit i == i)).map Work.settle
    ++ (contexts.filter Context.quietEnds).map (fun c => .quiet c.tag)
    ++ (contexts.filter Context.windowEnds).map (fun c => .window c.tag)
    ++ (if s.absentees.isEmpty then [] else [.absence])
    ++ (s.cxe.contexts.filter (fun c => !c.isOpen && c.linger == 0 && c.driven.isEmpty)).map (fun c => .linger c.tag)
    ++ (if s.biu.busState = .silent ∧ s.biu.silence = Config.silenceFull then [.silence] else [])
    ++ (if s.biu.busState = .listen ∧ s.biu.clear = Config.clearFull then [.clear] else [])
    ++ (if s.spu.slotA.retryDue then [.backoff .a] else [])
    ++ (if s.spu.slotB.retryDue then [.backoff .b] else [])
    ++ (if s.biu.busState = .onBus then [.takeUp] else [])

/-- Whether the node has a frame end to count now: synced, and after slot 30 or in a frame it does not judge (R43, R45,
R56). -/
def Biu.frameEnds (b : Biu) : Bool := b.timerRunning && b.synced && (b.place == .slots 31 || b.place == .unjudged)

/-- The frame end (R43): counts, the test for the end of DRAINING (R53), and the work then owed. -/
def State.frameEnds (s : State) (sense : SenseLevels) : State :=
  if s.biu.frameEnds then
    let t := ({ s with sense := sense }).countFrame.drainTest
    { t with agenda := t.owed s.cxe.contexts }
  else s

/-! ### The work of a frame end -/

/-- The peers become ABSENT and the absence notice is handed on (R58, R146, R147, R149). -/
def State.peersGoAbsent (s : State) : State :=
  let absent := s.absentees
  let s := absent.foldl (fun s n =>
    (s.onPeer n (fun p => { p with presence := .absent })).fire .peer (.node n)) s
  (s.absenceContexts absent).orphanRoutes absent

/-- The silence count has reached 12 (R51). -/
def State.silenceComplete (s : State) : State :=
  if s.biu.busState = .silent ∧ s.biu.silence = Config.silenceFull then { s with biu := s.biu.enterListen } else s

/-- The clear count has reached 2 (R52): ON-BUS, where the SPU tries a take-up (R130). -/
def State.clearComplete (s : State) : State :=
  if s.biu.busState = .listen ∧ s.biu.clear = Config.clearFull then
    ({ s with biu := { s.biu with busState := .onBus } }).sponsorEvent
  else s

/-- A slot's backoff has run out (R137). A retry whose re-check fails frees the slot, an event of R130. -/
def State.backoffRunsOut (s : State) (name : SlotName) : State :=
  let t := s.retrySlot name
  if (s.slot name).state = .backoff ∧ (t.slot name).state = .free then t.sponsorEvent else t

/-- One piece of a frame end's work, a whole event (R167, R180, R184 judged at its end). -/
def State.doWork (s : State) (w : Work) : State :=
  (match w with
   | .settle i => if s.settleEnded i then s.settleEnds i else s
   | .quiet tag => s.quietRunsOut tag
   | .window tag => s.windowRunsOut tag
   | .absence => s.peersGoAbsent
   | .linger tag => s.freeIfDone tag
   | .silence => s.silenceComplete
   | .clear => s.clearComplete
   | .backoff name => s.backoffRunsOut name
   | .takeUp => s.takeUps).complete

/-- The work still owed, done before the next other event is taken (log 1). -/
def State.caughtUp (s : State) : State := s.agenda.foldl State.doWork { s with agenda := [] }

/-- A piece of work asked for by its own row: done now if it is owed, else there is nothing to do (log 2). -/
def State.workNow (s : State) (w : Work) : State :=
  if w ∈ s.agenda then ({ s with agenda := s.agenda.erase w }).doWork w else s

end Sys2Proof.Machine
end

