-- ==== Sys2Proof/Machine/Loader.lean ====
section
/-! DEFINITION. The Plan Loader: hardware reset, the load, PLAN FAULT, filling the blocks, and SAVE WEAR (chapter 11). -/

namespace Sys2Proof.Machine

/-! ### Save writes -/

/-- The memory with the first `reached` bytes of a save write in it; a closing write that was not accepted leaves the
area open whatever reached it (R195, R196; log 9). -/
def SaveWrite.partly (copy : List Nat) (w : SaveWrite) (reached : Nat) (mem : List Host.Cell) : List Host.Cell :=
  match w with
  | .closeMark => mem
  | w => Memory.writeBytes mem (w.target copy).1 ((w.target copy).2.take reached)

/-- The memory after a save write it accepted (R195). -/
def SaveWrite.whole (copy : List Nat) (w : SaveWrite) (mem : List Host.Cell) : List Host.Cell :=
  Memory.writeBytes mem (w.target copy).1 (w.target copy).2

/-- The write after one the memory accepted; none after the closing write (R195, R201). -/
def SaveWrite.next : SaveWrite → Option SaveWrite
  | .openMark => some (.count 0)
  | .count i => if i + 1 < Config.wearSlots then some (.count (i + 1)) else some .check
  | .check => some .closeMark
  | .closeMark => none

/-- The copy of the wear counts by switch index, 0 for an index the plan does not fill (R194). -/
def State.wearCopy (s : State) : List Nat :=
  (List.range Config.wearSlots).map (fun i => match s.switch? i with
    | some w => w.wear
    | none => 0)

/-- SAVE WEAR at the PLD (R194): true is TAKEN, false BUSY. -/
def State.beginSave (s : State) : Bool × State :=
  match s.pld.save with
  | .idle => (true, { s with pld := { s.pld with save := .writing s.wearCopy .openMark } })
  | .writing _ _ => (false, s)

/-- The memory accepts the save write in flight (R195). -/
def State.saveAccepted (s : State) : State :=
  match s.pld.save with
  | .idle => s
  | .writing copy w =>
    let s := { s with mem := w.whole copy s.mem }
    match w.next with
    | some v => { s with pld := { s.pld with save := .writing copy v } }
    | none => { s with pld := { s.pld with save := .idle, lastSave := .complete } }

/-- The memory refuses or does not answer the save write in flight (R195). -/
def State.saveFailed (s : State) (reached : Nat) : State :=
  match s.pld.save with
  | .idle => s
  | .writing copy w =>
    { s with mem := w.partly copy reached s.mem, pld := { s.pld with save := .idle, lastSave := .failed } }

/-! ### Hardware reset and the load -/

/-- HARDWARE RESET (R24, R41, R61, R92, R108, R126, R144, R176, R186, R197): every block in its reset state. The memory
keeps its bytes, a save write in flight cut off where it stood (R196). -/
def State.hardwareReset (s : State) (reached : Nat) : State :=
  { State.reset with
    mem := (match s.pld.save with
      | .idle => s.mem
      | .writing copy w => w.partly copy reached s.mem)
    freeDraws := s.freeDraws
    pending := s.pending }

/-- The plan is refused (R191): PLAN FAULT, the cause kept. -/
def State.refusePlan (s : State) (fault : PlanFault) : State :=
  { s with
    biu := { s.biu with busState := .planFault }
    pld := { s.pld with load := .fault, begun := false, fault := some fault } }

/-- The reset ends and the load begins (R189): the plan area is as the tools left it, and the straps are read. DESIGN
CHOICE (log 36): straps that read 0 or 31 give no node number, so none is shown. -/
def State.beginLoad (s : State) (straps : Nat) (plan : List Byte) : State :=
  if s.pld.load = .loading ∧ s.pld.begun = false then
    let s := { s with mem := Memory.placePlan s.mem plan, pld := { s.pld with begun := true } }
    if nodeOk straps then { s with biu := { s.biu with node := some straps } } else s.refusePlan (.plain .strap)
  else s

/-- Whether a load is in progress (R189). -/
def State.loading (s : State) : Bool := s.pld.load == .loading && s.pld.begun

/-- The plan as the memory answers it at this node (R189 steps 2 to 4). The run of bytes from address 0 is no longer than
the memory has bytes. DESIGN CHOICE (log 39): nor than the plan area, so a plan whose counts reach past it is refused with
cause MEMORY. -/
def State.planRead (s : State) : Except PlanFault RawPlan :=
  readPlan s.me (Memory.run s.mem 0 (min s.mem.length Config.wearBase))

/-- The wear area is found LOST (R192). -/
def State.wearLost (s : State) : State :=
  ({ s with pld := { s.pld with wearValid := some false } }).fire .switchFault .wearAreaLost

/-- The blocks filled, the switches set, the timer started (R193). -/
def State.fill (s : State) (p : RawPlan) (counts : Option (List Nat)) (sense : SenseLevels) : State :=
  let s : State := { s with
    rtb := { s.rtb with routes := p.routes.map (fun (r : RawRoute) => r.plan.record) }
    ltu := p.tables.map (fun (t : Nat × List (Nat × Nat)) =>
      ({ index := t.1, points := t.2.map (fun (q : Nat × Nat) => ({ frequency := q.1, loss := q.2 } : CalPoint)) } : CalTable))
    rfg := { s.rfg with
      detectors := p.detectors.zipIdx.map (fun (d : (Int × Nat) × Nat) =>
        ({ input := d.2, threshold := d.1.1, hysteresis := d.1.2, hot := true, fresh := true, lastSample := none } : Detector))
      pulseWidth := p.pulse }
    spu := { s.spu with single := p.single == 1, window := p.window }
    cxe := { s.cxe with quietTimeout := p.quiet }
    sense := sense
    sbc := p.switches.map (fun (w : RawSwitch) => w.plan.start sense counts) }
  let s : State := (s.sbc.filter Switch.worn).foldl (fun (s : State) (w : Switch) => s.fire .worn (.switch w.plan.index)) s
  { s with biu := s.biu.start p.period, pld := { s.pld with load := .loaded, begun := false } }

/-- The wear area is judged, where an unanswered read has not already found it LOST (R189 step 5, R192). DESIGN CHOICE
(log 46): in the one event that fills the blocks. -/
def State.judgeWear (s : State) : Option (List Nat) × State :=
  match s.pld.wearValid with
  | some _ => (none, s)
  | none =>
    match readWear s.mem with
    | some counts => (some counts, { s with pld := { s.pld with wearValid := some true } })
    | none => (none, s.wearLost)

/-- The load ends with the plan accepted (R192, R193). A plan the checks refuse is not accepted: nothing happens. -/
def State.acceptPlan (s : State) (sense : SenseLevels) : State :=
  if s.loading then
    match s.planRead with
    | .ok p =>
      let (counts, s) := s.judgeWear
      s.fill p counts sense
    | .error _ => s
  else s

/-- The load ends with the plan refused (R190, R191). A plan that passes is not refused: nothing happens. -/
def State.rejectPlan (s : State) : State :=
  if s.loading then
    match s.planRead with
    | .ok _ => s
    | .error fault => s.refusePlan fault
  else s

/-- A memory access is not answered in time (R189, R192, R195). The wear area is read only once the plan has passed, and
once it has been found LOST the plan is read no more (log 2). -/
def State.notAnswered (s : State) : MemoryAccess → State
  | .planRead => if s.loading && s.pld.wearValid.isNone then s.refusePlan (.plain .memory) else s
  | .wearRead =>
    if s.loading && s.pld.wearValid.isNone then
      match s.planRead with
      | .ok _ => s.wearLost
      | .error _ => s
    else s
  | .saveWrite reached => s.saveFailed reached

end Sys2Proof.Machine
end

