-- ==== Sys2Proof/Machine/Answers.lean ====
section
/-! DEFINITION. The response frame in bytes: results, refusal reasons, the notice, and the three query answers field by
field (section 12.2, R162, R169, R170, R200; log 19). -/

namespace Sys2Proof.Machine

/-! ### The encodings of R200 -/

/-- A number in `count` bytes (R198, R200). -/
def num (count n : Nat) : List Byte := bytesOf count n

/-- A named value by its place, counted from 1 (R200). -/
def named (place : Nat) : List Byte := bytesOf 1 place

/-- One of two named values, the one listed first where `b` holds (R200). DESIGN CHOICE (log 43): of a field for which the
spec lists no two values, such as synced or asserted, 1 is yes and 2 is no. -/
def flagByte (b : Bool) : List Byte := named (if b then 1 else 2)

/-- An optional field whose range excludes 0 (R200). -/
def optNonzero (count : Nat) (n : Option Nat) : List Byte := num count (n.getD 0)

/-- An optional field whose range includes 0: a presence byte first (R200). -/
def optional (count : Nat) (n : Option Nat) : List Byte := num 1 n.isSome.toNat ++ num count (n.getD 0)

/-- A list: a one-byte count and its items (R200). DESIGN CHOICE (log 50): where a rule gives the number of a list's items
beside the items, this count is that number, sent once. -/
def listed {α : Type} (item : α → List Byte) (l : List α) : List Byte := num 1 l.length ++ l.flatMap item

/-- A tag: sponsor, then sequence (R200). -/
def tagBytes (t : Tag) : List Byte := num 1 t.sponsor ++ num 1 t.seq

/-- An optional tag: 0 and 0 when absent, since no sponsor is 0. -/
def optTag : Option Tag → List Byte
  | some t => tagBytes t
  | none => num 2 0

/-! ### Places of the named values (R200) -/

/-- Kinds of switch, as R1 lists them. -/
def SwitchKind.place : SwitchKind → Nat
  | .spdt => 1
  | .sp4t => 2
  | .sp8t => 3
  | .transfer => 4
  | .stepatt => 5

/-- Switch states, as R2 lists them. -/
def SwitchState.place : SwitchState → Nat
  | .still => 1
  | .moving => 2
  | .fault => 3

/-- Fault reasons, as R2 lists them. -/
def FaultReason.place : FaultReason → Nat
  | .sense => 1
  | .skew => 2

/-- Route states, as R28 lists them. -/
def RouteState.place : RouteState → Nat
  | .idle => 1
  | .established => 2
  | .orphaned => 3

/-- Level flags, as R28 lists them. -/
def LevelFlag.place : LevelFlag → Nat
  | .none => 1
  | .short => 2
  | .long => 3

/-- Node bus states, in the order of the table of chapter 3 (R50 to R56). -/
def BusState.place : BusState → Nat
  | .loading => 1
  | .planFault => 2
  | .silent => 3
  | .listen => 4
  | .onBus => 5
  | .draining => 6
  | .offBus => 7
  | .duplicate => 8

/-- Causes of DUPLICATE, as R56 lists them. -/
def DuplicateCause.place : DuplicateCause → Nat
  | .ownSlotInUse => 1
  | .ownRecordFailed => 2
  | .ownRecordAltered => 3

/-- Presences, as R57 lists them. -/
def Presence.place : Presence → Nat
  | .unheard => 1
  | .present => 2
  | .absent => 3

/-- Kinds of changeover, as R63 lists them. -/
def ChangeKind.place : ChangeKind → Nat
  | .make => 1
  | .exchange => 2
  | .retrim => 3

/-- Roles, as R63 lists them. -/
def Role.place : Role → Nat
  | .participant => 1
  | .breakOnly => 2
  | .sponsorOnly => 3

/-- Phases, as R63 lists them. -/
def Phase.place : Phase → Nat
  | .answer => 1
  | .cold => 2
  | .move => 3
  | .done => 4
  | .failed => 5

/-- Ranks of a standing, as R63 lists them. -/
def Rank.place (r : Rank) : Nat := r.level + 1

/-- Withdrawals, as R63 lists them. -/
def Withdrawal.place : Withdrawal → Nat
  | .none => 1
  | .pending => 2
  | .sent => 3

/-- Close reasons, as R82 lists them. -/
def CloseReason.place : CloseReason → Nat
  | .ok => 1
  | .objected => 2
  | .noAnswer => 3
  | .hot => 4
  | .sense => 5
  | .skew => 6
  | .withdrawn => 7
  | .peerLost => 8

/-- Kinds of request, as R128 lists them. -/
def RequestKind.place : RequestKind → Nat
  | .make => 1
  | .breakRoute => 2
  | .exchange => 3
  | .retrim => 4

/-- Sponsor slot states, as R128 lists them. -/
def SlotState.place : SlotState → Nat
  | .free => 1
  | .sending => 2
  | .opened => 3
  | .backoff => 4

/-- Cancels, as R128 lists them. -/
def CancelState.place : CancelState → Nat
  | .none => 1
  | .waiting => 2
  | .taken => 3
  | .late => 4

/-- Sponsor slots, A before B. -/
def slotPlace : SlotName → Nat
  | .a => 1
  | .b => 2

/-- Lines of the notify map, as R183 lists them. -/
def NotifyLine.place : NotifyLine → Nat
  | .none => 1
  | .line1 => 2
  | .line2 => 3

/-- Load states, as R197 lists them. -/
def LoadState.place : LoadState → Nat
  | .loading => 1
  | .loaded => 2
  | .fault => 3

/-- Causes of a refused plan, as R191 lists them. -/
def PlanCause.place : PlanCause → Nat
  | .strap => 1
  | .memory => 2
  | .header => 3
  | .check => 4
  | .range => 5
  | .order => 6
  | .partner => 7
  | .reference => 8
  | .setting => 9
  | .trim => 10

/-- Sections of the plan, in their order (section 11.1). -/
def PlanSection.place : PlanSection → Nat
  | .header => 1
  | .constants => 2
  | .switches => 3
  | .detectors => 4
  | .tables => 5
  | .routes => 6

/-- Outcomes of the last save, as R194 lists them. -/
def LastSave.place : LastSave → Nat
  | .none => 1
  | .complete => 2
  | .failed => 3

/-- Kinds of notice (section 12.2). -/
def NoticeKind.code : NoticeKind → Nat
  | .made => 1
  | .exchanged => 2
  | .retrimmed => 3
  | .released => 4
  | .failed => 5
  | .cancelled => 6
  | .orphaned => 7

/-- Results of a notice (section 12.2): 0 OK, then in the order of R177. -/
def NoticeResult.code : NoticeResult → Nat
  | .ok => 0
  | .objected => 1
  | .noAnswer => 2
  | .hot => 3
  | .sense => 4
  | .skew => 5
  | .withdrawn => 6
  | .peerLost => 7
  | .excessiveContention => 8
  | .notHolder => 9
  | .routeBusy => 10
  | .badValue => 11

/-- Refusal reasons (section 12.2). -/
def RefusalReason.code : RefusalReason → Nat
  | .badRequest => 1
  | .noPlan => 2
  | .offBus => 3
  | .duplicate => 4
  | .unknownRoute => 5
  | .badValue => 6
  | .notHolder => 7
  | .routeBusy => 8
  | .queueFull => 9

/-! ### The notice -/

/-- The 22 bytes of a notice (section 12.2, R177). -/
def Notice.bytes (n : Notice) : List Byte :=
  num 2 n.id ++ num 1 n.kind.code ++ num 2 n.route ++ num 2 (n.second.getD 0) ++ num 1 n.result.code
    ++ num 1 (n.node.getD 0) ++ num 1 ((n.objection.map ObjectReason.code).getD 0) ++ num 1 n.attempts
    ++ num 1 (n.achieved.isSome.toNat + 2 * n.residual.isSome.toNat) ++ num 4 (n.achieved.getD 0)
    ++ signedBytes 4 (n.residual.getD 0)
    ++ num 1 (n.short.toNat + 2 * n.long.toNat + 4 * n.hotMade.toNat + 8 * n.cancelTooLate.toNat) ++ num 1 n.lost

/-! ### QUERY ROUTE and QUERY SWITCH -/

/-- A route record: the fields of R27, then of R28 (R40). -/
def Route.bytes (r : Route) : List Byte :=
  num 2 r.plan.id ++ listed (fun (st : Setting) => num 1 st.switch ++ num 1 st.position) r.plan.settings
    ++ listed (num 1) r.plan.participants ++ optNonzero 1 r.plan.trimNode ++ optional 2 r.plan.defaultTarget
    ++ num 2 r.plan.defaultFrequency ++ optional 1 r.plan.table ++ listed (num 1) r.plan.detectors
    ++ listed (num 1) r.plan.inhibits ++ optional 1 r.plan.ready ++ flagByte r.plan.noRetry
    ++ flagByte r.plan.hotTolerant ++ optional 1 r.plan.trimAttenuator
    ++ named r.state.place ++ optNonzero 1 r.holder ++ listed (num 1) r.established ++ optNonzero 2 r.frequency
    ++ optional 2 r.target ++ optional 4 r.achieved ++ named r.flag.place ++ flagByte r.hotMade ++ optTag r.busy

/-- A claim entry (R4): holder, position, successor. DESIGN CHOICE (log 52): the holder's kind byte says pending or
established, and no byte of its own does. DESIGN CHOICE (log 51): a position has its presence byte on every kind of switch. -/
def Claim.bytes (c : Claim) : List Byte :=
  (match c.holder with
   | .pending tag => num 1 1 ++ tagBytes tag
   | .established route => num 1 2 ++ num 2 route)
    ++ optional 1 c.position ++ optTag (c.successor.map Successor.tag) ++ optional 1 (c.successor.bind Successor.position)

/-- A current position (R2): a position of the kind, or UNKNOWN. DEDUCED (log 41): these are two kinds of item (R200). -/
def currentBytes : Option Nat → List Byte
  | some p => num 1 1 ++ num 1 p
  | none => num 1 2

/-- A switch record: the fields of R1, then of R2 (R23). DESIGN CHOICE (log 51): the commanded position has a presence byte
on every kind of switch, a TRANSFER switch included, whose positions are 1 and 2. DESIGN CHOICE (log 50): the number of
waiters is the count of their list. -/
def Switch.bytes (w : Switch) : List Byte :=
  num 1 w.plan.index ++ named w.plan.kind.place ++ num 1 w.plan.step ++ num 1 w.plan.maxCode ++ flagByte w.plan.sensed
    ++ num 1 w.plan.settleTime ++ optional 1 w.plan.partner ++ optNonzero 4 w.plan.lifeLimit
    ++ named w.state.place ++ currentBytes w.current ++ optional 1 w.commanded ++ num 1 w.settleLeft
    ++ num 1 ((w.faultReason.map FaultReason.place).getD 0) ++ num 4 w.wear ++ flagByte w.worn
    ++ listed Claim.bytes w.claims ++ listed tagBytes w.waiters

/-! ### QUERY NODE -/

/-- A peer table entry (R60). -/
def Peer.bytes (p : Peer) : List Byte :=
  named p.presence.place ++ num 1 p.missed ++ num 2 p.checkFailures
    ++ num 1 (match p.lastDraining with
        | none => 0
        | some draining => if draining then 2 else 1)

/-- The bus part (R60). DESIGN CHOICE (log 50): the number of messages on the outbound list is the count of that list. -/
def BusAnswer.bytes (b : BusAnswer) : List Byte :=
  optNonzero 1 b.node ++ named b.busState.place ++ num 1 ((b.cause.map DuplicateCause.place).getD 0)
    ++ optional 1 b.silence ++ optional 1 b.clear ++ flagByte b.synced ++ num 2 b.period
    ++ listed (fun (n : SlotName) => named (slotPlace n)) b.outbound ++ listed Peer.bytes b.peers

/-- The kind of an own report by its place in R63. -/
def reportPlace : Option Report → Nat
  | none => 1
  | some (.accept _) => 2
  | some (.object _) => 3
  | some .quiet => 4
  | some (.settled _ _ _) => 5
  | some (.fail _) => 6
  | some .withdraw => 7

/-- The detail of an own report (R70), two bytes: the object reason, fail reason or level flag, and the hot mark; each 0
where the report has none (log 19). -/
def detailBytes : Option Report → List Byte
  | some (.object why) => named why.code ++ num 1 0
  | some (.settled flag hot _) => named flag.place ++ flagByte hot
  | some (.fail why) => named why.code ++ num 1 0
  | _ => num 2 0

/-- The value of an own report (R70), 0 where the table gives 0 or there is no report. -/
def reportValue : Option Report → Nat
  | some (.accept v) => v
  | some (.settled _ _ v) => v
  | _ => 0

/-- An own report with its detail and value (R70, R91): every field in every report, the value in 4 bytes. -/
def reportBytes (r : Option Report) : List Byte := named (reportPlace r) ++ detailBytes r ++ num 4 (reportValue r)

/-- A close record (R82); all 0 when absent. -/
def closeBytes : Option CloseRecord → List Byte
  | none => num 3 0
  | some c => named c.reason.place ++ optNonzero 1 c.node ++ num 1 ((c.objection.map ObjectReason.code).getD 0)

/-- A trim outcome (R75, R91); a presence byte first, since its code may be 0. -/
def trimBytes : Option TrimOutcome → List Byte
  | none => num 1 0 ++ num 1 0 ++ num 1 0 ++ num 4 0
  | some t => num 1 1 ++ num 1 t.code ++ named t.flag.place ++ num 4 t.achieved

/-- A context, in the order of R91. DESIGN CHOICE (log 49): the wait set and the driven set in the order their switches
joined. -/
def Context.bytes (c : Context) : List Byte :=
  tagBytes c.tag ++ named c.kind.place ++ num 2 c.make ++ optNonzero 2 c.brk ++ named c.role.place
    ++ named c.phase.place ++ reportBytes c.report
    ++ listed (fun (x : Standing) => named x.rank.place ++ optional 2 x.accept) c.standing
    ++ num 1 c.window ++ num 1 c.quietLeft ++ num 1 c.linger ++ listed (num 1) c.waitSet ++ listed (num 1) c.driven
    ++ flagByte c.hotMark ++ trimBytes c.trim ++ named c.withdrawal.place ++ flagByte c.passedCommit ++ closeBytes c.close

/-- A request as given: id, kind, routes, target, frequency (R143, R165). DESIGN CHOICE (log 54): its one or two routes go
out as a list. -/
def Job.bytes (j : Job) : List Byte :=
  num 2 j.id ++ named j.kind.place ++ listed (num 2) j.routes ++ optional 2 j.target ++ optNonzero 2 j.frequency

/-- A sponsor slot (R143): its state, and the rest when it is not FREE. DESIGN CHOICE (log 40): the rest of a FREE slot is
left out. -/
def SponsorSlot.bytes (slot : SponsorSlot) : List Byte :=
  named slot.state.place ++ (match slot.job with
    | none => []
    | some j => j.bytes ++ num 1 slot.attempts ++ optTag slot.tag ++ flagByte slot.sent ++ num 1 slot.backoff
        ++ named slot.cancel.place ++ closeBytes slot.lastClose)

/-- A detector record (R107). -/
def Detector.bytes (d : Detector) : List Byte :=
  signedBytes 2 d.threshold ++ num 1 d.hysteresis ++ flagByte d.hot ++ flagByte d.fresh
    ++ num 1 d.lastSample.isSome.toNat ++ signedBytes 2 (d.lastSample.getD 0)

/-- An inhibit line (R107). -/
def LineAnswer.bytes (l : LineAnswer) : List Byte :=
  num 1 l.users ++ flagByte l.asserted ++ listed tagBytes l.tags

/-- A guard entry (R107). -/
def GuardEntry.bytes (g : GuardEntry) : List Byte :=
  tagBytes g.tag ++ listed (num 1) g.lines ++ listed (num 1) g.detectors ++ flagByte g.hotTolerant ++ flagByte g.watch

/-- A ready line (R107): IDLE or PULSING, with the time remaining. -/
def ReadyAnswer.bytes (r : ReadyAnswer) : List Byte := flagByte r.timeLeft.isNone ++ optNonzero 1 r.timeLeft

/-- The cause of a plan fault, with section and position (R197). -/
def planFaultBytes : Option PlanFault → List Byte
  | none => num 1 0 ++ num 1 0 ++ optional 1 none
  | some f => named f.cause.place ++ num 1 ((f.at?.map (fun (p : PlanSection × Nat) => p.1.place)).getD 0)
      ++ optional 1 (f.at?.map Prod.snd)

/-- A last source: its kind in the order of section 10.3, then the item (R185); 0 when absent. DESIGN CHOICE (log 53): one
0 byte stands for an absent source, in place of the kind byte, and nothing after it. DESIGN CHOICE (log 42): a kind that is
a bare name has nothing after its kind byte. -/
def sourceBytes : Option EventSource → List Byte
  | none => num 1 0
  | some (.switch i) => num 1 1 ++ num 1 i
  | some .wearAreaLost => num 1 2
  | some (.route id) => num 1 3 ++ num 2 id
  | some (.node n) => num 1 4 ++ num 1 n
  | some (.cause c) => num 1 5 ++ named c.place

/-- An event (R185): state (lowered before raised, R181), repeat count, last source, line. -/
def EventStatus.bytes (e : EventStatus) : List Byte :=
  flagByte (!e.raised) ++ num 1 e.repeats ++ sourceBytes e.source ++ named e.line.place

/-- The answer to QUERY NODE, part by part in the order of R170. DESIGN CHOICE (log 32): the pulse width P, one figure for
all four ready lines (R105), goes out once, after the lines. DESIGN CHOICE (log 44): the peers, detectors, lines and events
go out as lists, the two sponsor slots do not. DESIGN CHOICE (log 50): the numbers of queued requests and of reservations are
the counts of their lists, and no fields apart. -/
def NodeAnswer.bytes (n : NodeAnswer) : List Byte :=
  n.bus.bytes
    ++ listed Context.bytes n.contexts ++ listed (fun (x : SlotName) => named (slotPlace x)) n.reservations
    ++ num 2 n.rejected ++ num 2 n.unplaced
    ++ n.slotA.bytes ++ n.slotB.bytes ++ num 1 n.seq ++ flagByte n.single
    ++ listed Detector.bytes n.detectors ++ listed LineAnswer.bytes n.lines ++ listed GuardEntry.bytes n.guards
    ++ listed ReadyAnswer.bytes n.ready ++ num 1 n.pulseWidth
    ++ num 2 n.stray
    ++ named n.load.place ++ planFaultBytes n.fault
    ++ num 1 (match n.wearValid with
        | none => 0
        | some valid => if valid then 1 else 2)
    ++ flagByte (!n.saving) ++ named n.lastSave.place
    ++ num 2 n.framingFaults ++ num 2 n.overruns ++ listed Job.bytes n.queue ++ flagByte n.hold ++ num 1 n.notices
    ++ listed EventStatus.bytes n.events

/-- The body of an ANSWER (R200). -/
def Answer.bytes : Answer → List Byte
  | .route r => r.bytes
  | .switch w => w.bytes
  | .node n => n.bytes

/-! ### The response -/

/-- The result code and what follows it (section 12.2). -/
def ResponseResult.bytes : ResponseResult → List Byte
  | .taken => num 1 1
  | .tooLate => num 1 2
  | .notFound => num 1 3
  | .notice n => num 1 4 ++ n.bytes
  | .empty => num 1 5
  | .answer a => num 1 6 ++ a.bytes
  | .noChange => num 1 7
  | .cleared => num 1 8
  | .stillFaulty => num 1 9
  | .notFaulty => num 1 10
  | .busy => num 1 11
  | .refused why => num 1 12 ++ num 1 why.code

/-- The bytes of a response frame, its start marker first (section 12.2). -/
def Response.frame (r : Response) : List Byte :=
  let body := num 2 r.id ++ num 1 r.kind ++ r.result.bytes
  let head := num 2 (body.length + 2) ++ body
  0xA5#8 :: (head ++ num 2 (crcBytes head).toNat)

end Sys2Proof.Machine
end

