-- ==== Sys2Proof/Machine/Port.lean ====
section
/-! DEFINITION. The Controller Port: frames offered and taken, the tests of a request, each kind of request, and RESTART
(chapter 9). -/

namespace Sys2Proof.Machine

/-! ### Changeover-bearing requests (R164, R165) -/

/-- The queue entry of a changeover-bearing request (R165). -/
def RequestBody.job? (id : Nat) : RequestBody → Option Job
  | .make r t f => some { id := id, kind := .make, route := r, second := none, target := t, frequency := f }
  | .breakRoute r => some { id := id, kind := .breakRoute, route := r, second := none, target := none, frequency := none }
  | .exchange b m t f => some { id := id, kind := .exchange, route := b, second := some m, target := t, frequency := f }
  | .retrim r t f => some { id := id, kind := .retrim, route := r, second := none, target := t, frequency := f }
  | _ => none

/-- Whether the make route's record names a trim node (R164 step 3). -/
def State.trimNamed (s : State) (j : Job) : Bool :=
  match s.route? j.makeRoute with
  | some r => r.plan.trimNode.isSome
  | none => false

/-- Step 3 of R164: a value out of range, or one the request may not carry. -/
def State.badValue (s : State) (j : Job) : Bool :=
  j.id == 0 || j.target.any (fun t => 25000 < t) || j.frequency.any (fun f => !within 400 44000 f)
    || (j.target.isSome && !s.trimNamed j) || j.second == some j.route

/-- The refusal of a failed route-state check (R131, R164 step 4). -/
def CheckFailure.refusal : CheckFailure → RefusalReason
  | .notHolder => .notHolder
  | .routeBusy => .routeBusy
  | .badValue => .badValue

/-- The tests of R164 in their order; none where the request may join the queue. -/
def State.jobRefusal (s : State) (j : Job) : Option RefusalReason :=
  if s.biu.busState ≠ .onBus then some .offBus
  else if j.routes.any (fun r => (s.route? r).isNone) then some .unknownRoute
  else if s.badValue j then some .badValue
  else
    match s.recheck j with
    | some why => some why.refusal
    | none => if Config.queueRoom ≤ s.ctp.queue.length then some .queueFull else none

/-- A request joins the queue at the young end (R165), an event of R130. -/
def State.joinQueue (s : State) (j : Job) : State :=
  ({ s with ctp := { s.ctp with queue := s.ctp.queue ++ [j] } }).sponsorEvent

/-- A changeover-bearing request taken (R164, R165). -/
def State.submit (s : State) (j : Job) : ResponseResult × State :=
  match s.jobRefusal j with
  | some why => (.refused why, s)
  | none => (.taken, s.joinQueue j)

/-! ### The other requests -/

/-- TAKE NOTICE (R168, R179). -/
def State.takeNotice (s : State) : ResponseResult × State :=
  match s.ctp.notices with
  | [] => (.empty, s)
  | n :: rest => (.notice n, { s with ctp := { s.ctp with notices := rest } })

/-- CANCEL (R138, R168). -/
def State.cancelTaken (s : State) (requestId : Nat) : ResponseResult × State :=
  match s.cancelRequest requestId with
  | (.taken, s) => (.taken, s)
  | (.tooLate, s) => (.tooLate, s)
  | (.notFound, s) => (.notFound, s)

/-- QUERY ROUTE (R40, R169). -/
def State.queryRoute (s : State) (route : Nat) : ResponseResult :=
  match s.route? route with
  | some r => .answer (.route r)
  | none => .refused .unknownRoute

/-- QUERY SWITCH (R23, R169). -/
def State.querySwitch (s : State) (index : Nat) : ResponseResult :=
  match s.switch? index with
  | some w => .answer (.switch w)
  | none => .refused .badValue

/-- The bus part of QUERY NODE (R60). -/
def Biu.answer (b : Biu) : BusAnswer :=
  { node := b.node, busState := b.busState,
    cause := if b.busState = .duplicate then b.cause else none,
    silence := if b.busState = .silent ∨ b.busState = .offBus then some b.silence else none,
    clear := if b.busState = .listen then some b.clear else none,
    synced := b.synced, period := b.period, outbound := b.outbound.map Outbound.slot, peers := b.peers }

/-- The inhibit lines as QUERY NODE shows them (R107). DESIGN CHOICE (log 31): a line's tags come in the order the guard
entries were opened. -/
def Rfg.lineAnswers (g : Rfg) : List LineAnswer :=
  g.lines.map (fun l =>
    { line := l.line, users := l.users, asserted := l.asserted,
      tags := (g.guards.filter (fun e => e.lines.contains l.line)).map GuardEntry.tag })

/-- The time remaining of a pulsing ready line: 1 to the time last set, a free value within it (R105; log 4). -/
def ReadyLine.shown (draw : Nat) (r : ReadyLine) : ReadyAnswer :=
  { line := r.line, timeLeft := if r.pulsing then some (1 + Config.readyElapsed r.line draw % r.timeLeft) else none }

/-- The state of every block as QUERY NODE gathers it (R170). -/
def State.nodeAnswer (s : State) : NodeAnswer :=
  { bus := s.biu.answer, contexts := s.cxe.contexts, reservations := s.cxe.reservations, rejected := s.cxe.rejected,
    unplaced := s.cxe.unplaced, slotA := s.spu.slotA, slotB := s.spu.slotB, seq := s.spu.seq, single := s.spu.single,
    detectors := s.rfg.detectors, lines := s.rfg.lineAnswers, guards := s.rfg.guards,
    ready := s.rfg.ready.map (ReadyLine.shown s.freeDraws), pulseWidth := s.rfg.pulseWidth, stray := s.rtb.stray,
    load := s.pld.load, fault := s.pld.fault, wearValid := s.pld.wearValid, saving := s.pld.save != .idle,
    lastSave := s.pld.lastSave, framingFaults := s.ctp.framingFaults, overruns := s.ctp.overruns, queue := s.ctp.queue,
    hold := s.ctp.hold, notices := s.ctp.notices.length, events := s.ctp.events }

/-- QUERY NODE (R170). The draw counter of the free values moves on (log 4); nothing else changes. -/
def State.queryNode (s : State) : ResponseResult × State :=
  (.answer (.node s.nodeAnswer), { s with freeDraws := s.freeDraws + 1 })

/-- CLEAR FAULT (R22, R171). -/
def State.clearFaultOf (s : State) (index : Nat) : ResponseResult × State :=
  match s.switch? index with
  | none => (.refused .badValue, s)
  | some w =>
    (match (w.clearFault s.sense).1 with
     | .cleared => .cleared
     | .stillFaulty => .stillFaulty
     | .notFaulty => .notFaulty,
     s.onSwitch index (fun v => (v.clearFault s.sense).2))

/-- The bit of an event in CLEAR EVENTS and its place in SET NOTIFY MAP (section 12.2). -/
def EventName.bit : EventName → Nat
  | .notice => 0
  | .hold => 1
  | .plan => 2
  | .switchFault => 3
  | .hotMove => 4
  | .worn => 5
  | .orphan => 6
  | .peer => 7
  | .busCheck => 8
  | .duplicate => 9

/-- Whether a CLEAR EVENTS set names an event. -/
def namesEvent (events : Word16) (e : EventName) : Bool := events.getLsbD e.bit

/-- CLEAR EVENTS (R171, R182). -/
def State.clearEventSet (s : State) (events : Word16) : ResponseResult × State :=
  if EventName.all.any (fun e => namesEvent events e && !e.isEdge) then (.refused .badValue, s)
  else
    (.taken, { s with ctp := { s.ctp with
      events := s.ctp.events.map (fun e => if namesEvent events e.name then e.lower else e) } })

/-- A line of the notify map by its code (section 12.2). -/
def NotifyLine.ofByte (b : Byte) : NotifyLine :=
  match b.toNat with
  | 1 => .line1
  | 2 => .line2
  | _ => .none

/-- SET NOTIFY MAP (R171, R183). -/
def State.setMap (s : State) (lines : List Byte) : State :=
  { s with ctp := { s.ctp with
      events := s.ctp.events.map (fun e => { e with line := NotifyLine.ofByte (lines.getD e.name.bit 0#8) }) } }

/-- SAVE WEAR (R172, R194). -/
def State.saveWearTaken (s : State) : ResponseResult × State :=
  match s.beginSave with
  | (true, s) => (.taken, s)
  | (false, s) => (.busy, s)

/-- The result of a bus request (R173). -/
def BusAnswerKind.result : BusAnswerKind → ResponseResult
  | .taken => .taken
  | .noChange => .noChange
  | .refused => .refused .duplicate

/-- LEAVE BUS (R53, R173). -/
def State.leaveTaken (s : State) : ResponseResult × State := (s.leave.1.result, s.leave.2)

/-- JOIN BUS (R54, R173). -/
def State.joinTaken (s : State) : ResponseResult × State := (s.join.1.result, s.join.2)

/-- The port's own state at RESTART (R174, R187): the notify map, the receive buffer and the counts are kept. -/
def Ctp.restart (c : Ctp) : Ctp :=
  { c with queue := [], notices := [], hold := false, events := c.events.map EventStatus.lower }

/-- A route record at RESTART (R42). -/
def Route.restart (r : Route) : Route := { r.clear with busy := none }

/-- RESTART at every block (R25, R42, R62, R93, R109, R127, R145, R174, R187). -/
def State.restarted (s : State) : State :=
  { s with
    biu := s.biu.restart
    cxe := { s.cxe with contexts := [], reservations := [] }
    sbc := s.sbc.map (Switch.restart s.sense)
    rfg := s.rfg.restart
    rtb := { s.rtb with routes := s.rtb.routes.map Route.restart }
    spu := { s.spu with slotA := .empty, slotB := .empty }
    ctp := s.ctp.restart
    agenda := [] }

/-! ### Taking a request -/

/-- Whether the bus state is LOADING or PLAN FAULT (R163 step 2). -/
def BusState.planless : BusState → Bool
  | .loading => true
  | .planFault => true
  | _ => false

/-- The tests of R163 in their order; none where the request passes. -/
def State.requestRefusal (s : State) (body : RequestBody) : Option RefusalReason :=
  match body with
  | .unknownKind _ => some .badRequest
  | _ =>
    if s.biu.busState.planless && body.kind != 9 then some .noPlan
    else if !body.formOk then some .badRequest
    else none

/-- A request that passed R163, taken by the rule of its kind (R164 to R174). -/
def State.carryOut (s : State) (id : Nat) (body : RequestBody) : ResponseResult × State :=
  match body with
  | .cancel requestId => s.cancelTaken requestId
  | .takeNotice => s.takeNotice
  | .queryRoute route => (s.queryRoute route, s)
  | .querySwitch index => (s.querySwitch index, s)
  | .queryNode => s.queryNode
  | .clearFault index => s.clearFaultOf index
  | .clearEvents events => s.clearEventSet events
  | .setNotifyMap lines => (.taken, s.setMap lines)
  | .saveWear => s.saveWearTaken
  | .leaveBus => s.leaveTaken
  | .joinBus => s.joinTaken
  | .restart => (.taken, s.restarted)
  | .wrongForm _ => (.refused .badRequest, s)
  | .unknownKind _ => (.refused .badRequest, s)
  | body =>
    match body.job? id with
    | some j => s.submit j
    | none => (.refused .badRequest, s)

/-- A request answered (R162, R163). -/
def State.answer (s : State) (r : Request) : ResponseResult × State :=
  match s.requestRefusal r.body with
  | some why => (.refused why, s)
  | none => s.carryOut r.id r.body

/-- The send wire takes a response (R161). -/
def State.respond (s : State) (r : Request) (result : ResponseResult) : State :=
  { s with ctp := { s.ctp with sending := some { id := r.id, kind := r.body.kind, result := result } } }

/-- A request taken whole: its response formed in the same event (R161). -/
def State.takeRequest (s : State) (r : Request) : State := (s.answer r).2.respond r (s.answer r).1

/-! ### Frames on the line -/

/-- A good frame offered to the port (R161): taken, held in the receive buffer, or an overrun. -/
def State.offer (s : State) (r : Request) : State :=
  match s.ctp.sending, s.ctp.rxBuffer with
  | none, _ => s.takeRequest r
  | some _, none => { s with ctp := { s.ctp with rxBuffer := some r } }
  | some _, some _ => { s with ctp := { s.ctp with overruns := satAdd Config.count16 s.ctp.overruns 1 } }

/-- A frame discarded with the framing fault count raised (R160). -/
def State.framingFault (s : State) : State :=
  { s with ctp := { s.ctp with framingFaults := satAdd Config.count16 s.ctp.framingFaults 1 } }

/-- A completed frame on the receive wire (R160). -/
def State.frameArrived (s : State) (bytes : List Byte) : State :=
  match Request.ofFrame bytes with
  | some r => s.offer r
  | none => s.framingFault

/-- The send wire becomes free (R161): a frame held in the receive buffer is taken. -/
def State.sendComplete (s : State) : State :=
  match s.ctp.sending with
  | none => s
  | some _ =>
    let free := { s with ctp := { s.ctp with sending := none, rxBuffer := none } }
    match s.ctp.rxBuffer with
    | some r => free.takeRequest r
    | none => free

/-! ### One command as one event -/

/-- The position-sense lines as presented with a command (log 8). -/
def State.sensed (s : State) (sense : SenseLevels) : State := { s with sense := sense }

/-- A command is one event at the node: the work a frame end still owes is done first (log 1), the command acts, and the
hold line, the level events and the notify lines are judged at its end (R167, R180, R184). -/
def State.event (s : State) (act : State → State) : Host.Outcome State Fault Refusal := .next (act s.caughtUp).complete

end Sys2Proof.Machine
end

