-- ==== Sys2Proof/Machine/BusCommands.lean ====
section
/-! DEFINITION. Meanings of the events of the Path Bus and of the instrument lines (chapters 3 and 5). -/

namespace Sys2Proof.Machine

/-- SYNC_RECOGNISED (R45). -/
def execSyncRecognised (s : State) : Host.Outcome State Fault Refusal :=
  s.event State.syncSeen

/-- FRAME_TIMER_EXPIRY (R44, R56). -/
def execFrameTimerExpiry (s : State) : Host.Outcome State Fault Refusal :=
  s.event State.frameTimerExpires

/-- SEARCH_SPAN_EXPIRY (R45). -/
def execSearchSpanExpiry (s : State) : Host.Outcome State Fault Refusal :=
  s.event State.searchSpanExpires

/-- OWN_SLOT_START (R46, R47, R87). -/
def execOwnSlotStart (s : State) : Host.Outcome State Fault Refusal :=
  s.event State.startOwnSlot

/-- SLOT_END (R48, R49, R55, R57, R59). -/
def execSlotEnd (line : Bits) (s : State) : Host.Outcome State Fault Refusal :=
  s.event (fun s => s.endSlot line)

/-- FRAME_END (R43): the counts of every block; the work they then owe stands in the agenda (log 1). -/
def execFrameEnd (sense : SenseLevels) (s : State) : Host.Outcome State Fault Refusal :=
  s.event (fun s => s.frameEnds sense)

/-- DETECTOR_SAMPLE (R95, R96, R100). -/
def execDetectorSample (input : Nat) (level : Int) (s : State) : Host.Outcome State Fault Refusal :=
  s.event (fun s => s.sampleTaken input level)

/-- READY_PULSE_EXPIRY (R105). -/
def execReadyPulseExpiry (line : Nat) (s : State) : Host.Outcome State Fault Refusal :=
  s.event (fun s => { s with rfg := s.rfg.pulseExpiry line })

end Sys2Proof.Machine
end

