-- ==== Sys2Proof/Machine/LoadCommands.lean ====
section
/-! DEFINITION. Meanings of the reset, load and save-write commands (chapter 11). -/

namespace Sys2Proof.Machine

/-- HARDWARE_RESET (R61, R196): every block in its reset state. Work a frame end still owed is lost with the blocks that owed it. -/
def execHardwareReset (reached : Nat) (s : State) : Host.Outcome State Fault Refusal :=
  .next (s.hardwareReset reached)

/-- RESET_RELEASE (R189): the load begins, the straps read at its first step. -/
def execResetRelease (straps : Nat) (plan : List Byte) (s : State) : Host.Outcome State Fault Refusal :=
  s.event (fun s => s.beginLoad straps plan)

/-- MEMORY_NO_ANSWER (R189, R192, R195): a load refused, a wear area LOST, or a save FAILED. -/
def execMemoryNoAnswer (access : MemoryAccess) (s : State) : Host.Outcome State Fault Refusal :=
  s.event (fun s => s.notAnswered access)

/-- PLAN_REFUSED (R190, R191): PLAN FAULT with the cause the plan as read gives. -/
def execPlanRefused (s : State) : Host.Outcome State Fault Refusal :=
  s.event State.rejectPlan

/-- PLAN_ACCEPTED (R192, R193): the wear area judged, the blocks filled, SILENT entered. -/
def execPlanAccepted (sense : SenseLevels) (s : State) : Host.Outcome State Fault Refusal :=
  s.event (fun s => s.acceptPlan sense)

/-- SAVE_WEAR_WRITE_ACCEPTED (R195): the save goes on, or ends COMPLETE after the closing write. -/
def execSaveWearWriteAccepted (s : State) : Host.Outcome State Fault Refusal :=
  s.event State.saveAccepted

/-- SAVE_WEAR_WRITE_FAILED (R195): the save ends FAILED, the area as far as the write reached. -/
def execSaveWearWriteFailed (reached : Nat) (s : State) : Host.Outcome State Fault Refusal :=
  s.event (fun s => s.saveFailed reached)

end Sys2Proof.Machine
end

