-- ==== Sys2Proof/Machine/PortCommands.lean ====
section
/-! DEFINITION. Meanings of the frames of the controller port and of its requests (chapters 9 and 10). A request row is a good frame
offered to the port (R161; log 11). -/

namespace Sys2Proof.Machine

/-- FRAME_RECEIVED (R160): a completed frame judged, and offered where it is good. -/
def execFrameReceived (bytes : List Byte) (sense : SenseLevels) (s : State) : Host.Outcome State Fault Refusal :=
  s.event (fun s => (s.sensed sense).frameArrived bytes)

/-- FRAME_GAP_TIMEOUT (R160): a short frame discarded. DESIGN CHOICE (log 35): State holds no part of a frame, so the row
itself says that one was arriving. -/
def execFrameGapTimeout (s : State) : Host.Outcome State Fault Refusal :=
  s.event State.framingFault

/-- RESPONSE_SEND_COMPLETE (R161): the send wire is free, and a held frame is taken. -/
def execResponseSendComplete (sense : SenseLevels) (s : State) : Host.Outcome State Fault Refusal :=
  s.event (fun s => (s.sensed sense).sendComplete)

/-- REQUEST_UNKNOWN_KIND (R163 step 1). -/
def execRequestUnknownKind (id kind : Nat) (s : State) : Host.Outcome State Fault Refusal :=
  s.event (fun s => s.offer { id := id, body := .unknownKind kind })

/-- MAKE (R164, R165). -/
def execMake (id route : Nat) (target frequency : Option Nat) (s : State) : Host.Outcome State Fault Refusal :=
  s.event (fun s => s.offer { id := id, body := .make route target frequency })

/-- BREAK (R164, R165). -/
def execBreak (id route : Nat) (s : State) : Host.Outcome State Fault Refusal :=
  s.event (fun s => s.offer { id := id, body := .breakRoute route })

/-- EXCHANGE (R164, R165). -/
def execExchange (id breakRoute makeRoute : Nat) (target frequency : Option Nat) (s : State) : Host.Outcome State Fault Refusal :=
  s.event (fun s => s.offer { id := id, body := .exchange breakRoute makeRoute target frequency })

/-- RETRIM (R164, R165). -/
def execRetrim (id route : Nat) (target frequency : Option Nat) (s : State) : Host.Outcome State Fault Refusal :=
  s.event (fun s => s.offer { id := id, body := .retrim route target frequency })

/-- CANCEL (R138, R139, R168). -/
def execCancel (id requestId : Nat) (s : State) : Host.Outcome State Fault Refusal :=
  s.event (fun s => s.offer { id := id, body := .cancel requestId })

/-- TAKE_NOTICE (R168, R179). -/
def execTakeNotice (id : Nat) (s : State) : Host.Outcome State Fault Refusal :=
  s.event (fun s => s.offer { id := id, body := .takeNotice })

/-- QUERY_NODE (R170). -/
def execQueryNode (id : Nat) (s : State) : Host.Outcome State Fault Refusal :=
  s.event (fun s => s.offer { id := id, body := .queryNode })

/-- QUERY_ROUTE (R40, R169). -/
def execQueryRoute (id route : Nat) (s : State) : Host.Outcome State Fault Refusal :=
  s.event (fun s => s.offer { id := id, body := .queryRoute route })

/-- QUERY_SWITCH (R23, R169). -/
def execQuerySwitch (id index : Nat) (s : State) : Host.Outcome State Fault Refusal :=
  s.event (fun s => s.offer { id := id, body := .querySwitch index })

/-- CLEAR_FAULT (R22, R171). -/
def execClearFault (id index : Nat) (sense : SenseLevels) (s : State) : Host.Outcome State Fault Refusal :=
  s.event (fun s => (s.sensed sense).offer { id := id, body := .clearFault index })

/-- CLEAR_EVENTS (R171, R182). -/
def execClearEvents (id : Nat) (events : Word16) (s : State) : Host.Outcome State Fault Refusal :=
  s.event (fun s => s.offer { id := id, body := .clearEvents events })

/-- SET_NOTIFY_MAP (R171, R183). -/
def execSetNotifyMap (id : Nat) (lines : List Byte) (s : State) : Host.Outcome State Fault Refusal :=
  s.event (fun s => s.offer { id := id, body := .setNotifyMap lines })

/-- SAVE_WEAR (R172, R194). -/
def execSaveWear (id : Nat) (s : State) : Host.Outcome State Fault Refusal :=
  s.event (fun s => s.offer { id := id, body := .saveWear })

/-- LEAVE_BUS (R53, R173). -/
def execLeaveBus (id : Nat) (s : State) : Host.Outcome State Fault Refusal :=
  s.event (fun s => s.offer { id := id, body := .leaveBus })

/-- JOIN_BUS (R54, R173). -/
def execJoinBus (id : Nat) (s : State) : Host.Outcome State Fault Refusal :=
  s.event (fun s => s.offer { id := id, body := .joinBus })

/-- RESTART (R174). -/
def execRestart (id : Nat) (sense : SenseLevels) (s : State) : Host.Outcome State Fault Refusal :=
  s.event (fun s => (s.sensed sense).offer { id := id, body := .restart })

end Sys2Proof.Machine
end

