-- ==== Sys2Proof/Machine/WorkCommands.lean ====
section
/-! DEFINITION. Meanings of the rows that do the work a frame end owes (log 1, 2). -/

namespace Sys2Proof.Machine

/-- SETTLE_END (R17 to R19): of a switch, or of the pair it moves with. -/
def execSettleEnd (index : Nat) (s : State) : Host.Outcome State Fault Refusal :=
  .next (s.workNow (.settle (s.settleUnit index)))

/-- ANSWER_WINDOW_EXPIRY (R74). -/
def execAnswerWindowExpiry (tag : Tag) (s : State) : Host.Outcome State Fault Refusal :=
  .next (s.workNow (.window tag))

/-- QUIET_TIMEOUT (R76). -/
def execQuietTimeout (tag : Tag) (s : State) : Host.Outcome State Fault Refusal :=
  .next (s.workNow (.quiet tag))

/-- LINGER_EXPIRY (R85). -/
def execLingerExpiry (tag : Tag) (s : State) : Host.Outcome State Fault Refusal :=
  .next (s.workNow (.linger tag))

/-- BACKOFF_EXPIRY (R137). -/
def execBackoffExpiry (slot : SlotName) (s : State) : Host.Outcome State Fault Refusal :=
  .next (s.workNow (.backoff slot))

/-- TAKE_UP (R130). -/
def execTakeUp (s : State) : Host.Outcome State Fault Refusal :=
  .next (s.workNow .takeUp)

/-- SILENCE_COUNT_COMPLETE (R51). -/
def execSilenceCountComplete (s : State) : Host.Outcome State Fault Refusal :=
  .next (s.workNow .silence)

/-- CLEAR_COUNT_COMPLETE (R52). -/
def execClearCountComplete (s : State) : Host.Outcome State Fault Refusal :=
  .next (s.workNow .clear)

/-- PEER_ABSENT (R58, R146, R147, R149). -/
def execPeerAbsent (s : State) : Host.Outcome State Fault Refusal :=
  .next (s.workNow .absence)

end Sys2Proof.Machine
end

