-- ==== Sys2Proof/Machine/Dispatch.lean ====
section
/-! DEFINITION. One arm for each command, each one call of its meaning. -/

namespace Sys2Proof.Machine

def exec (i : Instr) (s : State) : Host.Outcome State Fault Refusal :=
  match i with
  | .hardwareReset reached => Sys2Proof.Machine.execHardwareReset reached s
  | .resetRelease straps plan => Sys2Proof.Machine.execResetRelease straps plan s
  | .memoryNoAnswer access => Sys2Proof.Machine.execMemoryNoAnswer access s
  | .planRefused => Sys2Proof.Machine.execPlanRefused s
  | .planAccepted sense => Sys2Proof.Machine.execPlanAccepted sense s
  | .frameReceived bytes sense => Sys2Proof.Machine.execFrameReceived bytes sense s
  | .frameGapTimeout => Sys2Proof.Machine.execFrameGapTimeout s
  | .responseSendComplete sense => Sys2Proof.Machine.execResponseSendComplete sense s
  | .requestUnknownKind id kind => Sys2Proof.Machine.execRequestUnknownKind id kind s
  | .make id route target frequency => Sys2Proof.Machine.execMake id route target frequency s
  | .breakRoute id route => Sys2Proof.Machine.execBreak id route s
  | .exchange id brk mk target frequency => Sys2Proof.Machine.execExchange id brk mk target frequency s
  | .retrim id route target frequency => Sys2Proof.Machine.execRetrim id route target frequency s
  | .cancel id requestId => Sys2Proof.Machine.execCancel id requestId s
  | .takeNotice id => Sys2Proof.Machine.execTakeNotice id s
  | .queryNode id => Sys2Proof.Machine.execQueryNode id s
  | .queryRoute id route => Sys2Proof.Machine.execQueryRoute id route s
  | .querySwitch id index => Sys2Proof.Machine.execQuerySwitch id index s
  | .clearFault id index sense => Sys2Proof.Machine.execClearFault id index sense s
  | .clearEvents id events => Sys2Proof.Machine.execClearEvents id events s
  | .setNotifyMap id lines => Sys2Proof.Machine.execSetNotifyMap id lines s
  | .saveWear id => Sys2Proof.Machine.execSaveWear id s
  | .saveWearWriteAccepted => Sys2Proof.Machine.execSaveWearWriteAccepted s
  | .saveWearWriteFailed reached => Sys2Proof.Machine.execSaveWearWriteFailed reached s
  | .leaveBus id => Sys2Proof.Machine.execLeaveBus id s
  | .joinBus id => Sys2Proof.Machine.execJoinBus id s
  | .restart id sense => Sys2Proof.Machine.execRestart id sense s
  | .syncRecognised => Sys2Proof.Machine.execSyncRecognised s
  | .frameTimerExpiry => Sys2Proof.Machine.execFrameTimerExpiry s
  | .searchSpanExpiry => Sys2Proof.Machine.execSearchSpanExpiry s
  | .ownSlotStart => Sys2Proof.Machine.execOwnSlotStart s
  | .slotEnd line => Sys2Proof.Machine.execSlotEnd line s
  | .frameEnd sense => Sys2Proof.Machine.execFrameEnd sense s
  | .settleEnd index => Sys2Proof.Machine.execSettleEnd index s
  | .answerWindowExpiry tag => Sys2Proof.Machine.execAnswerWindowExpiry tag s
  | .quietTimeout tag => Sys2Proof.Machine.execQuietTimeout tag s
  | .lingerExpiry tag => Sys2Proof.Machine.execLingerExpiry tag s
  | .backoffExpiry slot => Sys2Proof.Machine.execBackoffExpiry slot s
  | .takeUp => Sys2Proof.Machine.execTakeUp s
  | .silenceCountComplete => Sys2Proof.Machine.execSilenceCountComplete s
  | .clearCountComplete => Sys2Proof.Machine.execClearCountComplete s
  | .peerAbsent => Sys2Proof.Machine.execPeerAbsent s
  | .detectorSample input level => Sys2Proof.Machine.execDetectorSample input level s
  | .readyPulseExpiry line => Sys2Proof.Machine.execReadyPulseExpiry line s

end Sys2Proof.Machine
end

