-- ==== Sys2Proof/Machine/Step.lean ====
section
/-! DEFINITION. One step of the node: the front command of the queue. -/

namespace Sys2Proof.Machine

/-- The state with a queue of waiting commands. -/
def State.queued (s : State) (pending : List Instr) : State := { s with pending := pending }

/-- One step: the command at the front of the queue, run with the queue's rest. On an empty queue the node idles (log 3). -/
def step (s : State) : Host.Outcome State Fault Refusal :=
  match s.pending with
  | [] => .next s
  | c :: rest => exec c (s.queued rest)

/-- The state with the command a table word spells put at the front of the queue; unchanged where it spells none. -/
def State.withFetchWord (s : State) (nbits w : Nat) : State :=
  match Sys2Proof.decodeTableWord nbits w with
  | some c => s.queued (c :: s.pending)
  | none => s

end Sys2Proof.Machine
end

