-- ==== Sys2Proof/Safety.lean ====
section
/-! DEFINITION. What a safe run keeps: the laws the manual states of the node's state, and the words in which the
statements speak of a command. -/

namespace Sys2Proof.Machine

/-! ### Laws of the state -/

/-- The guard law (R97, R99): no two guard entries hold one tag, each inhibit line's user count is the number of entries
that name it, and the line is asserted exactly while that count is above 0. -/
abbrev Rfg.lawful (g : Rfg) : Prop :=
  (g.guards.map GuardEntry.tag).Nodup ∧
    ∀ l ∈ g.lines, l.users = (g.guards.filter (fun e => e.lines.contains l.line)).length ∧ l.asserted = decide (0 < l.users)

/-- The table law (R63, R64): no two contexts hold one tag, and contexts and reservations fill at most six places. -/
abbrev Cxe.lawful (c : Cxe) : Prop :=
  (c.contexts.map Context.tag).Nodup ∧ c.contexts.length + c.reservations.length ≤ Config.tablePlaces

/-- The switch law (R1, R190): no two switch records have one index. -/
abbrev State.switchLawful (s : State) : Prop := (s.sbc.map (fun w => w.plan.index)).Nodup

/-- No two route records have one id (R26, R190). -/
abbrev State.routesLawful (s : State) : Prop := (s.rtb.routes.map (fun r => r.plan.id)).Nodup

/-- The tags of a claim entry: its holder's where it is pending, and its successor's (R4, R8). -/
def Claim.tags (c : Claim) : List Tag :=
  (match c.holder with
   | .pending tag => [tag]
   | .established _ => []) ++ (c.successor.map Successor.tag).toList

/-- The route of an established claim entry (R4). -/
def Claim.route? (c : Claim) : Option Nat :=
  match c.holder with
  | .pending _ => none
  | .established route => some route

/-- The claim law of one switch (R4): at most four entries; of two or more, all at one position, successors included; no tag
claims it twice, and no route. -/
abbrev Switch.claimsLawful (w : Switch) : Prop :=
  w.claims.length ≤ Config.claimsFull ∧
    (2 ≤ w.claims.length → ∀ c ∈ w.claims, ∀ d ∈ w.claims,
      c.position ≠ none ∧ d.position = c.position ∧ ∀ u ∈ d.successor, u.position = c.position) ∧
    (w.claims.flatMap Claim.tags).Nodup ∧ (w.claims.filterMap Claim.route?).Nodup

/-- The claim law of the bank (R4). -/
abbrev State.claimsLawful (s : State) : Prop := ∀ w ∈ s.sbc, w.claimsLawful

/-- Whether a context holds its inhibit lines (R99, R151): in COLD or MOVE, or closed FAILED with a driven switch still to
settle, and not SPONSOR ONLY. -/
def Context.holdsLines (c : Context) : Bool :=
  c.role != .sponsorOnly && (c.phase == .cold || c.phase == .move || (c.phase == .failed && !c.driven.isEmpty))

/-- The law of R99 across the CXE and the RFG: a guard entry stands exactly while a context with its tag holds its lines, and
nothing is driven before MOVE. -/
abbrev State.guardFollows (s : State) : Prop :=
  (∀ c ∈ s.cxe.contexts, c.phase = .answer ∨ c.phase = .cold → c.driven = []) ∧
    (∀ g ∈ s.rfg.guards, ∃ c ∈ s.cxe.contexts, c.tag = g.tag ∧ c.holdsLines = true) ∧
    ∀ c ∈ s.cxe.contexts, c.holdsLines = true → ∃ g ∈ s.rfg.guards, g.tag = c.tag

/-- What a tag's entry on a switch rests on (R4, R8, R9, R30): an open context of the tag, whose make route's record is this
node's to make and carries the tag as busy tag; at the trim node's attenuator no position before COLD; a successor on the
break route's entry, and only before MOVE; and no established claim of the make route beside it, but for a RETRIM before MOVE. -/
abbrev State.claimStands (s : State) (w : Switch) (c : Claim) (tag : Tag) (x : Context) : Prop :=
  x.tag = tag ∧ x.isOpen = true ∧
    (∃ r, s.route? x.make = some r ∧ r.busy = some tag ∧ s.me ∈ r.plan.participants ∧
      (x.phase = .answer → x.trimNode = some s.me → r.plan.trimAttenuator = some w.plan.index →
        (c.holder = .pending tag → c.position = none) ∧ ∀ u ∈ c.successor, u.tag = tag → u.position = none)) ∧
    (∀ u ∈ c.successor, u.tag = tag → x.phase ≠ .move ∧ ∃ b, x.brk = some b ∧ c.holder = .established b) ∧
    ((x.brk ≠ some x.make ∨ x.phase = .move) → ∀ d ∈ w.claims, d.holder ≠ .established x.make)

/-- What the plan checks leave of a route (R5, R26, R190): no switch twice in its covered set, and nothing of its own at a node
that is no participant. -/
abbrev State.coverLawful (s : State) : Prop :=
  ∀ r ∈ s.rtb.routes, (∀ trimHere, ((s.coveredSet r.plan.id trimHere).map Prod.fst).Nodup) ∧
    (s.me ∉ r.plan.participants → r.plan.settings = [] ∧ r.plan.trimAttenuator = none)

/-- The claim law across the SBC, the CXE and the RTB: the claim law of the bank, each entry of a tag resting on that tag's
context and route, each entry of a route on that route's record (R29), and no records in LOADING (R24, R41). -/
abbrev State.claimsFollow (s : State) : Prop :=
  s.claimsLawful ∧ s.coverLawful ∧ (s.biu.busState = .loading → s.sbc = [] ∧ s.rtb.routes = []) ∧
    (∀ w ∈ s.sbc, ∀ c ∈ w.claims, ∀ route, c.holder = .established route → (s.route? route).isSome = true) ∧
    ∀ w ∈ s.sbc, ∀ c ∈ w.claims, ∀ tag ∈ c.tags, ∃ x ∈ s.cxe.contexts, s.claimStands w c tag x

/-- One sponsor slot (R128, R136, R137): at most sixteen attempts, none in FREE, and fewer than sixteen behind a
backoff. -/
abbrev SponsorSlot.lawful (slot : SponsorSlot) : Prop :=
  slot.attempts ≤ Config.attemptsFull ∧ (slot.state = .free → slot.attempts = 0) ∧
    (slot.state = .backoff → slot.attempts < Config.attemptsFull)

/-- The load and the bus state agree (R50, R189): the PLD loads exactly while the node is in LOADING. -/
abbrev State.loadLawful (s : State) : Prop := s.pld.load = .loading ↔ s.biu.busState = .loading

/-- The sponsor law (R129): each slot is lawful, and slot B is FREE in single-sponsor mode and in LOADING. -/
abbrev State.sponsorLawful (s : State) : Prop :=
  s.loadLawful ∧ s.spu.slotA.lawful ∧ s.spu.slotB.lawful ∧ (s.spu.single = true → s.spu.slotB.state = .free) ∧
    (s.biu.busState = .loading → s.spu.slotB.state = .free)

/-- The half of the route law (R29) that an IDLE record asks: no switch carries an established claim of its route. -/
abbrev State.routeLawful (s : State) : Prop :=
  ∀ r ∈ s.rtb.routes, r.state = .idle → ∀ w ∈ s.sbc, ∀ c ∈ w.claims, c.holder ≠ .established r.plan.id

/-- The flags of the Controller Port agree with what they follow (R167, R180, R184). -/
abbrev State.flagsLawful (s : State) : Prop :=
  s.ctp.hold = holdAfter s.ctp.queue.length s.ctp.hold ∧
    (∀ e ∈ s.ctp.events, e.raised = levelRaised s.ctp.notices s.ctp.hold s.biu.busState e.name e.raised) ∧
    s.ctp.notify1 = notifyAsserted s.ctp.events .line1 ∧ s.ctp.notify2 = notifyAsserted s.ctp.events .line2

/-- Every queue is within its room and every saturating count within its bound (R20, R38, R51, R52, R57, R65, R160, R161,
R166, R178, R181). -/
abbrev State.countsLawful (s : State) : Prop :=
  s.ctp.queue.length ≤ Config.queueRoom ∧ s.ctp.notices.length ≤ Config.noticeRoom ∧
    s.ctp.framingFaults ≤ Config.count16 ∧ s.ctp.overruns ≤ Config.count16 ∧
    (∀ e ∈ s.ctp.events, e.repeats ≤ Config.count8) ∧ (∀ n ∈ s.ctp.notices, n.lost ≤ Config.count8) ∧
    s.rtb.stray ≤ Config.count16 ∧ s.cxe.rejected ≤ Config.count16 ∧ s.cxe.unplaced ≤ Config.count16 ∧
    s.biu.silence ≤ Config.silenceFull ∧ s.biu.clear ≤ Config.clearFull ∧
    (∀ p ∈ s.biu.peers, p.missed ≤ Config.missedFull ∧ p.checkFailures ≤ Config.count16) ∧
    (∀ w ∈ s.sbc, w.wear ≤ Config.wearFull)

/-! ### Words of the statements -/

/-- The request a request row offers to the port (R161): none for a row that is no request. -/
def requestOf? : Instr → Option Request
  | .requestUnknownKind id kind => some { id := id, body := .unknownKind kind }
  | .make id route target frequency => some { id := id, body := .make route target frequency }
  | .breakRoute id route => some { id := id, body := .breakRoute route }
  | .exchange id brk mk target frequency => some { id := id, body := .exchange brk mk target frequency }
  | .retrim id route target frequency => some { id := id, body := .retrim route target frequency }
  | .cancel id requestId => some { id := id, body := .cancel requestId }
  | .takeNotice id => some { id := id, body := .takeNotice }
  | .queryNode id => some { id := id, body := .queryNode }
  | .queryRoute id route => some { id := id, body := .queryRoute route }
  | .querySwitch id index => some { id := id, body := .querySwitch index }
  | .clearFault id index _ => some { id := id, body := .clearFault index }
  | .clearEvents id events => some { id := id, body := .clearEvents events }
  | .setNotifyMap id lines => some { id := id, body := .setNotifyMap lines }
  | .saveWear id => some { id := id, body := .saveWear }
  | .leaveBus id => some { id := id, body := .leaveBus }
  | .joinBus id => some { id := id, body := .joinBus }
  | .restart id _ => some { id := id, body := .restart }
  | _ => none

/-- The state in which a command acts: the work a frame end still owed done (log 1), and the position-sense levels as the
command presents them (log 8). -/
def State.before (s : State) : Instr → State
  | .clearFault _ _ sense => s.caughtUp.sensed sense
  | .restart _ sense => s.caughtUp.sensed sense
  | .frameReceived _ sense => s.caughtUp.sensed sense
  | .responseSendComplete sense => s.caughtUp.sensed sense
  | _ => s.caughtUp

/-- The state with a response formed (R161). -/
def State.answered (s : State) (r : Request) (result : ResponseResult) : State :=
  { s with ctp := { s.ctp with sending := some { id := r.id, kind := r.body.kind, result := result } } }

/-- What a changeover's work never touches: the calibration tables, the plan loader, the memory, and the model's own
fields. -/
abbrev State.keeps (s t : State) : Prop :=
  { t with biu := s.biu, cxe := s.cxe, sbc := s.sbc, rfg := s.rfg, rtb := s.rtb, spu := s.spu, ctp := s.ctp } = s

/-- The fifty-one writes of a save in their order (R195, R201). -/
def saveWrites : List SaveWrite := .openMark :: ((List.range Config.wearSlots).map SaveWrite.count ++ [.check, .closeMark])

/-- From the opening write of a save to its closing one the close mark stands open (R195). -/
abbrev State.markOpenWhileSaving (s : State) : Prop :=
  ∀ copy w, s.pld.save = .writing copy w → w ≠ .openMark → Memory.read s.mem Config.wearBase = some 0#8

/-- The memory after the first `n` writes of a save of a copy (R195). -/
def afterWrites (copy : List Nat) (n : Nat) (mem : List Host.Cell) : List Host.Cell :=
  (saveWrites.take n).foldl (fun mem w => w.whole copy mem) mem

/-- A notice that ends a request with a cancel and no close (R142, R177). -/
def cancelledNotice (j : Job) (attempts : Nat) : Notice :=
  { id := j.id, kind := .cancelled, route := j.route, second := j.second, result := .ok, node := none, objection := none,
    attempts := attempts, achieved := none, residual := none, short := false, long := false, hotMade := false,
    cancelTooLate := false, lost := 0 }

/-- A notice that ends a request FAILED (R131, R142), with no close. -/
def failedNotice (j : Job) (result : NoticeResult) (attempts : Nat) : Notice :=
  { cancelledNotice j attempts with kind := .failed, result := result }

/-- The state with a sponsor slot's cancel set (R138). -/
def State.withCancel (s : State) (name : SlotName) (x : CancelState) : State :=
  s.setSlot name { s.slot name with cancel := x }

/-- A close of a request that may be tried again, the cancel aside (R136 step 3). -/
abbrev State.mayRetry (s : State) (j : Job) (passedCommit : Bool) (r : CloseRecord) : Prop :=
  passedCommit = false ∧
    (r.reason = .noAnswer ∨ (r.reason = .objected ∧
      (r.objection = some .held ∨ r.objection = some .full ∨ r.objection = some .routeBusy))) ∧
    ∀ x ∈ j.routes, ∀ q ∈ s.route? x, q.plan.noRetry = false

/-- The claims of a switch before and after a route's claims are dropped (R12): no established claim of the route stays, one
with a successor becomes the successor's pending claim, and every other claim stays. -/
abbrev routeClaimsDropped (route : Nat) (before after : List Claim) : Prop :=
  let heir (u : Successor) : Claim := { holder := .pending u.tag, position := u.position, successor := none }
  (∀ c ∈ after, c.holder ≠ .established route) ∧
    (∀ c ∈ before, c.holder ≠ .established route → c ∈ after) ∧
    (∀ c ∈ before, c.holder = .established route → ∀ u ∈ c.successor, heir u ∈ after) ∧
    ∀ c ∈ after, c ∈ before ∨ ∃ d ∈ before, d.holder = .established route ∧ ∃ u ∈ d.successor, c = heir u

/-- The guard after the lines of a tag are released (R103): its entry gone and one user fewer on each of its lines; with no
entry, nothing changes. -/
abbrev Rfg.releasedFor (g t : Rfg) (tag : Tag) : Prop :=
  (g.entry? tag = none → t = g) ∧
    ∀ e ∈ g.entry? tag, t = { g with
      guards := g.guards.filter (fun x => x.tag != tag)
      lines := g.lines.map (fun l => if l.line ∈ e.lines then
        { l with users := l.users - 1, asserted := decide (1 < l.users) } else l) }

/-- The drive requests of a context made one after another (R78 step 2), with their answers. -/
def State.driveAll (tag : Tag) : List (Nat × Nat) → State → List (Nat × DriveAnswer) × State
  | [], s => ([], s)
  | q :: rest, s =>
    let (answer, s) := s.drive tag true q.1 q.2
    let (answers, s) := State.driveAll tag rest s
    ((q.1, answer) :: answers, s)

/-- The hand-off of a close to the SPU (R82, R136): it decides for the slot that is OPEN with the tag, on the state `t` with the
SPU, the port, the bus and the reservations still as in `s`; where no slot is OPEN with the tag, these stay. -/
abbrev State.handsOver (s t : State) (h : HandOff) : Prop :=
  let holds (name : SlotName) : Prop := (s.slot name).state = .opened ∧ (s.slot name).tag = some h.tag
  (∀ name j, holds name → (name = .b → ¬holds .a) → (s.slot name).job = some j →
    t = State.judgeClose { t with biu := s.biu, spu := s.spu, ctp := s.ctp,
                                  cxe := { t.cxe with reservations := s.cxe.reservations } } name (s.slot name) j h) ∧
    ((∀ name, ¬holds name) → t.spu = s.spu ∧ t.biu = s.biu ∧ t.ctp = s.ctp)

/-- The state with one piece of a frame end's work taken from the agenda (log 1). -/
def State.taking (s : State) (w : Work) : State := { s with agenda := s.agenda.erase w }

end Sys2Proof.Machine
end

