-- ==== Sys2Proof/Certificates/Slice0/Obligations.lean ====
section
/-! DEFINITION. The statements for the provers. In them `u` is the state in which a command acts: `s` with the work a frame
end still owed done first (log 1), and the sense levels the command presents (log 8). -/

open Sys2Proof Sys2Proof.Machine

/-! ### The step and the resets -/

/-- A step takes the command at the front of the queue and runs it with the queue's rest; an empty queue idles (log 3). -/
def Obligations.StepRunsFrontCommand : Prop :=
  (∀ (c : Instr) (rest : List Instr) (s : State), step (s.queued (c :: rest)) = exec c (s.queued rest)) ∧
    ∀ s : State, step (s.queued []) = .next (s.queued [])

/-- What hardware reset leaves in each block, as R61, R92, R108, R126, R144, R176, R186 and R197 give it, and that the laws
of the state hold there. -/
def Obligations.ResetLeavesEveryBlockCleared : Prop :=
  let s := State.reset
  (s.rfg.lawful ∧ s.cxe.lawful ∧ s.switchLawful ∧ s.routesLawful ∧ s.claimsFollow ∧ s.guardFollows ∧ s.sponsorLawful ∧
    s.routeLawful ∧ s.flagsLawful ∧ s.countsLawful ∧ Memory.wf s.mem = true) ∧
  s.biu.busState = .loading ∧ s.biu.timerRunning = false ∧ s.biu.outbound = [] ∧ s.biu.silence = 0 ∧ s.biu.clear = 0 ∧
    s.biu.cause = none ∧ s.biu.synced = false ∧ s.biu.drive = .nothing ∧
    (∀ p ∈ s.biu.peers, p.presence = .unheard ∧ p.missed = 0 ∧ p.checkFailures = 0 ∧ p.lastDraining = none) ∧
    s.cxe.contexts = [] ∧ s.cxe.reservations = [] ∧ s.cxe.rejected = 0 ∧ s.cxe.unplaced = 0 ∧
    s.sbc = [] ∧ s.rfg.detectors = [] ∧ s.rfg.guards = [] ∧ (∀ l ∈ s.rfg.lines, l.users = 0 ∧ l.asserted = false) ∧
    (∀ r ∈ s.rfg.ready, r.pulsing = false ∧ r.active = false) ∧ s.ltu = [] ∧ s.rtb.routes = [] ∧ s.rtb.stray = 0 ∧
    s.spu.slotA = .empty ∧ s.spu.slotB = .empty ∧ s.spu.seq = 0 ∧
    s.ctp.queue = [] ∧ s.ctp.hold = false ∧ s.ctp.rxBuffer = none ∧ s.ctp.sending = none ∧ s.ctp.framingFaults = 0 ∧
    s.ctp.overruns = 0 ∧ s.ctp.notices = [] ∧ s.ctp.events = EventStatus.defaults ∧ s.ctp.notify1 = false ∧
    s.ctp.notify2 = false ∧ s.pld.load = .loading ∧ s.pld.fault = none ∧ s.pld.wearValid = none ∧ s.pld.save = .idle ∧
    s.pld.lastSave = .none

/-- HARDWARE_RESET puts every block in its reset state. Of the memory it changes only the bytes of a save write it cuts off
that had reached the memory, and none of a closing write (log 9). A save cut off after its opening write leaves the wear area
LOST (R192, R196). -/
def Obligations.HardwareResetKeepsOnlyMemory : Prop :=
  ∀ (reached : Nat) (s : State), ∃ mem,
    exec (.hardwareReset reached) s
      = .next { State.reset with mem := mem, freeDraws := s.freeDraws, pending := s.pending } ∧
    (s.pld.save = .idle → mem = s.mem) ∧
    ∀ copy w, s.pld.save = .writing copy w →
      (w ≠ .openMark → Memory.read s.mem Config.wearBase = some 0#8 → readWear mem = none) ∧
      (w = .closeMark → mem = s.mem) ∧
      (w ≠ .closeMark → ∀ a,
        Memory.read mem a =
          if (w.target copy).1 ≤ a ∧ a < (w.target copy).1 + min reached (w.target copy).2.length then
            (w.target copy).2[a - (w.target copy).1]?
          else Memory.read s.mem a)

/-! ### Loading (chapter 11) -/

/-- RESET_RELEASE with the reset still held reads the straps (R189 step 1): 1 to 30 is the node number and the load goes
on; 0 or 31 refuses the plan with cause STRAP and leaves the node number as it was, which is the model's choice (log 36). The
plan area is as the tools left it (log 7). -/
def Obligations.ResetReleaseReadsStraps : Prop :=
  ∀ (straps : Nat) (plan : List Byte) (s u : State), u = s.before (.resetRelease straps plan) →
    u.pld.load = .loading → u.pld.begun = false → plan.length ≤ Config.wearBase → ∃ mem,
      (∀ i, i < Config.wearBase → Memory.read mem i = plan[i]?) ∧
      (∀ a, Config.wearBase ≤ a → Memory.read mem a = Memory.read u.mem a) ∧
      (1 ≤ straps ∧ straps ≤ 30 → exec (.resetRelease straps plan) s =
        .next ({ u with mem := mem, biu := { u.biu with node := some straps }, pld := { u.pld with begun := true } } : State).complete) ∧
      (straps = 0 ∨ straps = 31 → exec (.resetRelease straps plan) s =
        .next ({ u with mem := mem, biu := { u.biu with busState := .planFault },
                        pld := { u.pld with load := .fault, begun := false,
                                            fault := some { cause := .strap, at? := none } } } : State).complete)

/-- A load that ends without a plan. PLAN_REFUSED where the plan fails (R191, R180): PLAN FAULT with the cause the plan as read
gives, no block filled, and the PLAN event raised. MEMORY_NO_ANSWER (R189, R192, R195): a plan read refuses the plan with cause
MEMORY; a wear read finds the area LOST where the plan has passed; a save write ends the save FAILED, and after the opening write
the wear area is left LOST (R192). A plan read not answered outside a load, or after the wear area was found LOST, changes nothing
(log 2, the model's choice). -/
def Obligations.LoadRefusedOutcomes : Prop :=
  (∀ (s u : State) (fault : PlanFault), u = s.before .planRefused → u.pld.load = .loading → u.pld.begun = true →
    u.planRead = .error fault → ∃ t, exec .planRefused s = .next t ∧
      t = ({ u with biu := { u.biu with busState := .planFault },
                    pld := { u.pld with load := .fault, begun := false, fault := some fault } } : State).complete ∧
      ∀ e ∈ t.ctp.events, e.name = .plan → e.raised = true) ∧
  ∀ (access : MemoryAccess) (s u : State), u = s.before (.memoryNoAnswer access) →
    (access = .planRead → u.pld.load = .loading → u.pld.begun = true → u.pld.wearValid = none →
      exec (.memoryNoAnswer access) s =
        .next ({ u with biu := { u.biu with busState := .planFault },
                        pld := { u.pld with load := .fault, begun := false,
                                            fault := some { cause := .memory, at? := none } } } : State).complete) ∧
    (access = .planRead → (u.pld.load ≠ .loading ∨ u.pld.begun = false ∨ u.pld.wearValid ≠ none) →
      exec (.memoryNoAnswer access) s = .next u.complete) ∧
    (access = .wearRead → u.pld.load = .loading → u.pld.begun = true → u.pld.wearValid = none →
      ∀ p, u.planRead = .ok p → ∃ t, exec (.memoryNoAnswer access) s = .next t ∧
        t.pld = { u.pld with wearValid := some false } ∧ t.biu = u.biu ∧ t.sbc = u.sbc ∧ t.rtb = u.rtb ∧ t.mem = u.mem ∧
        t.cxe = u.cxe ∧ t.rfg = u.rfg ∧ t.spu = u.spu ∧ t.ltu = u.ltu ∧
        ∀ e ∈ t.ctp.events, e.name = .switchFault → e.raised = true ∧ e.source = some .wearAreaLost) ∧
    (∀ reached copy w, access = .saveWrite reached → u.pld.save = .writing copy w → ∃ mem,
      exec (.memoryNoAnswer access) s =
        .next ({ u with mem := mem, pld := { u.pld with save := .idle, lastSave := .failed } } : State).complete ∧
      (w ≠ .openMark → Memory.read u.mem Config.wearBase = some 0#8 → readWear mem = none) ∧
      ∀ a, ¬((w.target copy).1 ≤ a ∧ a < (w.target copy).1 + min reached (w.target copy).2.length) →
        Memory.read mem a = Memory.read u.mem a)

/-- PLAN_ACCEPTED at the end of a load whose plan passes fills the blocks and enters SILENT (R193, R24, R41, R50, R108,
R126). -/
def Obligations.PlanAcceptedFillsBlocks : Prop :=
  ∀ (sense : SenseLevels) (s u : State) (p : RawPlan), u = s.before (.planAccepted sense) → u.pld.load = .loading →
    u.pld.begun = true → u.planRead = .ok p → ∃ t, exec (.planAccepted sense) s = .next t ∧
      t.biu.busState = .silent ∧ t.biu.silence = 0 ∧ t.biu.timerRunning = true ∧ t.biu.synced = false ∧
      t.biu.period = p.period ∧ t.biu.node = u.biu.node ∧ t.biu.peers = u.biu.peers ∧ t.pld.load = .loaded ∧
      t.rtb.routes.map Route.plan = p.routes.map RawRoute.plan ∧
      (∀ r ∈ t.rtb.routes, r.state = .idle ∧ r.holder = none ∧ r.established = [] ∧ r.busy = none) ∧
      t.ltu.map (fun x => (x.index, x.points.map (fun q => (q.frequency, q.loss)))) = p.tables ∧
      t.rfg.detectors.map (fun d => (d.threshold, d.hysteresis)) = p.detectors ∧
      (∀ d ∈ t.rfg.detectors, d.hot = true ∧ d.fresh = true ∧ d.lastSample = none) ∧
      t.rfg.pulseWidth = p.pulse ∧ t.spu.single = (p.single == 1) ∧ t.spu.window = p.window ∧ t.cxe.quietTimeout = p.quiet ∧
      t.sbc.map Switch.plan = p.switches.map RawSwitch.plan ∧
      (∀ w ∈ t.sbc, w.state = .still ∧ w.claims = [] ∧ w.waiters = [] ∧ w.settleLeft = 0 ∧ w.faultReason = none ∧
        w.driveLines = none ∧ w.commanded = w.current ∧ w.current = (if w.plan.sensed then w.reading sense else none)) ∧
      t.cxe.contexts = u.cxe.contexts ∧ t.rfg.guards = u.rfg.guards ∧ t.rfg.lines = u.rfg.lines ∧ t.mem = u.mem ∧
      t.sense = sense ∧ t.agenda = u.agenda ∧ t.freeDraws = u.freeDraws ∧ t.pending = u.pending ∧
      t.ctp.queue = u.ctp.queue ∧ t.ctp.notices = u.ctp.notices ∧ t.ctp.sending = u.ctp.sending

/-- The wear area at PLAN_ACCEPTED (R192, R24): VALID gives each switch its saved count, and WORN fires once for each switch
whose count is at or above its life limit, in the order of the entries, which is the model's choice (log 25); LOST gives every
switch 0, no WORN, and SWITCH FAULT with last source WEAR AREA LOST. An area already found LOST by a read not answered stays
LOST, and SWITCH FAULT does not fire again. That the area is judged in this event is the model's choice (log 46). -/
def Obligations.WearAreaJudgedAtLoad : Prop :=
  ∀ (sense : SenseLevels) (s u : State) (p : RawPlan), u = s.before (.planAccepted sense) → u.pld.load = .loading →
    u.pld.begun = true → u.planRead = .ok p → ∃ t, exec (.planAccepted sense) s = .next t ∧
      let events (v : State) (name : EventName) : List EventStatus := v.ctp.events.filter (fun e => e.name == name)
      let unworn : Prop := (∀ w ∈ t.sbc, w.wear = 0 ∧ w.worn = false) ∧ events t .worn = events u .worn
      (u.pld.wearValid = none → ∀ counts, readWear u.mem = some counts → t.pld.wearValid = some true ∧
        events t .switchFault = events u .switchFault ∧
        (∀ w ∈ t.sbc, w.wear = counts.getD w.plan.index 0 ∧
          w.worn = (match w.plan.lifeLimit with | some n => decide (n ≤ w.wear) | none => false)) ∧
        ((∀ w ∈ t.sbc, w.worn = false) → events t .worn = events u .worn) ∧
        ∀ pre w, t.sbc.filter Switch.worn = pre ++ [w] → events t .worn = (events u .worn).map (fun e => { e with
          raised := true, source := some (.switch w.plan.index),
          repeats := min 255 ((if e.raised then e.repeats + 1 else 0) + pre.length) })) ∧
      (u.pld.wearValid = none → readWear u.mem = none → t.pld.wearValid = some false ∧ unworn ∧
        events t .switchFault = (events u .switchFault).map (fun e => { e with
          raised := true, source := some .wearAreaLost, repeats := if e.raised then min 255 (e.repeats + 1) else 0 })) ∧
      (u.pld.wearValid = some false → t.pld.wearValid = some false ∧ unworn ∧
        events t .switchFault = events u .switchFault)

/-! ### SAVE WEAR (chapter 11) -/

/-- SAVE_WEAR taken (R172, R194): in IDLE the 48 counts are copied, 0 for an index the plan does not fill, and the answer
is TAKEN; in WRITING it is BUSY and the save goes on. SAVE_WEAR_WRITE_ACCEPTED and SAVE_WEAR_WRITE_FAILED (R195): an accepted
write's bytes stand in the memory and no other byte changes; the save goes on to the next write, or ends COMPLETE after the
closing one. A failed write ends the save FAILED; bytes outside those it had brought to the memory stay, and after the opening
write the wear area is left LOST (R192). -/
def Obligations.SaveWearTakenAndWritten : Prop :=
  (∀ (id : Nat) (s u : State), u = s.before (.saveWear id) → u.ctp.sending = none → u.biu.busState.planless = false →
    (u.pld.save = .idle → ∃ copy : List Nat, copy.length = 48 ∧
      (∀ i, i < 48 → copy[i]? = some ((u.switch? i).elim 0 Switch.wear)) ∧
      exec (.saveWear id) s =
        .next (({ u with pld := { u.pld with save := .writing copy .openMark } } : State).answered
          { id := id, body := .saveWear } .taken).complete) ∧
    (u.pld.save ≠ .idle → exec (.saveWear id) s = .next (u.answered { id := id, body := .saveWear } .busy).complete)) ∧
  (∀ (s u : State) (copy : List Nat) (w : SaveWrite), u = s.before .saveWearWriteAccepted → u.pld.save = .writing copy w →
    ∃ mem,
      (∀ a, Memory.read mem a =
        if (w.target copy).1 ≤ a ∧ a < (w.target copy).1 + (w.target copy).2.length then
          (w.target copy).2[a - (w.target copy).1]?
        else Memory.read u.mem a) ∧
      (w ≠ .closeMark → ∃ v, w.next = some v ∧ exec .saveWearWriteAccepted s =
        .next ({ u with mem := mem, pld := { u.pld with save := .writing copy v } } : State).complete) ∧
      (w = .closeMark → exec .saveWearWriteAccepted s =
        .next ({ u with mem := mem, pld := { u.pld with save := .idle, lastSave := .complete } } : State).complete)) ∧
  ∀ (reached : Nat) (s u : State) (copy : List Nat) (w : SaveWrite), u = s.before (.saveWearWriteFailed reached) →
    u.pld.save = .writing copy w → ∃ mem,
      exec (.saveWearWriteFailed reached) s =
        .next ({ u with mem := mem, pld := { u.pld with save := .idle, lastSave := .failed } } : State).complete ∧
      (w ≠ .openMark → Memory.read u.mem Config.wearBase = some 0#8 → readWear mem = none) ∧
      ∀ a, ¬((w.target copy).1 ≤ a ∧ a < (w.target copy).1 + min reached (w.target copy).2.length) →
        Memory.read mem a = Memory.read u.mem a

/-- The writes of a save in their three stages (R195): the opening mark, the 48 counts in index order with the check, and the
closing mark. That each count is a write of its own, so that a save has fifty-one writes, is the model's choice (log 9). From the
first accepted write to the last but one the wear area reads LOST, and after the closing write it is VALID with the copied counts
(R192). A save cut off at any write after the first, whatever part of that write had reached the memory, leaves the area LOST
(R195, R196). Every step keeps the mark open from the opening write to the closing one. -/
def Obligations.WearAreaOpenUntilClosed : Prop :=
  (saveWrites[0]? = some .openMark ∧ (∀ i, (saveWrites[i]?).bind SaveWrite.next = saveWrites[i + 1]?) ∧
    (∀ i, i < 48 → saveWrites[i + 1]? = some (.count i)) ∧ saveWrites[49]? = some .check ∧
    saveWrites[50]? = some .closeMark ∧ saveWrites.length = 51) ∧
  (∀ (copy : List Nat) (mem : List Host.Cell), copy.length = 48 → (∀ n ∈ copy, n < 4294967296) →
    (∀ n, 1 ≤ n → n ≤ 50 → readWear (afterWrites copy n mem) = none ∧
      ∀ w reached, saveWrites[n]? = some w → readWear (w.partly copy reached (afterWrites copy n mem)) = none) ∧
    readWear (afterWrites copy 51 mem) = some copy) ∧
  ∀ s t : State, s.markOpenWhileSaving → step s = .next t → t.markOpenWhileSaving

/-! ### The controller port (chapter 9) -/

/-- The tests of R163 on every request row, at a port with no response waiting: an unknown kind is refused BAD REQUEST; else
a node in LOADING or PLAN FAULT refuses all but QUERY NODE with NO PLAN; else a wrong form is refused BAD REQUEST. A refused
request changes nothing but the response. What has the wrong form among the request rows (R200): CLEAR EVENTS with none of
bits 0 to 9 or any of bits 10 to 15, and a SET NOTIFY MAP byte above 2 or not ten bytes. -/
def Obligations.RequestTestsInOrder : Prop :=
  (∀ (c : Instr) (r : Request) (s u : State), requestOf? c = some r → u = s.before c → u.ctp.sending = none →
    (∀ k, r.body = .unknownKind k → exec c s = .next (u.answered r (.refused .badRequest)).complete) ∧
    ((∀ k, r.body ≠ .unknownKind k) →
      (u.biu.busState = .loading ∨ u.biu.busState = .planFault) → r.body ≠ .queryNode →
        exec c s = .next (u.answered r (.refused .noPlan)).complete) ∧
    ((∀ k, r.body ≠ .unknownKind k) →
      ¬((u.biu.busState = .loading ∨ u.biu.busState = .planFault) ∧ r.body ≠ .queryNode) → r.body.formOk = false →
        exec c s = .next (u.answered r (.refused .badRequest)).complete)) ∧
  ∀ (c : Instr) (r : Request), requestOf? c = some r → (∀ k, r.body ≠ .unknownKind k) →
    (r.body.formOk = false ↔
      (∃ e : Word16, r.body = .clearEvents e ∧ (e.toNat % 1024 = 0 ∨ 1024 ≤ e.toNat)) ∨
        ∃ lines, r.body = .setNotifyMap lines ∧ (lines.length ≠ 10 ∨ ∃ b ∈ lines, 2 < b.toNat))

/-- While a response is waiting or being sent, the receive buffer holds one good frame and a further one is an overrun (R161).
At RESPONSE_SEND_COMPLETE, with no frame held the wire is free; a held frame is taken as its own row takes it, and one of
wrong form, which no row spells, is refused NO PLAN or BAD REQUEST (R163). A RESPONSE_SEND_COMPLETE with nothing being sent
changes nothing, which is the model's choice (log 2). -/
def Obligations.PortHoldsOneFrame : Prop :=
  (∀ (c : Instr) (r : Request) (s u : State), requestOf? c = some r → u = s.before c → u.ctp.sending ≠ none →
    (u.ctp.rxBuffer = none →
      exec c s = .next ({ u with ctp := { u.ctp with rxBuffer := some r } } : State).complete) ∧
    (u.ctp.rxBuffer ≠ none →
      exec c s = .next ({ u with ctp := { u.ctp with overruns := min 65535 (u.ctp.overruns + 1) } } : State).complete)) ∧
  ∀ (sense : SenseLevels) (s u : State), u = s.before (.responseSendComplete sense) →
    (u.ctp.sending ≠ none → u.ctp.rxBuffer = none →
      exec (.responseSendComplete sense) s = .next ({ u with ctp := { u.ctp with sending := none } } : State).complete) ∧
    (u.ctp.sending ≠ none → ∀ (c : Instr) (r : Request) (v : State), requestOf? c = some r → u.ctp.rxBuffer = some r →
      v = { u with ctp := { u.ctp with sending := none, rxBuffer := none } } → v.before c = v →
        ∃ t, exec (.responseSendComplete sense) s = .next t ∧ exec c v = .next t) ∧
    (u.ctp.sending ≠ none → ∀ (r : Request) (k : Nat), u.ctp.rxBuffer = some r → r.body = .wrongForm k →
      let refused (why : RefusalReason) : Prop := exec (.responseSendComplete sense) s =
        .next (({ u with ctp := { u.ctp with rxBuffer := none } } : State).answered r (.refused why)).complete
      let planless : Prop := u.biu.busState = .loading ∨ u.biu.busState = .planFault
      (planless → k ≠ 9 → refused .noPlan) ∧ (¬planless ∨ k = 9 → refused .badRequest)) ∧
    (u.ctp.sending = none → exec (.responseSendComplete sense) s = .next u.complete)

/-- FRAME_RECEIVED (R160, R161, section 12.2): the frame of a request does what the request's own row does. A frame whose
length and check agree is good whatever its kind and body: a kind other than 1 to 16 is refused BAD REQUEST, and a body that
no request of its kind spells is of wrong form, refused NO PLAN or BAD REQUEST as R163 gives; a good frame of either sort is
held or an overrun while a response is out. A frame that is short, whose length is outside 5 to 15, or whose check disagrees
is a framing fault: the count rises by 1, at most to 65,535, and nothing else changes. FRAME_GAP_TIMEOUT counts one too, for
the row itself says that a frame was arriving (log 35). -/
def Obligations.FrameReceivedJudged : Prop :=
  (∀ (c : Instr) (r : Request) (sense : SenseLevels) (s u : State), requestOf? c = some r → r.id < 65536 →
    r.body.fits = true → u = s.before (.frameReceived r.frame sense) → u.before c = u →
      ∃ t, exec (.frameReceived r.frame sense) s = .next t ∧ exec c u = .next t) ∧
  (∀ (id kind : Nat) (body : List Byte), id < 65536 → kind < 256 → body.length ≤ 10 →
    let head := bytesOf 2 (5 + body.length) ++ bytesOf 2 id ++ bytesOf 1 kind ++ body
    ∃ what : RequestBody, Request.ofFrame (head ++ bytesOf 2 (crcBytes head).toNat) = some { id := id, body := what } ∧
      (kind = 0 ∨ 16 < kind → what = .unknownKind kind) ∧
      (1 ≤ kind ∧ kind ≤ 16 → ∀ b : RequestBody, b.fits = true → b.kind = kind → b.bytes = body → what = b) ∧
      (1 ≤ kind ∧ kind ≤ 16 → (∀ b : RequestBody, b.fits = true → b.kind = kind → b.bytes ≠ body) →
        what = .wrongForm kind)) ∧
  (∀ (bytes : List Byte) (r : Request) (sense : SenseLevels) (s u : State), Request.ofFrame bytes = some r →
    u = s.before (.frameReceived bytes sense) →
    let planless : Prop := u.biu.busState = .loading ∨ u.biu.busState = .planFault
    let answer (why : RefusalReason) : Prop :=
      exec (.frameReceived bytes sense) s = .next (u.answered r (.refused why)).complete
    (∀ k, r.body = .unknownKind k → u.ctp.sending = none → answer .badRequest) ∧
    (∀ k, r.body = .wrongForm k → u.ctp.sending = none → planless → k ≠ 9 → answer .noPlan) ∧
    (∀ k, r.body = .wrongForm k → u.ctp.sending = none → ¬planless ∨ k = 9 → answer .badRequest) ∧
    (u.ctp.sending ≠ none → u.ctp.rxBuffer = none → exec (.frameReceived bytes sense) s =
      .next ({ u with ctp := { u.ctp with rxBuffer := some r } } : State).complete) ∧
    (u.ctp.sending ≠ none → u.ctp.rxBuffer ≠ none → exec (.frameReceived bytes sense) s =
      .next ({ u with ctp := { u.ctp with overruns := min 65535 (u.ctp.overruns + 1) } } : State).complete)) ∧
  (∀ (bytes : List Byte) (sense : SenseLevels) (s u : State), Request.ofFrame bytes = none →
    u = s.before (.frameReceived bytes sense) → exec (.frameReceived bytes sense) s =
      .next ({ u with ctp := { u.ctp with framingFaults := min 65535 (u.ctp.framingFaults + 1) } } : State).complete) ∧
  (∀ (hi lo : Byte) (rest : List Byte), (rest.length ≠ hi.toNat * 256 + lo.toNat ∨ rest.length < 5 ∨ 15 < rest.length ∨
    bytesValue (rest.drop (rest.length - 2)) ≠ (crcBytes (hi :: lo :: rest.take (rest.length - 2))).toNat) →
      Request.ofFrame (hi :: lo :: rest) = none) ∧
  ∀ (s u : State), u = s.before .frameGapTimeout → exec .frameGapTimeout s =
    .next ({ u with ctp := { u.ctp with framingFaults := min 65535 (u.ctp.framingFaults + 1) } } : State).complete

/-- The tests of R164 on MAKE, BREAK, EXCHANGE and RETRIM, the first that fails giving the refusal, the last before the queue's
room being the checks of R131 by kind: BREAK and RETRIM of a route not held NOT HOLDER (an ORPHANED one may be broken), EXCHANGE
of a break route not held NOT HOLDER and of a make route not IDLE ROUTE BUSY, MAKE of a route not IDLE ROUTE BUSY. -/
def Obligations.ChangeoverRequestTests : Prop :=
  (∀ (c : Instr) (r : Request) (j : Job) (s u : State), requestOf? c = some r → r.body.job? r.id = some j →
    u = s.before c → u.ctp.sending = none → u.biu.busState.planless = false →
    let known := ∀ x ∈ j.routes, (u.route? x).isSome = true
    let valueOk := j.id ≠ 0 ∧ (∀ x ∈ j.target, x ≤ 25000) ∧ (∀ x ∈ j.frequency, 400 ≤ x ∧ x ≤ 44000) ∧
      (j.target ≠ none → ∃ x, u.route? j.makeRoute = some x ∧ x.plan.trimNode ≠ none) ∧ j.second ≠ some j.route
    (u.biu.busState ≠ .onBus → exec c s = .next (u.answered r (.refused .offBus)).complete) ∧
    (u.biu.busState = .onBus → ¬known → exec c s = .next (u.answered r (.refused .unknownRoute)).complete) ∧
    (u.biu.busState = .onBus → known → ¬valueOk → exec c s = .next (u.answered r (.refused .badValue)).complete) ∧
    (u.biu.busState = .onBus → known → valueOk → ∀ why, u.recheck j = some why →
      exec c s = .next (u.answered r (.refused why.refusal)).complete) ∧
    (u.biu.busState = .onBus → known → valueOk → u.recheck j = none → 16 ≤ u.ctp.queue.length →
      exec c s = .next (u.answered r (.refused .queueFull)).complete)) ∧
  ∀ (s : State) (j : Job) (r : Route), s.route? j.route = some r →
    let held := r.state = .established ∧ r.holder = some s.me
    (j.kind = .breakRoute → s.recheck j = if held ∨ r.state = .orphaned then none else some .notHolder) ∧
    (j.kind = .retrim → s.recheck j = if held then none else some .notHolder) ∧
    (j.kind = .make → s.recheck j = if r.state = .idle then none else some .routeBusy) ∧
    (j.kind = .exchange → ∀ m mk, j.second = some mk → s.route? mk = some m →
      (¬held → s.recheck j = some .notHolder) ∧ (held → m.state ≠ .idle → s.recheck j = some .routeBusy) ∧
        (held → m.state = .idle →
          s.recheck j =
            if 8 < (m.plan.participants ++ r.established.filter (fun n => n ∉ m.plan.participants)).length then
              some .badValue else none))

/-- A changeover-bearing request that passes every test joins the queue at the young end with TAKEN (R164, R165). Where no slot
can take a request up, it waits there. Where a FREE slot is open to one and no request before it may be taken up, it is taken up in
the same event (R130, R131, R132, R134): a PROPOSE is placed under a reservation and a sequence number not held, or a RELEASE, with
force where the route is ORPHANED; where a route of it is busy or in the other slot's request, or there is no free place, it waits. -/
def Obligations.PassedRequestJoinsQueue : Prop :=
  ∀ (c : Instr) (r : Request) (j : Job) (s u : State), requestOf? c = some r → r.body.job? r.id = some j →
    u = s.before c → u.ctp.sending = none → u.biu.busState = .onBus → (∀ x ∈ j.routes, (u.route? x).isSome = true) →
    j.id ≠ 0 → (∀ x ∈ j.target, x ≤ 25000) → (∀ x ∈ j.frequency, 400 ≤ x ∧ x ≤ 44000) →
    (j.target ≠ none → ∃ x, u.route? j.makeRoute = some x ∧ x.plan.trimNode ≠ none) → j.second ≠ some j.route →
    u.recheck j = none → u.ctp.queue.length < 16 →
    let occupied (slot : SponsorSlot) : Prop := slot.state = .sending ∨ slot.state = .opened
    let taken (v : State) : Prop := exec c s = .next (v.answered r .taken).complete
    let queued : State := { u with ctp := { u.ctp with queue := u.ctp.queue ++ [j] } }
    (occupied u.spu.slotA → (occupied u.spu.slotB ∨ (u.spu.slotB.state = .free ∧ u.spu.single = true)) → taken queued) ∧
    ∀ name, u.slot name = .empty →
      (name = .a → occupied u.spu.slotB ∨ u.spu.slotB = .empty) → (name = .b → occupied u.spu.slotA ∧ u.spu.single = false) →
      let may (p : Job) : Prop := (∀ x ∈ p.routes, ∀ y, u.route? x = some y → y.busy = none) ∧
        ∀ k ∈ (u.slot (otherSlot name)).job, ∀ x ∈ p.routes, x ∉ k.routes
      let full : Prop := 6 ≤ u.cxe.contexts.length + u.cxe.reservations.length
      (∀ p ∈ u.ctp.queue, ¬may p) →
        (¬may j → taken queued) ∧
        (may j → j.kind ≠ .breakRoute → full → taken queued) ∧
        (may j → j.kind = .breakRoute → taken (({ u with biu := { u.biu with outbound := u.biu.outbound ++
          [{ slot := name, message := .release j.route (u.routeIs j.route .orphaned) }] } } : State).setSlot name
            { SponsorSlot.empty with state := .sending, job := some j, attempts := 1 })) ∧
        (may j → j.kind ≠ .breakRoute → ¬full → ∃ seq,
          (∀ x ∈ u.cxe.contexts, x.tag ≠ { sponsor := u.me, seq := seq }) ∧
          ((∀ x ∈ u.cxe.contexts, x.tag ≠ { sponsor := u.me, seq := (u.spu.seq + 1) % 256 }) → seq = (u.spu.seq + 1) % 256) ∧
          taken (({ u with
            cxe := { u.cxe with reservations := u.cxe.reservations ++ [name] }
            biu := { u.biu with outbound := u.biu.outbound ++ [{ slot := name, message := .propose (u.buildPropose j seq) }] }
            spu := { u.spu with seq := seq } } : State).setSlot name { SponsorSlot.empty with
              state := .sending, job := some j, attempts := 1, tag := some { sponsor := u.me, seq := seq } }))

/-! ### The other requests -/

/-- TAKE_NOTICE removes and returns the oldest notice, or answers EMPTY (R168, R179). QUERY ROUTE and QUERY SWITCH answer the
record as it stands, or are refused UNKNOWN ROUTE and BAD VALUE; a query changes nothing (R40, R23, R169). -/
def Obligations.TakeNoticeAndQueriesAnswer : Prop :=
  (∀ (id : Nat) (s u : State), u = s.before (.takeNotice id) → u.ctp.sending = none → u.biu.busState.planless = false →
    (∀ n rest, u.ctp.notices = n :: rest → exec (.takeNotice id) s =
      .next (({ u with ctp := { u.ctp with notices := rest } } : State).answered
        { id := id, body := .takeNotice } (.notice n)).complete) ∧
    (u.ctp.notices = [] → exec (.takeNotice id) s =
      .next (u.answered { id := id, body := .takeNotice } .empty).complete)) ∧
  ∀ (id x : Nat) (s u : State), u = s.caughtUp → u.ctp.sending = none → u.biu.busState.planless = false →
    (∀ r, u.route? x = some r → exec (.queryRoute id x) s =
      .next (u.answered { id := id, body := .queryRoute x } (.answer (.route r))).complete) ∧
    (u.route? x = none → exec (.queryRoute id x) s =
      .next (u.answered { id := id, body := .queryRoute x } (.refused .unknownRoute)).complete) ∧
    (∀ w, u.switch? x = some w → exec (.querySwitch id x) s =
      .next (u.answered { id := id, body := .querySwitch x } (.answer (.switch w))).complete) ∧
    (u.switch? x = none → exec (.querySwitch id x) s =
      .next (u.answered { id := id, body := .querySwitch x } (.refused .badValue)).complete)

/-- CANCEL (R138, R139, R86, R47, R64). Of an id no sponsor slot holds: the oldest queue entry with the id leaves the queue with a
CANCELLED notice of attempts 0, or nothing is found. Of the request in a slot, slot A where both hold the id (log 33): a cancel
set before answers as it stands; a request in BACKOFF, or whose message is still on the outbound list, ends CANCELLED with its
attempts, its message withdrawn and its reservation ended; a sent PROPOSE waits; a sent RELEASE is TOO LATE; an open context in
ANSWER or COLD is withdrawn, its own report OBJECT, FAIL or SETTLED staying as it is (log 28), and the cancel TAKEN; one in MOVE
is TOO LATE; a closed one is TAKEN where the close may be tried again, else TOO LATE. Where a slot becomes FREE here, nothing
else waits for a slot or for a retry, and the end of DRAINING is tested (R53). -/
def Obligations.CancelByWhereItStands : Prop :=
  (∀ (id target : Nat) (s u : State), u = s.before (.cancel id target) → u.ctp.sending = none →
    u.biu.busState.planless = false → (∀ j ∈ u.spu.slotA.job, j.id ≠ target) → (∀ j ∈ u.spu.slotB.job, j.id ≠ target) →
    (∀ pre q post, u.ctp.queue = pre ++ q :: post → q.id = target → (∀ p ∈ pre, p.id ≠ target) →
      exec (.cancel id target) s =
        .next (({ u with ctp := { u.ctp with
            queue := pre ++ post, notices := joinNotice u.ctp.notices (cancelledNotice q 0) } } : State).answered
          { id := id, body := .cancel target } .taken).complete) ∧
    ((∀ q ∈ u.ctp.queue, q.id ≠ target) →
      exec (.cancel id target) s = .next (u.answered { id := id, body := .cancel target } .notFound).complete)) ∧
  ∀ (id : Nat) (name : SlotName) (s u : State) (j : Job), u = s.before (.cancel id j.id) → u.ctp.sending = none →
    u.biu.busState.planless = false → (u.slot name).job = some j → (name = .b → ∀ k ∈ u.spu.slotA.job, k.id ≠ j.id) →
    let gives (v : State) (result : ResponseResult) : Prop :=
      exec (.cancel id j.id) s = .next (v.answered { id := id, body := .cancel j.id } result).complete
    let ended (v : State) : State := (({ v with ctp := { v.ctp with
      notices := joinNotice v.ctp.notices (cancelledNotice j (u.slot name).attempts) } } : State).setSlot name .empty).drainTest
    ((u.slot name).cancel = .waiting ∨ (u.slot name).cancel = .taken → gives u .taken) ∧
    ((u.slot name).cancel = .late → gives u .tooLate) ∧
    ((u.slot name).cancel = .none →
      (u.ctp.queue = [] → (u.slot (otherSlot name)).state ≠ .backoff →
        ((u.slot name).state = .backoff → gives (ended u) .taken) ∧
        ((u.slot name).state = .sending → (∃ o ∈ u.biu.outbound, o.slot = name) →
          gives (ended { u with
            biu := { u.biu with outbound := u.biu.outbound.filter (fun o => o.slot != name) }
            cxe := { u.cxe with reservations := u.cxe.reservations.filter (fun n => n != name) } }) .taken)) ∧
      ((u.slot name).state = .sending → (∀ o ∈ u.biu.outbound, o.slot ≠ name) →
        ((u.slot name).tag ≠ none → gives (u.withCancel name .waiting) .taken) ∧
        ((u.slot name).tag = none → gives u .tooLate)) ∧
      ∀ tag c, (u.slot name).state = .opened → (u.slot name).tag = some tag → u.context? tag = some c →
        (c.phase = .move → gives u .tooLate) ∧
        (c.phase = .answer ∨ c.phase = .cold → c.withdrawal = .none →
          gives (({ u with cxe := { u.cxe with contexts := u.cxe.contexts.map (fun x => if x.tag = tag then { x with
            withdrawal := .pending, kept := x.report,
            report := (match x.report with
              | none => some .withdraw
              | some (.accept _) => some .withdraw
              | some .quiet => some .withdraw
              | some r => some r) } else x) } } : State).withCancel name .taken) .taken) ∧
        (c.phase = .answer ∨ c.phase = .cold → c.withdrawal ≠ .none → gives (u.withCancel name .taken) .taken) ∧
        ∀ r, c.phase = .done ∨ c.phase = .failed → c.close = some r →
          (u.mayRetry j c.passedCommit r → gives (u.withCancel name .taken) .taken) ∧
          (¬u.mayRetry j c.passedCommit r → gives u .tooLate))

/-- QUERY NODE is answered in every bus state with what each block holds (R170, R60, R91, R107, R143, R185, R197). The time
remaining of a pulsing line is a free value within the time last set (log 4), whose draw is the one thing that changes. That
the tags of an inhibit line stand in the order of the guard entries is the model's choice (log 31), as is that reservations
and contexts stand in the order granted and opened (log 49). -/
def Obligations.QueryNodeGathersBlocks : Prop :=
  ∀ (id : Nat) (s u : State), u = s.before (.queryNode id) → u.ctp.sending = none → ∃ n : NodeAnswer,
    exec (.queryNode id) s = .next (({ u with freeDraws := u.freeDraws + 1 } : State).answered
      { id := id, body := .queryNode } (.answer (.node n))).complete ∧
    n.bus.node = u.biu.node ∧ n.bus.busState = u.biu.busState ∧
    (u.biu.busState = .duplicate → n.bus.cause = u.biu.cause) ∧
    (u.biu.busState = .silent ∨ u.biu.busState = .offBus → n.bus.silence = some u.biu.silence) ∧
    (u.biu.busState = .listen → n.bus.clear = some u.biu.clear) ∧
    n.bus.synced = u.biu.synced ∧ n.bus.period = u.biu.period ∧ n.bus.outbound = u.biu.outbound.map Outbound.slot ∧
    n.bus.peers = u.biu.peers ∧ n.contexts = u.cxe.contexts ∧ n.reservations = u.cxe.reservations ∧
    n.rejected = u.cxe.rejected ∧ n.unplaced = u.cxe.unplaced ∧ n.slotA = u.spu.slotA ∧ n.slotB = u.spu.slotB ∧
    n.seq = u.spu.seq ∧ n.single = u.spu.single ∧ n.detectors = u.rfg.detectors ∧ n.guards = u.rfg.guards ∧
    n.lines.map (fun l => (l.line, l.users, l.asserted)) = u.rfg.lines.map (fun l => (l.line, l.users, l.asserted)) ∧
    (∀ l ∈ n.lines, l.tags = (u.rfg.guards.filter (fun e => e.lines.contains l.line)).map GuardEntry.tag) ∧
    n.ready.map (fun r => (r.line, r.timeLeft.isSome)) = u.rfg.ready.map (fun r => (r.line, r.pulsing)) ∧
    ((∀ r ∈ u.rfg.ready, r.pulsing = true → r.timeLeft = u.rfg.pulseWidth) → 0 < u.rfg.pulseWidth →
      ∀ r ∈ n.ready, ∀ x, r.timeLeft = some x → 1 ≤ x ∧ x ≤ u.rfg.pulseWidth) ∧
    n.pulseWidth = u.rfg.pulseWidth ∧ n.stray = u.rtb.stray ∧ n.load = u.pld.load ∧ n.fault = u.pld.fault ∧
    n.wearValid = u.pld.wearValid ∧ (n.saving = true ↔ u.pld.save ≠ .idle) ∧ n.lastSave = u.pld.lastSave ∧
    n.framingFaults = u.ctp.framingFaults ∧ n.overruns = u.ctp.overruns ∧ n.queue = u.ctp.queue ∧ n.hold = u.ctp.hold ∧
    n.notices = u.ctp.notices.length ∧ n.events = u.ctp.events

/-- CLEAR FAULT (R22): a switch not in FAULT is NOT FAULTY; a valid reading equal to the commanded position makes it STILL
there; any other reading becomes the current position, and the switch stays in FAULT. No claim, waiter or wear changes. -/
def Obligations.ClearFaultReadsSense : Prop :=
  ∀ (id index : Nat) (sense : SenseLevels) (s u : State), u = s.before (.clearFault id index sense) →
    u.ctp.sending = none → u.biu.busState.planless = false →
    let answer : Request := { id := id, body := .clearFault index }
    (u.switch? index = none → exec (.clearFault id index sense) s = .next (u.answered answer (.refused .badValue)).complete) ∧
    ∀ w, u.switch? index = some w → u.switchLawful →
      (w.state ≠ .fault → exec (.clearFault id index sense) s = .next (u.answered answer .notFaulty).complete) ∧
      (w.state = .fault → ∀ p, w.commanded = some p → w.reading sense = some p →
        exec (.clearFault id index sense) s = .next (({ u with sbc := u.sbc.map (fun (x : Switch) =>
          if x.plan.index = index then { x with state := .still, current := some p, faultReason := none } else x) }
            : State).answered answer .cleared).complete) ∧
      (w.state = .fault → w.reading sense = none ∨ w.reading sense ≠ w.commanded →
        exec (.clearFault id index sense) s = .next (({ u with sbc := u.sbc.map (fun (x : Switch) =>
          if x.plan.index = index then { x with current := w.reading sense } else x) }
            : State).answered answer .stillFaulty).complete)

/-- CLEAR EVENTS (R171, R182): a set that names a level event is refused BAD VALUE whole; else the named events are lowered
with repeat count 0 and no last source, and no other. SET NOTIFY MAP replaces the map whole (R171, R183): each event takes the
line its byte names, and nothing else of it changes. -/
def Obligations.EventRequestsAct : Prop :=
  (∀ (id : Nat) (events : Word16) (s u : State), u = s.before (.clearEvents id events) → u.ctp.sending = none →
    u.biu.busState.planless = false → events.toNat % 1024 ≠ 0 → events.toNat < 1024 →
    let answer : Request := { id := id, body := .clearEvents events }
    ((∃ i, i < 3 ∧ events.getLsbD i = true) →
      exec (.clearEvents id events) s = .next (u.answered answer (.refused .badValue)).complete) ∧
    ((∀ i, i < 3 → events.getLsbD i = false) → exec (.clearEvents id events) s =
      .next (({ u with ctp := { u.ctp with events := u.ctp.events.map (fun e =>
        if events.getLsbD (EventName.all.idxOf e.name) then { e with raised := false, repeats := 0, source := none } else e) } }
          : State).answered answer .taken).complete)) ∧
  ∀ (id : Nat) (lines : List Byte) (s u : State), u = s.before (.setNotifyMap id lines) → u.ctp.sending = none →
    u.biu.busState.planless = false → lines.length = 10 → (∀ b ∈ lines, b.toNat ≤ 2) → ∃ v : State,
      exec (.setNotifyMap id lines) s = .next (v.answered { id := id, body := .setNotifyMap lines } .taken).complete ∧
      v = { u with ctp := { u.ctp with events := v.ctp.events } } ∧
      v.ctp.events = u.ctp.events.map (fun e => { e with
        line := (match (lines[EventName.all.idxOf e.name]?).map BitVec.toNat with
          | some 1 => .line1
          | some 2 => .line2
          | _ => .none) })

/-- LEAVE BUS and JOIN BUS by bus state (R53, R54, R173). Entry to LISTEN clears the clear count, and a frame in progress keeps
whether it began in LISTEN (R52; log 26). -/
def Obligations.BusRequestsByState : Prop :=
  ∀ (id : Nat) (s u : State), u = s.caughtUp → u.ctp.sending = none →
    let left : Request := { id := id, body := .leaveBus }
    let joined : Request := { id := id, body := .joinBus }
    (u.biu.busState = .onBus → exec (.leaveBus id) s =
      .next (({ u with biu := { u.biu with busState := .draining } } : State).answered left .taken).complete) ∧
    (u.biu.busState = .listen → exec (.leaveBus id) s =
      .next (({ u with biu := { u.biu with busState := .offBus, silence := 12 } } : State).answered left .taken).complete) ∧
    (u.biu.busState = .silent → exec (.leaveBus id) s =
      .next (({ u with biu := { u.biu with busState := .offBus } } : State).answered left .taken).complete) ∧
    (u.biu.busState = .draining ∨ u.biu.busState = .offBus →
      exec (.leaveBus id) s = .next (u.answered left .noChange).complete) ∧
    (u.biu.busState = .duplicate → exec (.leaveBus id) s = .next (u.answered left (.refused .duplicate)).complete) ∧
    (u.biu.busState = .offBus → u.biu.silence = 12 → exec (.joinBus id) s =
      .next (({ u with biu := { u.biu with busState := .listen, clear := 0 } } : State).answered joined .taken).complete) ∧
    (u.biu.busState = .offBus → u.biu.silence ≠ 12 → exec (.joinBus id) s =
      .next (({ u with biu := { u.biu with busState := .silent } } : State).answered joined .taken).complete) ∧
    (u.biu.busState = .draining → ∃ t, exec (.joinBus id) s = .next t ∧ t.biu.busState = .onBus ∧
      t.cxe.contexts = u.cxe.contexts ∧ t.sbc = u.sbc ∧ t.rfg = u.rfg ∧ t.rtb = u.rtb ∧ u.keeps t ∧
      t.ctp.sending = some { id := id, kind := 15, result := .taken }) ∧
    (u.biu.busState = .onBus ∨ u.biu.busState = .listen ∨ u.biu.busState = .silent →
      exec (.joinBus id) s = .next (u.answered joined .noChange).complete) ∧
    (u.biu.busState = .duplicate → exec (.joinBus id) s = .next (u.answered joined (.refused .duplicate)).complete)

/-- RESTART at every block, in one event (R174, R25, R42, R62, R93, R109, R127, R145, R187). -/
def Obligations.RestartResetsBlocks : Prop :=
  ∀ (id : Nat) (sense : SenseLevels) (s u : State), u = s.before (.restart id sense) → u.ctp.sending = none →
    u.biu.busState.planless = false → ∃ t, exec (.restart id sense) s = .next t ∧
      t.ctp.sending = some { id := id, kind := 16, result := .taken } ∧
      t.biu.busState = .silent ∧ t.biu.cause = none ∧ t.biu.silence = 0 ∧ t.biu.outbound = [] ∧ t.biu.ownCopy = none ∧
      t.biu.drive ≠ .record ∧ t.biu.timerRunning = u.biu.timerRunning ∧ t.biu.synced = u.biu.synced ∧
      t.biu.place = u.biu.place ∧ t.biu.period = u.biu.period ∧ t.biu.node = u.biu.node ∧
      t.biu.peers = u.biu.peers.map (fun p =>
        { p with presence := .unheard, missed := 0, lastDraining := none }) ∧
      t.cxe = { u.cxe with contexts := [], reservations := [] } ∧
      t.sbc = u.sbc.map (fun w =>
        if w.state = .moving then
          { w with claims := [], waiters := [], state := .still, settleLeft := 0, driveLines := none,
                   current := (if w.plan.sensed then w.reading sense else none),
                   commanded := (if w.plan.sensed then w.reading sense else none) }
        else { w with claims := [], waiters := [] }) ∧
      t.rfg.guards = [] ∧ t.rfg.pulseWidth = u.rfg.pulseWidth ∧
      t.rfg.lines = u.rfg.lines.map (fun l => { l with users := 0, asserted := false }) ∧
      t.rfg.ready = u.rfg.ready.map (fun r => { r with pulsing := false, timeLeft := 0, active := false }) ∧
      t.rfg.detectors = u.rfg.detectors.map (fun d => { d with hot := true, fresh := true, lastSample := none }) ∧
      t.rtb = { u.rtb with routes := u.rtb.routes.map (fun r => r.plan.record) } ∧
      t.spu = { u.spu with slotA := .empty, slotB := .empty } ∧
      t.ctp.queue = [] ∧ t.ctp.notices = [] ∧ t.ctp.hold = false ∧ t.ctp.rxBuffer = u.ctp.rxBuffer ∧
      t.ctp.framingFaults = u.ctp.framingFaults ∧ t.ctp.overruns = u.ctp.overruns ∧
      t.ctp.events = u.ctp.events.map (fun e => { e with raised := false, repeats := 0, source := none }) ∧
      t.ctp.notify1 = false ∧ t.ctp.notify2 = false ∧ u.keeps t

/-! ### Sponsoring (chapter 7) -/

/-- The PROPOSE the SPU builds (R133). -/
def Obligations.ProposeCarriesRequest : Prop :=
  ∀ (s : State) (j : Job) (seq : Nat) (r : Route), s.route? j.makeRoute = some r →
    let p := s.buildPropose j seq
    p.seq = seq ∧ (∀ m, j.second = some m → p.make = m) ∧ (j.second = none → p.make = j.route) ∧
    p.frequency = j.frequency.getD r.plan.defaultFrequency ∧
    p.trimNode = r.plan.trimNode ∧ (r.plan.trimNode = none → p.target = none) ∧
    (r.plan.trimNode ≠ none → p.target = if j.target = none then r.plan.defaultTarget else j.target) ∧
    p.window = s.spu.window ∧
    (j.kind = .make → p.brk = none ∧ p.participants = r.plan.participants ∧ p.hotTolerant = r.plan.hotTolerant) ∧
    (j.kind = .retrim → j.second = none → p.brk = some j.makeRoute ∧ p.participants = r.established ∧
      p.hotTolerant = r.plan.hotTolerant) ∧
    (j.kind = .exchange → ∀ b, s.route? j.route = some b → p.brk = some j.route ∧
      p.participants = r.plan.participants ++ b.established.filter (fun n => n ∉ r.plan.participants) ∧
      p.hotTolerant = (r.plan.hotTolerant || b.plan.hotTolerant))

/-- TAKE_UP at a FREE slot that may take a request, the other slot not open to one (R130, R131, R132, R134): the oldest eligible
request, one with no busy route and no route of the other slot's request, is re-checked. One that passes leaves the queue and its
first message is placed, a PROPOSE under a reservation and a sequence number not held, or a RELEASE with force where the route is
ORPHANED. One that fails ends FAILED with attempts 0. With no free place the request keeps its place in the queue, and only a
BREAK may be taken up behind it, the oldest eligible one. -/
def Obligations.TakeUpPlacesFirstMessage : Prop :=
  ∀ (s u : State) (name : SlotName) (pre post : List Job) (j : Job), Work.takeUp ∈ s.agenda → u = s.taking .takeUp →
    u.biu.busState = .onBus → u.slot name = .empty → (name = .b → u.spu.single = false) →
    ((u.slot (otherSlot name)).state ≠ .free ∨ (name = .a ∧ u.spu.single = true)) →
    let may (p : Job) : Prop := (∀ x ∈ p.routes, ∀ r, u.route? x = some r → r.busy = none) ∧
      ∀ k ∈ (u.slot (otherSlot name)).job, ∀ x ∈ p.routes, x ∉ k.routes
    let released (queue : List Job) (b : Job) : State := ({ u with
      ctp := { u.ctp with queue := queue }
      biu := { u.biu with outbound := u.biu.outbound ++
        [{ slot := name, message := .release b.route (u.routeIs b.route .orphaned) }] } } : State).setSlot name
          { SponsorSlot.empty with state := .sending, job := some b, attempts := 1 }
    u.ctp.queue = pre ++ j :: post → (∀ p ∈ pre, ¬may p) → may j →
    (u.recheck j = none → j.kind ≠ .breakRoute → u.cxe.contexts.length + u.cxe.reservations.length < 6 → ∃ seq,
      (∀ c ∈ u.cxe.contexts, c.tag ≠ { sponsor := u.me, seq := seq }) ∧
      ((∀ c ∈ u.cxe.contexts, c.tag ≠ { sponsor := u.me, seq := (u.spu.seq + 1) % 256 }) → seq = (u.spu.seq + 1) % 256) ∧
      exec .takeUp s = .next (({ u with
        ctp := { u.ctp with queue := pre ++ post }
        cxe := { u.cxe with reservations := u.cxe.reservations ++ [name] }
        biu := { u.biu with outbound := u.biu.outbound ++ [{ slot := name, message := .propose (u.buildPropose j seq) }] }
        spu := { u.spu with seq := seq } } : State).setSlot name { SponsorSlot.empty with
          state := .sending, job := some j, attempts := 1, tag := some { sponsor := u.me, seq := seq } }).complete) ∧
    (u.recheck j = none → j.kind = .breakRoute → exec .takeUp s = .next (released (pre ++ post) j).complete) ∧
    (∀ why, u.recheck j = some why → (∀ p ∈ post, ¬may p) → exec .takeUp s = .next ({ u with ctp := { u.ctp with
      queue := pre ++ post, notices := joinNotice u.ctp.notices (failedNotice j why.result 0) } } : State).complete) ∧
    (u.recheck j = none → j.kind ≠ .breakRoute → 6 ≤ u.cxe.contexts.length + u.cxe.reservations.length →
      ((∀ p ∈ post, p.kind = .breakRoute → ¬may p) → exec .takeUp s = .next u.complete) ∧
      ∀ mid b rest, post = mid ++ b :: rest → b.kind = .breakRoute → may b → u.recheck b = none →
        (∀ p ∈ mid, p.kind = .breakRoute → ¬may p) →
          exec .takeUp s = .next (released (pre ++ j :: (mid ++ rest)) b).complete)

/-- BACKOFF_EXPIRY (R137, R131): a re-check that passes places a new PROPOSE with one attempt more; one that fails ends the
request FAILED with the attempts used, here with nothing else that waits for a slot or for a retry. The slot waits in BACKOFF at
0 while there is no free place, while a route of the request is busy here, and in a bus state other than ON-BUS and DRAINING. -/
def Obligations.BackoffExpiryRetries : Prop :=
  ∀ (name : SlotName) (s u : State) (j : Job), Work.backoff name ∈ s.agenda → u = s.taking (.backoff name) →
    (u.slot name).state = .backoff → (u.slot name).backoff = 0 → (u.slot name).job = some j → j.kind ≠ .breakRoute →
    let speaks : Prop := u.biu.busState = .onBus ∨ u.biu.busState = .draining
    let free : Prop := ∀ x ∈ j.routes, ∀ r, u.route? x = some r → r.busy = none
    (speaks → free → u.recheck j = none → u.cxe.contexts.length + u.cxe.reservations.length < 6 →
      ∃ seq t, exec (.backoffExpiry name) s = .next t ∧
      (∀ c ∈ u.cxe.contexts, c.tag ≠ { sponsor := u.me, seq := seq }) ∧
      t.slot name = { u.slot name with state := .sending, attempts := (u.slot name).attempts + 1,
                                       tag := some { sponsor := u.me, seq := seq }, sent := false } ∧
      t.slot (otherSlot name) = u.slot (otherSlot name) ∧ t.spu.seq = seq ∧
      t.biu = { u.biu with outbound := u.biu.outbound ++ [{ slot := name, message := .propose (u.buildPropose j seq) }] } ∧
      t.cxe = { u.cxe with reservations := u.cxe.reservations ++ [name] } ∧ t.ctp.queue = u.ctp.queue ∧
      t.ctp.notices = u.ctp.notices ∧ t.sbc = u.sbc ∧ t.rtb = u.rtb ∧ t.rfg = u.rfg ∧ u.keeps t) ∧
    (speaks → free → u.recheck j = none → 6 ≤ u.cxe.contexts.length + u.cxe.reservations.length →
      exec (.backoffExpiry name) s = .next u.complete) ∧
    (speaks → free → ∀ why, u.recheck j = some why → u.ctp.queue = [] → (u.slot (otherSlot name)).state ≠ .backoff →
      exec (.backoffExpiry name) s = .next ((({ u with ctp := { u.ctp with
        notices := joinNotice u.ctp.notices (failedNotice j why.result (u.slot name).attempts) } } : State).setSlot name
          .empty).drainTest).complete) ∧
    (¬speaks ∨ ¬free → exec (.backoffExpiry name) s = .next u.complete)

/-- The SPU's decision on a close (R136, R137, R142). DONE ends with the notice of the request's kind, with the figures and flags
of the hand-off. A cancel TAKEN before the commit point ends CANCELLED; after it the cancel is LATE. A close before the commit
point with reason NO ANSWER, or OBJECTED with HELD, FULL or ROUTE BUSY, of a request none of whose routes has its no-retry flag
set, and with no cancel, backs off under sixteen attempts for the attempt number times (1 + node mod 4) frame ends, and ends
EXCESSIVE CONTENTION at sixteen. Every other close ends FAILED with the close's reason, node and object reason. Here nothing else
waits for the slot or for a retry, and a slot that becomes FREE has the end of DRAINING tested (R53). -/
def Obligations.CloseDecidesRetry : Prop :=
  ∀ (s : State) (name : SlotName) (slot : SponsorSlot) (j : Job) (h : HandOff), s.slot name = slot → slot.job = some j →
    s.ctp.queue = [] → (s.slot (otherSlot name)).state ≠ .backoff →
    let t := s.judgeClose name slot j h
    let late : Bool := slot.cancel == .late || (h.passedCommit && slot.cancel == .taken)
    let ended (n : Notice) : State := (({ s with ctp := { s.ctp with
      notices := joinNotice s.ctp.notices n } } : State).setSlot name .empty).drainTest
    let closed (n : Notice) : Notice := { n with node := h.record.node, objection := h.record.objection }
    (h.done = true → t = ended { cancelledNotice j slot.attempts with
      kind := (match j.kind with
        | .make => .made
        | .exchange => .exchanged
        | .retrim => .retrimmed
        | .breakRoute => .released)
      achieved := h.achieved
      residual := (match h.target, h.achieved with
        | some goal, some got => some ((goal : Int) - got)
        | _, _ => none)
      short := decide (h.flag = .short), long := decide (h.flag = .long), hotMade := h.hotMade, cancelTooLate := late }) ∧
    (h.done = false → h.passedCommit = false → slot.cancel = .taken →
      t = ended (closed { cancelledNotice j slot.attempts with result := h.record.reason.result })) ∧
    (h.done = false → slot.cancel = .none → s.mayRetry j h.passedCommit h.record →
      (slot.attempts < 16 → t = s.setSlot name { slot with
        state := .backoff, backoff := slot.attempts * (1 + s.me % 4), lastClose := some h.record }) ∧
      (16 ≤ slot.attempts → t = ended (closed (failedNotice j .excessiveContention slot.attempts)))) ∧
    (h.done = false → (slot.cancel = .none → ¬s.mayRetry j h.passedCommit h.record) →
      (slot.cancel = .taken → h.passedCommit = true) →
        t = ended { closed (failedNotice j h.record.reason.result slot.attempts) with cancelTooLate := late })

/-! ### The Path Bus (chapter 3) -/

/-- A frame begins at a sync seen (R45), and at a sync driven when the timer expires (R44) or when the search span ends (R45). Where
another node's sync has begun on the line by then, the node does not drive, and SYNC_RECOGNISED begins its frame; whether one has is
a free value, of which only the draw moves on (log 27). In DUPLICATE the timer's expiry begins a frame that is not judged (R56).
Elsewhere the three events change nothing (log 2). -/
def Obligations.SyncBeginsFrame : Prop :=
  ∀ (s u : State), u = s.caughtUp →
    let begun (drive : BusDrive) : State := { u with biu := { u.biu with
      place := .slots 1, synced := true, begunInListen := (u.biu.synced && u.biu.busState == .listen), ownCopy := none,
      drive := drive, heard := [] } }
    let drives : State := { (if Config.syncBegun u.freeDraws then u else begun .sync) with freeDraws := u.freeDraws + 1 }
    (u.biu.timerRunning = true → (u.biu.synced = false ∨ u.biu.place = .idle) →
      exec .syncRecognised s = .next (begun .nothing).complete) ∧
    (u.biu.timerRunning = false ∨ (u.biu.synced = true ∧ u.biu.place ≠ .idle) → exec .syncRecognised s = .next u.complete) ∧
    (u.biu.timerRunning = true → u.biu.synced = true → u.biu.place = .idle → u.biu.busState ≠ .duplicate →
      exec .frameTimerExpiry s = .next drives.complete) ∧
    (u.biu.timerRunning = true → u.biu.synced = true → u.biu.place = .idle → u.biu.busState = .duplicate →
      exec .frameTimerExpiry s = .next ({ u with biu := { u.biu with
        place := .unjudged, begunInListen := false, heard := [] } } : State).complete) ∧
    (u.biu.timerRunning = false ∨ u.biu.synced = false ∨ u.biu.place ≠ .idle →
      exec .frameTimerExpiry s = .next u.complete) ∧
    (u.biu.timerRunning = true → u.biu.synced = false → u.biu.busState ≠ .duplicate →
      exec .searchSpanExpiry s = .next drives.complete) ∧
    (u.biu.timerRunning = false ∨ u.biu.synced = true ∨ u.biu.busState = .duplicate →
      exec .searchSpanExpiry s = .next u.complete)

/-- OWN_SLOT_START in ON-BUS or DRAINING (R46, R47, R87): withdrawals are tested, the stage entries taken as they then stand,
the oldest message leaves the list and its slot is told, and the record is driven and kept; a TAKEN cancel whose context has
passed its commit point is LATE (R140). Off the bus nothing is driven. -/
def Obligations.OwnSlotFormsRecord : Prop :=
  ∀ (s u : State), u = s.before .ownSlotStart →
    (u.biu.busState = .onBus ∨ u.biu.busState = .draining → u.biu.synced = true → u.biu.place = .slots u.me →
      u.biu.ownCopy = none → ∃ t r, exec .ownSlotStart s = .next t ∧ t.biu.drive = .record ∧ t.biu.ownCopy = some r ∧
        r.sender = u.me ∧ r.draining = (u.biu.busState == .draining) ∧
        t.cxe.contexts = u.cxe.contexts.map (fun c =>
          if c.withdrawal = .pending then
            (if c.passedCommit then { c with withdrawal := .none, report := c.kept, kept := none }
             else { c with withdrawal := .sent })
          else c) ∧
        r.entries = t.cxe.contexts.filterMap (fun c => c.report.map (fun x => { tag := c.tag, make := c.make, report := x })) ∧
        (u.biu.outbound = [] → r.message = none ∧ t.biu.outbound = [] ∧ ∀ name, (t.slot name).sent = (u.slot name).sent) ∧
        (∀ o rest, u.biu.outbound = o :: rest → r.message = some o.message ∧ t.biu.outbound = rest ∧
          (t.slot o.slot).sent = true ∧ (t.slot (otherSlot o.slot)).sent = (u.slot (otherSlot o.slot)).sent) ∧
        (∀ name, t.slot name = { u.slot name with
          sent := (t.slot name).sent
          cancel := if (u.slot name).cancel = .taken ∧ ∃ c ∈ u.cxe.contexts, c.withdrawal = .pending ∧
            c.passedCommit = true ∧ (u.slot name).tag = some c.tag then .late else (u.slot name).cancel }) ∧
        t.biu = { u.biu with drive := .record, ownCopy := some r, outbound := t.biu.outbound } ∧
        t.cxe.reservations = u.cxe.reservations ∧ t.sbc = u.sbc ∧ t.rtb = u.rtb ∧ t.rfg = u.rfg ∧ t.spu.seq = u.spu.seq ∧
        t.ctp = u.complete.ctp ∧ u.keeps t) ∧
    (u.biu.busState ≠ .onBus → u.biu.busState ≠ .draining → exec .ownSlotStart s = .next u.complete)

/-- SLOT_END of a peer's slot (R48, R57, R59): no record start leaves the peer table; a failed record counts against the slot's
number and fires BUS CHECK; a good record makes the peer PRESENT, with PEER at a change, and is delivered. A delivered record
(R49, R66): in ON-BUS and DRAINING its stage entries are taken in order and then its message, and what the entries leave out (R72) is
tested between the two, which is deduced (log 15); in the other bus states only a RELEASE is taken, and a node's own RELEASE answers
its sponsor slot (R37, R65, R134). -/
def Obligations.PeerSlotJudged : Prop :=
  (∀ (line : Bits) (s u : State) (n : Nat), u = s.before (.slotEnd line) → u.biu.timerRunning = true → u.biu.synced = true →
    u.biu.place = .slots n → 1 ≤ n → n ≤ 30 → n ≠ u.me →
    let next : Biu := { u.biu with place := .slots (n + 1), drive := .nothing }
    (line.take 8 ≠ startPattern → exec (.slotEnd line) s = .next ({ u with biu := next } : State).complete) ∧
    (line.take 8 = startPattern → (∀ r, SlotRecord.decode (line.drop 8) = some r → r.sender ≠ n) →
      exec (.slotEnd line) s = .next (({ u with biu := { next with peers := u.biu.peers.map (fun p =>
          if p.node = n then { p with checkFailures := min 65535 (p.checkFailures + 1) } else p) } } : State).fire .busCheck
            (.node n)).complete) ∧
    (∀ r : SlotRecord, r.inCodes = true → line = r.bits → r.sender = n →
      let v : State := { u with biu := { next with
        peers := u.biu.peers.map (fun p =>
          if p.node = n then { p with presence := .present, missed := 0, lastDraining := some r.draining } else p)
        heard := addIndex n u.biu.heard } }
      ((∃ p ∈ u.biu.peers, p.node = n ∧ p.presence = .present) →
        exec (.slotEnd line) s = .next (v.deliver r).complete) ∧
      ((∀ p ∈ u.biu.peers, p.node = n → p.presence ≠ .present) →
        exec (.slotEnd line) s = .next ((v.fire .peer (.node n)).deliver r).complete) ∧
      (u.cxe.contexts = [] → r.message = none → v.deliver r = v))) ∧
  ∀ (v : State) (r : SlotRecord),
    let speaks : Prop := v.biu.busState = .onBus ∨ v.biu.busState = .draining
    let entered : State := (r.entries.foldl (State.takeEntry r.sender) v).participantFreed r.sender r.entries
    let message (w : State) : State := (match r.message with
      | none => w
      | some (.propose p) => w.proposeHeard r.sender p
      | some (.release route force) =>
        if r.sender = w.me then
          (w.releaseHeard r.sender route force).2.releaseAnswered ((w.releaseHeard r.sender route force).1 == .honoured)
        else (w.releaseHeard r.sender route force).2)
    (speaks → v.deliver r = message entered) ∧
    (¬speaks → (∀ p, r.message ≠ some (.propose p)) → v.deliver r = message v) ∧
    (¬speaks → (∃ p, r.message = some (.propose p)) → v.deliver r = v)

/-- SLOT_END of the node's own slot. While ON-BUS or DRAINING (R49, R55, R56, R156, R157): a record good and equal to the copy
driven is delivered; a failed one, a good one that differs, or no record start at all where a copy was driven (log 13) puts the node
in DUPLICATE with its cause, no message waiting, every context closed and no request in a sponsor slot. In LISTEN (R52, R56): a
signal in a frame begun in LISTEN enters DUPLICATE, OWN SLOT IN USE; no signal, or a frame not so begun, stays in LISTEN. In OFF-BUS
(R49) a good record is delivered and a failed one disregarded, and with either the frame is no longer a clear one of LISTEN (log 26).
In SILENT and DUPLICATE the own slot is not judged (R51, R56; log 14). What the own message heard does to the slot it came from,
slot A where both have sent (log 21): an own RELEASE honoured ends the request RELEASED, and not honoured FAILED, NOT HOLDER
(R134); an own PROPOSE not opened ends it FAILED, NO ANSWER (R135); here nothing else waits for a slot or for a retry. -/
def Obligations.OwnSlotJudged : Prop :=
  (∀ (line : Bits) (s u : State), u = s.before (.slotEnd line) → u.biu.timerRunning = true → u.biu.synced = true →
    u.biu.place = .slots u.me → u.me ≤ 30 →
    let ended : State := { u with biu := { u.biu with place := .slots (u.me + 1), drive := .nothing, ownCopy := none } }
    let signal : State := { ended with biu := { ended.biu with begunInListen := false } }
    let starts : Prop := line.take 8 = startPattern
    let good (r : SlotRecord) : Prop := SlotRecord.decode (line.drop 8) = some r ∧ r.sender = u.me
    let wrong (cause : DuplicateCause) : Prop := ∃ t, exec (.slotEnd line) s = .next t ∧ t.biu.busState = .duplicate ∧
      t.biu.cause = some cause ∧ t.biu.outbound = [] ∧ t.cxe.reservations = [] ∧ t.spu.slotA.job = none ∧
      t.spu.slotB.job = none ∧ (∀ c ∈ t.cxe.contexts, c.isOpen = false) ∧ t.biu.peers = u.biu.peers ∧ u.keeps t ∧
      ∀ e ∈ t.ctp.events, e.name = .duplicate → e.raised = true ∧ e.source = some (.cause cause)
    (u.biu.busState = .onBus ∨ u.biu.busState = .draining → u.cxe.lawful → ∀ copy, u.biu.ownCopy = some copy →
      (starts → good copy → exec (.slotEnd line) s = .next (ended.deliver copy).complete) ∧
      (starts → (∀ r, ¬good r) → wrong .ownRecordFailed) ∧
      (∀ r, starts → good r → r ≠ copy → wrong .ownRecordAltered) ∧
      (¬starts → wrong .ownRecordFailed)) ∧
    (u.biu.busState = .listen →
      (starts → u.biu.begunInListen = true → ∃ t, exec (.slotEnd line) s = .next t ∧
        t.biu.busState = .duplicate ∧ t.biu.cause = some .ownSlotInUse) ∧
      (¬starts ∨ u.biu.begunInListen = false → exec (.slotEnd line) s = .next ended.complete)) ∧
    (u.biu.busState = .offBus →
      (∀ r, starts → good r → exec (.slotEnd line) s = .next (signal.deliver r).complete) ∧
      (starts → (∀ r, ¬good r) → exec (.slotEnd line) s = .next signal.complete) ∧
      (¬starts → exec (.slotEnd line) s = .next ended.complete)) ∧
    (u.biu.busState = .silent ∨ u.biu.busState = .duplicate → exec (.slotEnd line) s = .next ended.complete)) ∧
  ∀ (s : State) (name : SlotName) (j : Job), (s.slot name).state = .sending → (s.slot name).sent = true →
    (s.slot name).job = some j → (name = .b → ¬(s.spu.slotA.state = .sending ∧ s.spu.slotA.sent = true)) →
    s.ctp.queue = [] → (s.slot (otherSlot name)).state ≠ .backoff →
    let ended (n : Notice) : State := (({ s with ctp := { s.ctp with
      notices := joinNotice s.ctp.notices n } } : State).setSlot name .empty).drainTest
    s.releaseAnswered true = ended { cancelledNotice j (s.slot name).attempts with kind := .released } ∧
    s.releaseAnswered false = ended (failedNotice j .notHolder (s.slot name).attempts) ∧
    s.proposeNotOpened = ended (failedNotice j .noAnswer (s.slot name).attempts)

/-- FRAME_END at a synced node whose frame has ended (R43): every MOVING switch counts its settle (R16), every context its
window in ANSWER (R74), its quiet wait in COLD (R76) or its linger once closed (R85), every slot in BACKOFF its backoff
(R137), every PRESENT peer not heard its missed frames (R58), and the bus state its silence or clear count (R51, R52). The work
these counts leave stands in the agenda, each piece exactly where its count has run out: a settle whose switch, and whose partner
where it moves too, stands at 0 (R16, R18), once for a pair; and a take-up while ON-BUS (R130). That the counts come first and the
work after them, and that the last frame end of a window or of a quiet wait is counted by its work, is the model's choice (log 1).
A node with no frame end to count, also one synced whose thirtieth slot has not ended, changes nothing (log 2, log 12). -/
def Obligations.FrameEndCounts : Prop :=
  ∀ (sense : SenseLevels) (s u : State), u = s.before (.frameEnd sense) →
    (u.biu.timerRunning = true → u.biu.synced = true → (u.biu.place = .slots 31 ∨ u.biu.place = .unjudged) →
      ∃ t, exec (.frameEnd sense) s = .next t ∧ t.biu.place = .idle ∧
        t.sbc = u.sbc.map (fun w => if w.state = .moving then { w with settleLeft := w.settleLeft - 1 } else w) ∧
        t.cxe.contexts = u.cxe.contexts.map (fun c => { c with
          window := if c.phase = .answer ∧ 1 < c.window then c.window - 1 else c.window,
          quietLeft := if c.phase = .cold ∧ c.quietWait ∧ 1 < c.quietLeft then c.quietLeft - 1 else c.quietLeft,
          linger := if c.phase = .done ∨ c.phase = .failed then c.linger - 1 else c.linger }) ∧
        (∀ name, t.slot name = if (u.slot name).state = .backoff then
          { u.slot name with backoff := (u.slot name).backoff - 1 } else u.slot name) ∧
        t.biu.peers = u.biu.peers.map (fun p =>
          if p.presence = .present ∧ p.node ∉ u.biu.heard then { p with missed := min 8 (p.missed + 1) } else p) ∧
        (u.biu.busState ≠ .draining → t.biu.busState = u.biu.busState ∧
          t.biu.silence = (if u.biu.busState = .silent ∨ u.biu.busState = .offBus then min 12 (u.biu.silence + 1)
                           else u.biu.silence) ∧
          t.biu.clear = (if u.biu.busState = .listen ∧ u.biu.begunInListen then min 2 (u.biu.clear + 1) else u.biu.clear)) ∧
        (u.biu.busState = .draining → u.cxe.contexts = [] → u.spu.slotA.state = .free → u.spu.slotB.state = .free →
          t.biu.busState = .offBus ∧ t.biu.silence = 12) ∧
        (u.biu.busState = .draining → (u.cxe.contexts ≠ [] ∨ u.spu.slotA.state ≠ .free ∨ u.spu.slotB.state ≠ .free) →
          t.biu.busState = .draining) ∧
        t.cxe.reservations = u.cxe.reservations ∧ t.biu.outbound = u.biu.outbound ∧ t.spu.seq = u.spu.seq ∧
        t.rtb = u.rtb ∧ t.rfg = u.rfg ∧ t.ctp = u.complete.ctp ∧ t.mem = u.mem ∧ t.ltu = u.ltu ∧ t.pld = u.pld ∧
        t.sense = sense ∧ t.freeDraws = u.freeDraws ∧ t.pending = u.pending ∧
        (∀ i, Work.settle i ∈ t.agenda ↔ ∃ w, t.switch? i = some w ∧ w.state = .moving ∧ w.settleLeft = 0 ∧
          ∀ p x, w.plan.partner = some p → t.switch? p = some x → x.state = .moving → x.settleLeft = 0 ∧ i ≤ p) ∧
        (∀ tag, Work.quiet tag ∈ t.agenda ↔ ∃ c ∈ u.cxe.contexts, c.tag = tag ∧ c.phase = .cold ∧ c.quietWait = true ∧
          c.quietLeft ≤ 1) ∧
        (∀ tag, Work.window tag ∈ t.agenda ↔ ∃ c ∈ u.cxe.contexts, c.tag = tag ∧ c.phase = .answer ∧ c.window ≤ 1) ∧
        (Work.absence ∈ t.agenda ↔ ∃ p ∈ t.biu.peers, p.presence = .present ∧ p.missed = 8) ∧
        (∀ tag, Work.linger tag ∈ t.agenda ↔ ∃ c ∈ t.cxe.contexts, c.tag = tag ∧ (c.phase = .done ∨ c.phase = .failed) ∧
          c.linger = 0 ∧ c.driven = []) ∧
        (Work.silence ∈ t.agenda ↔ t.biu.busState = .silent ∧ t.biu.silence = 12) ∧
        (Work.clear ∈ t.agenda ↔ t.biu.busState = .listen ∧ t.biu.clear = 2) ∧
        (∀ name, Work.backoff name ∈ t.agenda ↔ (t.slot name).state = .backoff ∧ (t.slot name).backoff = 0) ∧
        (Work.takeUp ∈ t.agenda ↔ t.biu.busState = .onBus)) ∧
    (u.biu.timerRunning = false ∨ u.biu.synced = false ∨ (u.biu.place ≠ .slots 31 ∧ u.biu.place ≠ .unjudged) →
      exec (.frameEnd sense) s = .next u.complete)

/-! ### The work a frame end owes -/

/-- SETTLE_END of an unpaired switch (R17, R19): unsensed or read at the commanded position it is STILL there; otherwise it is
in FAULT with reason SENSE at the position read, and SWITCH FAULT fires. The drive lines are released, the commanded position
kept and the waiter set emptied, and each waiter is told the outcome, in the order in which they joined (log 25). SETTLE_END
of a pair (R18), named by either member that moves: both are judged together and end together, SWITCH FAULT fires for each
that is wrong, and every waiter of either is told the one outcome once, the member of the lower index and its waiters first
where both move (log 25). -/
def Obligations.SettleEndJudgesSwitch : Prop :=
  (∀ (index : Nat) (s u : State) (w : Switch), Work.settle index ∈ s.agenda → u = s.taking (.settle index) →
    s.switch? index = some w → w.plan.partner = none → w.state = .moving → w.settleLeft = 0 → s.switchLawful →
    let told (outcome : SettleOutcome) (v : State) : State := w.waiters.dedup.foldl
      (State.tellOutcome { outcome := outcome, switches := [index], waiters := w.waiters.dedup }) v
    (w.plan.sensed = false ∨ (w.commanded ≠ none ∧ w.reading s.sense = w.commanded) →
      exec (.settleEnd index) s = .next (told .right { u with sbc := u.sbc.map (fun x => if x.plan.index = index then
        { x with state := .still, current := x.commanded, driveLines := none, waiters := [] } else x) }).complete) ∧
    (w.plan.sensed = true → (w.reading s.sense = none ∨ w.reading s.sense ≠ w.commanded) →
      exec (.settleEnd index) s = .next (told .sense (({ u with sbc := u.sbc.map (fun x => if x.plan.index = index then
        { x with state := .fault, current := w.reading s.sense, faultReason := some .sense, driveLines := none,
                 waiters := [] } else x) } : State).fire .switchFault (.switch index))).complete)) ∧
  ∀ (index a b : Nat) (s u : State) (v w : Switch), Work.settle a ∈ s.agenda → u = s.taking (.settle a) → a ≠ b →
    s.switch? a = some v → s.switch? b = some w → v.plan.partner = some b → w.plan.partner = some a → s.switchLawful →
    v.state = .moving → v.settleLeft = 0 → (w.state = .moving → w.settleLeft = 0 ∧ a < b) →
    (index = a ∨ (index = b ∧ w.state = .moving)) →
    let right (x : Switch) : Prop := x.state ≠ .moving ∨ x.plan.sensed = false ∨
      (x.commanded ≠ none ∧ x.reading s.sense = x.commanded)
    let outcome : SettleOutcome := if right v ∧ right w then .right else if right v ∨ right w then .skew else .sense
    let judged (other x : Switch) : Switch :=
      if x.state ≠ .moving then { x with waiters := [] }
      else if right x then { x with state := .still, current := x.commanded, driveLines := none, waiters := [] }
      else { x with state := .fault, current := x.reading s.sense, faultReason := some (if right other then .skew else .sense),
                    driveLines := none, waiters := [] }
    let faults (x : Switch) (t : State) : State := if right x then t else t.fire .switchFault (.switch x.plan.index)
    let waiters := (v.waiters ++ w.waiters).dedup
    exec (.settleEnd index) s = .next (waiters.foldl
      (State.tellOutcome { outcome := outcome, switches := [a, b], waiters := waiters })
      (faults w (faults v { u with sbc := u.sbc.map (fun x =>
        if x.plan.index = a then judged w v else if x.plan.index = b then judged v w else x) }))).complete

/-- A pair is judged together (R18): both right RIGHT, one right SKEW with the wrong member in FAULT, neither right SENSE with
both in FAULT; an unsensed member and a member not driven judge right. -/
def Obligations.PairJudgedTogether : Prop :=
  ∀ (s : State) (a b : Nat) (v w : Switch), a ≠ b → s.switch? a = some v → s.switch? b = some w → v.plan.partner = some b →
    w.plan.partner = some a → s.switchLawful → v.state = .moving →
    let right (x : Switch) : Prop := x.state ≠ .moving ∨ x.plan.sensed = false ∨
      (x.commanded ≠ none ∧ x.reading s.sense = x.commanded)
    let t := (s.endSettle a).2
    ((s.endSettle a).1.outcome =
      if right v ∧ right w then .right else if right v ∨ right w then .skew else .sense) ∧
    (right v → ∃ x, t.switch? a = some x ∧ x.state = .still ∧ x.current = v.commanded ∧ x.driveLines = none) ∧
    (¬right v → ∃ x, t.switch? a = some x ∧ x.state = .fault ∧ x.current = v.reading s.sense ∧
      x.faultReason = some (if right w then .skew else .sense)) ∧
    (¬right w → ∃ x, t.switch? b = some x ∧ x.state = .fault ∧
      x.faultReason = some (if right v then .skew else .sense))

/-- ANSWER_WINDOW_EXPIRY (R74, R82, R83): the last frame end of the window is counted, and the context closes FAILED, NO ANSWER,
naming the first participant whose standing is NONE, with linger 4; its claims and its busy tags go. -/
def Obligations.WindowExpiryClosesContext : Prop :=
  ∀ (tag : Tag) (s u : State) (c : Context), Work.window tag ∈ s.agenda → u = s.taking (.window tag) →
    u.context? tag = some c → c.phase = .answer → c.window ≤ 1 → ∃ t, exec (.answerWindowExpiry tag) s = .next t ∧
      t.context? tag = some { c with
        phase := .failed, quietWait := false, linger := 4, window := 0,
        close := some { reason := .noAnswer, node := (c.standing.find? (fun x => x.rank == .none)).map Standing.node,
                        objection := none } } ∧
      (∀ w ∈ t.sbc, ∀ e ∈ w.claims, e.holder ≠ .pending tag ∧ ∀ x ∈ e.successor, x.tag ≠ tag) ∧
      (∀ r ∈ t.rtb.routes, r.busy ≠ some tag) ∧ t.rfg = u.rfg ∧ u.keeps t ∧
      (tag.sponsor ≠ u.me → t.spu = u.spu ∧ t.biu = u.biu ∧ t.ctp.queue = u.ctp.queue ∧ t.ctp.notices = u.ctp.notices)

/-- QUIET_TIMEOUT (R76, R102, R69, R86): the last frame end of the wait is counted, the own report, still ACCEPT, becomes FAIL
HOT, or the report kept aside does while a WITHDRAW stands, the wait ends and the guard entry's watch is off; the context
stays open. LINGER_EXPIRY (R85, R19): a closed context with linger 0 and nothing driven leaves the table and every waiter set,
and in DRAINING the end of it is tested (R53): with the table empty and both slots FREE the node enters OFF-BUS with silence
12. Nothing else changes. -/
def Obligations.QuietAndLingerRunOut : Prop :=
  (∀ (tag : Tag) (s u : State) (c : Context) (v : Nat), Work.quiet tag ∈ s.agenda → u = s.taking (.quiet tag) →
    u.context? tag = some c → c.phase = .cold → c.quietWait = true → c.quietLeft ≤ 1 →
    (c.report = some (.accept v) ∨ (c.report = some .withdraw ∧ c.kept = some (.accept v))) →
      ∃ t, exec (.quietTimeout tag) s = .next t ∧
        (c.report = some (.accept v) →
          t.context? tag = some { c with report := some (.fail .hot), quietWait := false, quietLeft := 0 }) ∧
        (c.report = some .withdraw →
          t.context? tag = some { c with kept := some (.fail .hot), quietWait := false, quietLeft := 0 }) ∧
        (∀ g ∈ t.rfg.guards, g.tag = tag → g.watch = false) ∧ t.rfg.lines = u.rfg.lines ∧ t.sbc = u.sbc ∧ t.rtb = u.rtb ∧
        t.rfg.detectors = u.rfg.detectors ∧ t.spu = u.spu ∧ t.biu = u.biu ∧ t.ctp = u.complete.ctp ∧ u.keeps t) ∧
  ∀ (tag : Tag) (s u : State) (c : Context), Work.linger tag ∈ s.agenda → u = s.taking (.linger tag) →
    u.context? tag = some c → (c.phase = .done ∨ c.phase = .failed) → c.linger = 0 → c.driven = [] →
    let freed : State := { u with
      cxe := { u.cxe with contexts := u.cxe.contexts.filter (fun x => x.tag != tag) }
      sbc := u.sbc.map (fun w => { w with waiters := w.waiters.filter (fun x => x != tag) }) }
    let drained : Prop := u.biu.busState = .draining ∧ (∀ x ∈ u.cxe.contexts, x.tag = tag) ∧ u.spu.slotA.state = .free ∧
      u.spu.slotB.state = .free
    (¬drained → exec (.lingerExpiry tag) s = .next freed.complete) ∧
    (drained → exec (.lingerExpiry tag) s =
      .next ({ freed with biu := { u.biu with busState := .offBus, silence := 12 } } : State).complete)

/-- SILENCE_COUNT_COMPLETE and CLEAR_COUNT_COMPLETE (R51, R52): twelve silent frame ends enter LISTEN with clear count 0, nothing
else of the unit changing, and two clear own slots enter ON-BUS. -/
def Obligations.SilenceThenClearJoinsBus : Prop :=
  (∀ (s u : State), Work.silence ∈ s.agenda → u = s.taking .silence → u.biu.busState = .silent → u.biu.silence = 12 →
    exec .silenceCountComplete s = .next ({ u with biu := { u.biu with busState := .listen, clear := 0 } } : State).complete) ∧
  ∀ (s u : State), Work.clear ∈ s.agenda → u = s.taking .clear → u.biu.busState = .listen → u.biu.clear = 2 →
    ∃ t, exec .clearCountComplete s = .next t ∧ t.biu.busState = .onBus ∧ t.sbc = u.sbc ∧ t.rtb = u.rtb ∧
      t.cxe.contexts = u.cxe.contexts ∧ t.biu.peers = u.biu.peers ∧ t.rfg = u.rfg ∧ u.keeps t

/-- PEER_ABSENT (R58, R146, R147, R149), where no two contexts hold one tag and no two route records one id. The PRESENT peers at
eight missed frames become ABSENT with PEER fired. Every open context that names one closes FAILED, PEER LOST, with the first such
node of its participants and sponsor as failing node, and its busy tags and pending claims go; every ESTABLISHED record with one
among its participants as established becomes ORPHANED, and ORPHAN fires for it. Contexts and records not named stay, as do every
other field and every established claim. The notices of the orphaned records follow in record order, where no context that closed
was this node's to sponsor. -/
def Obligations.PeerAbsentTakesEverythingDown : Prop :=
  ∀ (s u : State), Work.absence ∈ s.agenda → u = s.taking .absence → u.cxe.lawful → u.routesLawful →
    let gone (n : Nat) : Bool := u.biu.peers.any (fun p => p.node == n && p.presence == .present && p.missed == 8)
    let nodes (c : Context) : List Nat := c.participants ++ [c.tag.sponsor]
    let named (c : Context) : Bool := c.isOpen && (nodes c).any gone
    let lost (r : Route) : Bool := r.state == .established && r.established.any gone
    let kept (w : Switch) : Switch × List (Nat × Option Nat) := ({ w with claims := [] },
      w.claims.filterMap (fun e => e.route?.map (fun route => (route, e.position))))
    ∃ t, exec .peerAbsent s = .next t ∧ u.keeps t ∧
      t.biu.peers = u.biu.peers.map (fun p => if gone p.node = true then { p with presence := .absent } else p) ∧
      ((∃ n, gone n = true) → ∀ e ∈ t.ctp.events, e.name = .peer → e.raised = true) ∧
      t.cxe.contexts = u.cxe.contexts.map (fun c => if named c = true then { c with
        phase := .failed, quietWait := false, linger := 4,
        close := some { reason := .peerLost, node := (nodes c).find? gone, objection := none } } else c) ∧
      t.rtb = { u.rtb with routes := u.rtb.routes.map (fun r => { r with
        state := if lost r = true then .orphaned else r.state
        busy := if u.cxe.contexts.any (fun c => named c && r.busy == some c.tag) then none else r.busy }) } ∧
      (∀ c ∈ u.cxe.contexts, named c = true → ∀ w ∈ t.sbc, ∀ e ∈ w.claims,
        e.holder ≠ .pending c.tag ∧ ∀ x ∈ e.successor, x.tag ≠ c.tag) ∧
      t.sbc.map kept = u.sbc.map kept ∧
      (∀ pre r, u.rtb.routes.filter lost = pre ++ [r] →
        ∀ e ∈ t.ctp.events, e.name = .orphan → e.raised = true ∧ e.source = some (.route r.plan.id)) ∧
      ((∀ c ∈ u.cxe.contexts, named c = true → c.tag.sponsor ≠ u.me) →
        t.ctp.notices = (u.rtb.routes.filter lost).foldl (fun q r => joinNotice q
          { id := 0, kind := .orphaned, route := r.plan.id, second := none, result := .peerLost,
            node := r.established.find? gone, objection := none, attempts := 0, achieved := none, residual := none,
            short := false, long := false, hotMade := false, cancelTooLate := false, lost := 0 }) u.ctp.notices)

/-! ### Detectors, inhibit lines and ready lines (chapter 5) -/

/-- DETECTOR_SAMPLE (R95, R96): the sample is held to -700 .. +300, a fresh record is judged against the threshold alone, a HOT
one leaves HOT only below threshold less hysteresis, and a QUIET one at or above the threshold turns HOT. Where the input's
detector changes, every watching guard entry that names it and sees no HOT detector passes its quiet test: its watch goes off, and
the context it belongs to, waiting in COLD with its own report ACCEPT, reports QUIET (R76, R100), the report kept aside changing
while a WITHDRAW stands (R86). READY_PULSE_EXPIRY (R105): a PULSING line goes inactive and IDLE; no other line changes. The quiet
test (R100, R101) passes for a hot-tolerant entry and for one with no HOT detector, and else is NOT YET with the watch on; lines
and detectors do not change. -/
def Obligations.InstrumentLineEvents : Prop :=
  (∀ (input : Nat) (level : Int) (s u : State), u = s.before (.detectorSample input level) →
    let v := max (-700) (min 300 level)
    let rfg : Rfg := { u.rfg with
      detectors := u.rfg.detectors.map (fun d => if d.input = input then { d with
        hot := if d.fresh then decide (d.threshold ≤ v)
               else if d.hot then decide (d.threshold - d.hysteresis ≤ v) else decide (d.threshold ≤ v)
        fresh := false
        lastSample := some v } else d) }
    let passes (e : GuardEntry) : Bool := u.rfg.inputHot input != rfg.inputHot input && e.watch &&
      e.detectors.contains input && e.detectors.all (fun i => !rfg.inputHot i)
    let quiet (c : Context) : Context := (match c.report, c.kept with
      | some (.accept _), _ => { c with report := some .quiet, quietWait := false }
      | some .withdraw, some (.accept _) => { c with kept := some .quiet, quietWait := false }
      | _, _ => c)
    exec (.detectorSample input level) s = .next ({ u with
      rfg := { rfg with guards := u.rfg.guards.map (fun e => if passes e = true then { e with watch := false } else e) }
      cxe := { u.cxe with contexts := u.cxe.contexts.map (fun c =>
        if c.phase = .cold ∧ c.quietWait = true ∧ ∃ e ∈ u.rfg.guards, passes e = true ∧ e.tag = c.tag then quiet c else c) } }
      : State).complete) ∧
  (∀ (line : Nat) (s u : State), u = s.before (.readyPulseExpiry line) →
    exec (.readyPulseExpiry line) s = .next ({ u with rfg := { u.rfg with
      ready := u.rfg.ready.map (fun r => if r.line = line ∧ r.pulsing = true then
        { r with pulsing := false, timeLeft := 0, active := false } else r) } } : State).complete) ∧
  ∀ (g : Rfg) (tag : Tag) (e : GuardEntry), g.entry? tag = some e →
    ((g.quietTest tag).1 = true ↔ e.hotTolerant = true ∨ ∀ i ∈ e.detectors, g.inputHot i = false) ∧
    (g.quietTest tag).2.lines = g.lines ∧ (g.quietTest tag).2.detectors = g.detectors ∧
    ∃ e', (g.quietTest tag).2.entry? tag = some e' ∧ e' = { e with watch := !(g.quietTest tag).1 }

/-! ### Claims, drive and figures (chapters 1, 2 and 6) -/

/-- The route check (R30). At a participant the first step that applies answers, and nothing is marked: UNKNOWN for a MAKE of a
route with no record; ROUTE BUSY for a make route not free, which for a RETRIM is its busy tag alone; NOT HOLDER and then ROUTE
BUSY for a break route this node has part in; NO TRIM at a trim node with no attenuator. Else the records of the two routes
take the tag as busy tag, and the answer is MARKED, or BREAK ONLY with no record of the make route. A node that is no participant
marks the records that carry no busy tag and answers MARKED. -/
def Obligations.RouteCheckAnswers : Prop :=
  ∀ (s : State) (tag : Tag) (make : Nat) (brk : Option Nat) (trimHere : Bool),
    let check := s.routeCheck tag make brk true trimHere
    let unknown : Prop := s.route? make = none ∧ brk = none
    let notFree : Prop := ∃ r, s.route? make = some r ∧ (r.busy ≠ none ∨ (brk ≠ some make ∧ r.state ≠ .idle))
    let part (b : Route) : Prop := ∃ x, brk = some x ∧ s.route? x = some b ∧ s.me ∈ b.plan.participants
    let notHeld : Prop := ∃ b, part b ∧ ¬(b.state = .established ∧ b.holder = some tag.sponsor)
    let breakBusy : Prop := ∃ b, part b ∧ b.busy ≠ none
    let noTrim : Prop := trimHere = true ∧ ∃ r, s.route? make = some r ∧ r.plan.trimAttenuator = none
    let marked (may : Route → Bool) : State := { s with rtb := { s.rtb with routes := s.rtb.routes.map (fun r =>
      if (r.plan.id = make ∨ brk = some r.plan.id) ∧ may r = true then { r with busy := some tag } else r) } }
    (unknown → check = (.refuse .unknown, s)) ∧
    (¬unknown → notFree → check = (.refuse .routeBusy, s)) ∧
    (¬unknown → ¬notFree → notHeld → check = (.refuse .notHolder, s)) ∧
    (¬unknown → ¬notFree → ¬notHeld → breakBusy → check = (.refuse .routeBusy, s)) ∧
    (¬unknown → ¬notFree → ¬notHeld → ¬breakBusy → noTrim → check = (.refuse .noTrim, s)) ∧
    (¬unknown → ¬notFree → ¬notHeld → ¬breakBusy → ¬noTrim →
      check = (if s.route? make = none then .breakOnly else .marked, marked (fun _ => true))) ∧
    s.routeCheck tag make brk false trimHere = (.marked, marked (fun r => r.busy.isNone))

/-- The claim check is taken whole (R5 to R8). The covered set is the settings' switches at their positions, in their order,
each with the partner that no setting names directly after it at the same position, and the trim attenuator last, its position
not yet given. That a member a setting names stands at its own setting's place is the model's choice (log 48). The test of a
switch (R6) takes its steps in order: FAULTY while it or its partner is in FAULT; HELD by another position named on it, or,
with no position given, by any entry but the break route's; FULL at four other entries; HELD by a successor the break route's
entry already carries (R8). The first failing switch's reason answers and nothing is recorded, or every covered switch is
granted, as a new claim of the tag or as the successor of the break route's entry. Every entry that stood keeps its holder,
position and place, and a new one stands after it, which is the model's choice (log 37); nothing but claims changes. -/
def Obligations.ClaimCheckTakenWhole : Prop :=
  (∀ (s : State) (make : Nat) (trimHere : Bool),
    let covered := s.coveredSet make trimHere
    (s.route? make = none → covered = []) ∧
    ∀ r, s.route? make = some r →
      let settings := r.plan.settings
      let named (i : Nat) : Prop := ∃ st ∈ settings, st.switch = i
      let trims (a : Nat) : Prop := trimHere = true ∧ r.plan.trimAttenuator = some a
      (∀ i p, (i, p) ∈ covered ↔ (∃ st ∈ settings, st.switch = i ∧ p = some st.position) ∨
        (∃ st ∈ settings, s.partner? st.switch = some i ∧ ¬named i ∧ p = some st.position) ∨ (trims i ∧ p = none)) ∧
      ((∀ a, trims a → ¬named a) → covered.filter (fun q => decide (∃ st ∈ settings, st.switch = q.1))
        = settings.map (fun st => (st.switch, some st.position))) ∧
      (∀ st ∈ settings, ∀ i, s.partner? st.switch = some i → ¬named i →
        [(st.switch, some st.position), (i, some st.position)] <:+: covered) ∧
      ∀ a, trims a → [(a, none)] <:+ covered) ∧
  (∀ (s : State) (brk : Option Nat) (i : Nat) (want : Option Nat),
    (s.switch? i = none → s.testSwitch brk i want = none) ∧
    ∀ w, s.switch? i = some w →
      let excluded (c : Claim) : Prop := ∃ b, brk = some b ∧ c.holder = .established b
      let faulty : Prop := w.state = .fault ∨ ∃ p x, w.plan.partner = some p ∧ s.switch? p = some x ∧ x.state = .fault
      let held : Prop := (∃ p, want = some p ∧ ∃ c ∈ w.claims,
          (¬excluded c ∧ c.position ≠ some p) ∨ ∃ u ∈ c.successor, u.position ≠ some p) ∨
        (want = none ∧ ∃ c ∈ w.claims, ¬excluded c)
      let full : Prop := 4 ≤ (w.claims.filter (fun c => decide (∀ b ∈ brk, c.holder ≠ .established b))).length
      let taken : Prop := ∃ c ∈ w.claims, excluded c ∧ c.successor ≠ none
      (faulty → s.testSwitch brk i want = some .faulty) ∧
      (¬faulty → held → s.testSwitch brk i want = some .held) ∧
      (¬faulty → ¬held → full → s.testSwitch brk i want = some .full) ∧
      (¬faulty → ¬held → ¬full → taken → s.testSwitch brk i want = some .held) ∧
      (¬faulty → ¬held → ¬full → ¬taken → s.testSwitch brk i want = none)) ∧
  ∀ (s : State) (tag : Tag) (make : Nat) (brk : Option Nat) (trimHere : Bool),
    let covered := s.coveredSet make trimHere
    let t := (s.claimCheck tag make brk trimHere).2
    (∀ pre i p post why, covered = pre ++ (i, p) :: post → (∀ q ∈ pre, s.testSwitch brk q.1 q.2 = none) →
      s.testSwitch brk i p = some why → s.claimCheck tag make brk trimHere = (some why, s)) ∧
    ((∀ q ∈ covered, s.testSwitch brk q.1 q.2 = none) → (covered.map Prod.fst).Nodup →
      (s.claimCheck tag make brk trimHere).1 = none ∧ t = { s with sbc := t.sbc } ∧
      t.sbc.map (fun w => { w with claims := [] }) = s.sbc.map (fun w => { w with claims := [] }) ∧
      (∀ i, i ∉ covered.map Prod.fst → t.switch? i = s.switch? i) ∧
      ∀ i p w, (i, p) ∈ covered → s.switch? i = some w → ∃ v, t.switch? i = some v ∧
        (w.claims.map (fun c => (c.holder, c.position))) <+: (v.claims.map (fun c => (c.holder, c.position))) ∧
        v.claims.length ≤ w.claims.length + 1 ∧ w.state ≠ .fault ∧
        (∀ x, p = some x → ∀ c ∈ w.claims, (∀ b, brk = some b → c.holder ≠ .established b) → c.position = some x) ∧
        ((∃ c ∈ v.claims, c.holder = .pending tag ∧ c.position = p) ∨
          ∃ c ∈ v.claims, ∃ b, brk = some b ∧ c.holder = .established b ∧ c.successor = some { tag := tag, position := p }))

/-- The law of R4 and the requests of the CXE to the bank: at most four entries on a switch, all at one position with the
successors, and at most one claim of a tag and one of a route on a switch. A claim check of a tag that holds no claim keeps it
(R5 to R8). A trim position is fixed and answered FIXED where the tag claims the attenuator, and NO CLAIM changes nothing; it keeps
the law where the position was absent (R9). Conversion answers the number of the tag's pending entries, makes each an established
entry of the route at its position, or at the current position where it had none, and keeps the law where the route claims none of
those switches (R10). Dropping the claims of a tag (R11) and of a route (R12) keep it. -/
def Obligations.ClaimRequestsKeepLaw : Prop :=
  (∀ (s : State) (tag : Tag) (make : Nat) (brk : Option Nat) (trimHere : Bool), s.switchLawful → s.claimsLawful →
    (∀ w ∈ s.sbc, ∀ c ∈ w.claims, tag ∉ c.tags) → ((s.coveredSet make trimHere).map Prod.fst).Nodup →
      (s.claimCheck tag make brk trimHere).2.claimsLawful) ∧
  (∀ (s : State) (tag : Tag) (a code : Nat),
    let t := (s.fixTrim tag a code).2
    (s.claimsLawful → (∀ w ∈ s.sbc, w.plan.index = a → ∀ c ∈ w.claims, (c.holder = .pending tag → c.position = none) ∧
      ∀ u ∈ c.successor, u.tag = tag → u.position = none) → t.claimsLawful) ∧
    ((∀ w, s.switch? a = some w → ∀ c ∈ w.claims, tag ∉ c.tags) → s.fixTrim tag a code = (.noClaim, s)) ∧
    ∀ w, s.switch? a = some w → (∃ c ∈ w.claims, tag ∈ c.tags) → (s.fixTrim tag a code).1 = .fixed ∧
      (∀ i, i ≠ a → t.switch? i = s.switch? i) ∧ t = { s with sbc := t.sbc } ∧
      t.switch? a = some { w with claims := w.claims.map (fun c => { c with
        position := if c.holder = .pending tag then some code else c.position
        successor := c.successor.map (fun u => if u.tag = tag then { u with position := some code } else u) }) }) ∧
  (∀ (s : State) (tag : Tag) (route : Nat),
    let t := (s.convertClaims tag route).2
    (s.convertClaims tag route).1
      = (s.sbc.flatMap (fun w => w.claims.filter (fun c => decide (c.holder = .pending tag)))).length ∧
    t = { s with sbc := s.sbc.map (fun w => { w with claims := w.claims.map (fun c =>
      if c.holder = .pending tag then { c with
        holder := .established route, position := if c.position = none then w.current else c.position } else c) }) } ∧
    (s.claimsLawful → (∀ w ∈ s.sbc, (∃ c ∈ w.claims, c.holder = .pending tag) →
      ∀ c ∈ w.claims, c.holder ≠ .established route) → t.claimsLawful)) ∧
  (∀ (s : State) (tag : Tag), s.claimsLawful → (s.dropTagClaims tag).claimsLawful) ∧
  ∀ (s : State) (route : Nat), s.claimsLawful → (s.dropRouteClaims route).claimsLawful

/-- A drive request (R13, R14, R15, R20, R21): REFUSED outside MOVE or without the tag's claim at the position; FAULT while a
member is in FAULT; AT POSITION and WAIT where every member is there or on its way; else DRIVEN, each member not there and
not on its way set MOVING with its settle time and its wear raised by 1, or by 50 when the context sees a HOT detector. HOT
MOVE then names the requested switch, which for a pair is the model's choice (log 29). No other switch changes. -/
def Obligations.DriveAnswersByState : Prop :=
  ∀ (s : State) (tag : Tag) (inMove : Bool) (index position : Nat),
    let claimed : Prop := ∃ w, s.switch? index = some w ∧
      ∃ c ∈ w.claims, c.holder = .pending tag ∧ c.position = some position
    let members := s.members index
    let there (w : Switch) : Prop := w.state = .still ∧ w.current = some position
    let onItsWay (w : Switch) : Prop := w.state = .moving ∧ w.commanded = some position
    let answer := (s.drive tag inMove index position).1
    let t := (s.drive tag inMove index position).2
    let waits (w : Switch) : List Tag := if tag ∈ w.waiters then w.waiters else w.waiters ++ [tag]
    (inMove = false ∨ ¬claimed → answer = .refused ∧ t = s) ∧
    (inMove = true → claimed → (∃ w ∈ members, w.state = .fault) → (∃ r, answer = .fault r ∧
      (r = .sense ↔ ∃ w ∈ members, w.faultReason = some .sense)) ∧ t = s) ∧
    (inMove = true → claimed → (∀ w ∈ members, there w) → answer = .atPosition ∧ t = s) ∧
    (inMove = true → claimed → (∀ w ∈ members, there w ∨ onItsWay w) → (∃ w ∈ members, ¬there w) → answer = .wait ∧
      t.ctp = s.ctp ∧ ∀ w ∈ members, t.switch? w.plan.index = some (if w.state = .moving then { w with waiters := waits w } else w)) ∧
    (inMove = true → claimed → (∀ w ∈ members, w.state ≠ .fault) → (∃ w ∈ members, ¬there w ∧ ¬onItsWay w) →
      ∃ hot, answer = .driven hot ∧
        (hot = true ↔ ∃ e, s.rfg.entry? tag = some e ∧ ∃ i ∈ e.detectors, s.rfg.inputHot i = true) ∧
        (hot = true → ∀ e ∈ t.ctp.events, e.name = .hotMove → e.raised = true ∧ e.source = some (.switch index)) ∧
        ∀ w ∈ members, (there w → t.switch? w.plan.index = some w) ∧
          (onItsWay w → t.switch? w.plan.index = some { w with waiters := waits w }) ∧
          (¬there w → ¬onItsWay w → ∃ worn, t.switch? w.plan.index = some { w with
            commanded := some position, current := none, state := .moving, settleLeft := w.plan.settleTime,
            driveLines := some position, wear := min 4294967295 (w.wear + if hot then 50 else 1), worn := worn,
            waiters := waits w } ∧
            (worn = true ↔ w.worn = true ∨ ∃ n, w.plan.lifeLimit = some n ∧ n ≤ min 4294967295 (w.wear + if hot then 50 else 1)) ∧
            (worn = true → w.worn = false → ∀ e ∈ t.ctp.events, e.name = .worn → e.raised = true))) ∧
    (∀ i, (∀ w ∈ members, w.plan.index ≠ i) → t.switch? i = s.switch? i) ∧
    t = { s with sbc := t.sbc, ctp := t.ctp }

/-- The trim computation (R117): SHORT at code 0 for a negative attenuation, the nearest code with an exact half to the
higher, LONG at the maximum code; with no flag the achieved loss is within half a step of the target. -/
def Obligations.TrimWithinHalfStep : Prop :=
  ∀ (target sum step maxCode : Nat), 0 < step →
    let o := trimFor target sum step maxCode
    let raw := (2 * (target - sum) + step) / (2 * step)
    (target < sum → o.code = 0 ∧ o.flag = .short) ∧
    (sum ≤ target → maxCode < raw → o.code = maxCode ∧ o.flag = .long) ∧
    (sum ≤ target → raw ≤ maxCode → o.code = raw ∧ o.flag = .none) ∧
    o.achieved = sum + o.code * step ∧ o.code ≤ maxCode ∧
    (o.flag = .none → -(step : Int) ≤ 2 * ((target : Int) - o.achieved) ∧ 2 * ((target : Int) - o.achieved) < step) ∧
    (sum ≤ 160000 → maxCode ≤ 255 → step ≤ 100 → o.achieved ≤ 185500)

/-- The loss of a calibration table (R113, R114): the end losses outside it, a point's loss on it, and between two adjacent
points the rounded interpolation, an exact half away from zero, which lies between the two losses. -/
def Obligations.TableLossInterpolates : Prop :=
  ∀ (points : List CalPoint) (f : Nat), (points.map CalPoint.frequency).Pairwise (· < ·) →
    (∀ a rest, points = a :: rest → f ≤ a.frequency → tableLoss f points = a.loss) ∧
    (∀ pre a, points = pre ++ [a] → a.frequency ≤ f → tableLoss f points = a.loss) ∧
    (∀ a ∈ points, f = a.frequency → tableLoss f points = a.loss) ∧
    ∀ pre a b post, points = pre ++ a :: b :: post → a.frequency < f → f < b.frequency →
      let num : Int := ((b.loss : Int) - a.loss) * ((f : Int) - a.frequency)
      let den := b.frequency - a.frequency
      let q : Nat := (2 * num.natAbs + den) / (2 * den)
      (tableLoss f points : Int) = a.loss + num.sign * q ∧
      min a.loss b.loss ≤ tableLoss f points ∧ tableLoss f points ≤ max a.loss b.loss ∧
      (a.loss ≤ 20000 → b.loss ≤ 20000 → tableLoss f points ≤ 20000)

/-- A RELEASE heard (R37, R38): honoured for the holder's ESTABLISHED route and, with force, for an ORPHANED one, whose record
goes IDLE with its busy tag kept and whose established claims go, each that carries a successor becoming the successor's pending
claim and every other claim staying (R12); else a stray is counted where there is a record. -/
def Obligations.ReleaseHonouredOrStray : Prop :=
  ∀ (s : State) (sender route : Nat) (force : Bool),
    let t := (s.releaseHeard sender route force).2
    (s.route? route = none → s.releaseHeard sender route force = (.noRecord, s)) ∧
    ∀ r, s.route? route = some r →
      let honoured : Prop := (r.state = .established ∧ r.holder = some sender) ∨ (r.state = .orphaned ∧ force = true)
      (honoured → (s.releaseHeard sender route force).1 = .honoured ∧
        t.route? route = some { r with state := .idle, holder := none, established := [], frequency := none,
                                       target := none, achieved := none, flag := .none, hotMade := false } ∧
        (∀ x, x ≠ route → t.route? x = s.route? x) ∧
        (∀ w ∈ t.sbc, ∀ c ∈ w.claims, c.holder ≠ .established route) ∧
        (∀ i w, s.switch? i = some w → ∃ v, t.switch? i = some v ∧ routeClaimsDropped route w.claims v.claims) ∧
        t.sbc.map (fun w => { w with claims := [] }) = s.sbc.map (fun w => { w with claims := [] }) ∧
        t.rtb.stray = s.rtb.stray ∧ t = { s with rtb := t.rtb, sbc := t.sbc }) ∧
      (¬honoured → s.releaseHeard sender route force =
        (.stray, { s with rtb := { s.rtb with stray := min 65535 (s.rtb.stray + 1) } }))

/-! ### Changeovers (chapter 4) -/

/-- A PROPOSE heard (R65, R67, R68): passed over, rejected, not placed, or opened as a context in ANSWER with quiet remaining and
linger 0 (log 30). A participant's own report is OBJECT with the reason the route check or the claim check gives, ACCEPT 0 at a
BREAK ONLY node that is not the trim node, and else ACCEPT with the segment loss at the PROPOSE's frequency (R111, R112). The
node's own opens in its slot's reservation and puts the slot in OPEN, and a WAITING cancel then withdraws it and is TAKEN (R135,
R139), an own report OBJECT staying as it is, which is deduced (log 28); or it is rejected and its request not opened. -/
def Obligations.ProposeHeardOpensOrCounts : Prop :=
  ∀ (s : State) (sponsor : Nat) (p : Propose),
    let tag : Tag := { sponsor := sponsor, seq := p.seq }
    let t := s.proposeHeard sponsor p
    let trimHere : Bool := decide (p.trimNode = some s.me)
    let check := s.routeCheck tag p.make p.brk true trimHere
    let claim := check.2.claimCheck tag p.make (p.brk.filter (fun b => (s.route? b).isSome)) trimHere
    let disagrees : Prop := ¬p.participants.Nodup ∨ (∃ n, p.trimNode = some n ∧ n ∉ p.participants) ∨
      (p.trimNode = none ∧ p.target ≠ none) ∨ (p.trimNode ≠ none ∧ p.target = none)
    let withdrawn (c : Context) : Context := { c with withdrawal := .pending, kept := c.report, report := (match c.report with
      | some (.object why) => some (.object why)
      | _ => some .withdraw) }
    let opened (reservations : List SlotName) (stands : Context → Context) : Prop := ∃ c, t.cxe =
        { s.cxe with contexts := s.cxe.contexts ++ [stands c], reservations := reservations } ∧
      c.tag = tag ∧ c.phase = .answer ∧ c.make = p.make ∧ c.brk = p.brk ∧ c.frequency = p.frequency ∧ c.target = p.target ∧
      c.trimNode = p.trimNode ∧ c.participants = p.participants ∧ c.hotTolerant = p.hotTolerant ∧ c.window = p.window ∧
      c.kind = (if p.brk = none then .make else if p.brk = some p.make then .retrim else .exchange) ∧
      c.standing = p.participants.map (fun n => { node := n, rank := .none, accept := none, settled := none }) ∧
      c.waitSet = [] ∧ c.driven = [] ∧ c.hotMark = false ∧ c.trim = none ∧ c.withdrawal = .none ∧ c.kept = none ∧
      c.close = none ∧ c.passedCommit = false ∧ c.quietWait = false ∧ c.quietLeft = 0 ∧ c.linger = 0 ∧
      (s.me ∉ p.participants → c.role = .sponsorOnly ∧ c.report = none ∧ t.sbc = s.sbc ∧
        t.rtb = (s.routeCheck tag p.make p.brk false trimHere).2.rtb) ∧
      (s.me ∈ p.participants →
        (∀ why, check.1 = .refuse why →
          c.role = .participant ∧ c.report = some (.object why) ∧ t.sbc = s.sbc ∧ t.rtb = s.rtb) ∧
        (check.1 = .breakOnly → c.role = .breakOnly ∧ t.sbc = s.sbc ∧ t.rtb = check.2.rtb ∧
          c.report = some (if trimHere = true then .object .noTrim else .accept 0)) ∧
        (check.1 = .marked → c.role = .participant ∧ t.rtb = check.2.rtb ∧
          (∀ why, claim.1 = some why → c.report = some (.object why) ∧ t.sbc = s.sbc) ∧
          (claim.1 = none → t.sbc = claim.2.sbc ∧ ∃ loss, c.report = some (.accept loss) ∧
            ((∀ r, s.route? p.make = some r → r.plan.table = none) → loss = 0) ∧
            ∀ r n table, s.route? p.make = some r → r.plan.table = some n → s.ltu.find? (fun x => x.index == n) = some table →
              loss = tableLoss p.frequency table.points))) ∧
      t.biu = s.biu ∧ t.rfg = s.rfg ∧ t.ctp = s.ctp ∧ s.keeps t
    (s.me ∉ p.participants → sponsor ≠ s.me → t = s) ∧
    (s.me ∈ p.participants → sponsor ≠ s.me → (disagrees ∨ ∃ c ∈ s.cxe.contexts, c.tag = tag) →
      t = { s with cxe := { s.cxe with rejected := min 65535 (s.cxe.rejected + 1) } }) ∧
    (s.me ∈ p.participants → sponsor ≠ s.me → ¬disagrees → (∀ c ∈ s.cxe.contexts, c.tag ≠ tag) →
      (6 ≤ s.cxe.contexts.length + s.cxe.reservations.length →
        t = { s with cxe := { s.cxe with unplaced := min 65535 (s.cxe.unplaced + 1) } }) ∧
      (s.cxe.contexts.length + s.cxe.reservations.length < 6 → opened s.cxe.reservations id ∧ t.spu = s.spu)) ∧
    ∀ name, sponsor = s.me → (s.slot name).state = .sending → (s.slot name).sent = true →
      (name = .b → ¬(s.spu.slotA.state = .sending ∧ s.spu.slotA.sent = true)) →
      let free : List SlotName := s.cxe.reservations.filter (fun n => n != name)
      ((disagrees ∨ ∃ c ∈ s.cxe.contexts, c.tag = tag) → t = ({ s with cxe := { s.cxe with
        rejected := min 65535 (s.cxe.rejected + 1), reservations := free } } : State).proposeNotOpened) ∧
      (¬disagrees → (∀ c ∈ s.cxe.contexts, c.tag ≠ tag) → s.cxe.contexts.length + free.length < 6 →
        ((s.slot name).cancel = .none → opened free id ∧
          t.spu = (s.setSlot name { s.slot name with state := .opened }).spu) ∧
        ((s.slot name).cancel = .waiting → (s.slot name).tag = some tag → opened free withdrawn ∧
          t.spu = (s.setSlot name { s.slot name with state := .opened, cancel := .taken }).spu))

/-- Stage entries heard (R71, R73, R77, R80). An entry of a tag with no context, of another make route, for a closed context, or
from a sender that is neither participant nor sponsor changes nothing. A participant's entry raises its standing and never lowers
it. An OBJECT of a participant before MOVE, a FAIL of a participant, and a WITHDRAW of the sponsor before MOVE close the context
FAILED, the sender the failing node (log 16). Else the tally is tested: every standing ACCEPT or higher takes ANSWER to COLD, every
one QUIET or higher COLD to MOVE, every one SETTLED MOVE to DONE, as far as the standings reach on the one entry. A participant's
record that leaves out an open context it has reported on closes it NO ANSWER (R72; log 15). -/
def Obligations.StageEntriesMoveContexts : Prop :=
  (∀ (s : State) (sender : Nat) (e : StageEntry),
    let t := s.takeEntry sender e
    (s.context? e.tag = none → t = s) ∧
    ∀ c, s.context? e.tag = some c →
      let part : Prop := sender ∈ c.participants
      let sponsor : Prop := sender = c.tag.sponsor
      let early : Prop := c.phase = .answer ∨ c.phase = .cold
      let raised (x : Standing) : Standing := (match e.report with
        | .accept v => if x.rank = .none then { x with rank := .accept, accept := some v } else x
        | .quiet => if x.rank = .none ∨ x.rank = .accept then { x with rank := .quiet } else x
        | .settled flag hot v =>
          if x.rank = .settled then x
          else { x with rank := .settled, settled := some { flag := flag, hot := hot, achieved := v } }
        | _ => x)
      let heard (x : Context) : Context := if sender ∈ c.participants then
        { x with standing := x.standing.map (fun y => if y.node = sender then raised y else y) } else x
      let s1 : State := { s with cxe := { s.cxe with
        contexts := s.cxe.contexts.map (fun x => if x.tag = e.tag then heard x else x) } }
      let closes (reason : CloseReason) (why : Option ObjectReason) : Prop :=
        t = s.closeFailed c { reason := reason, node := some sender, objection := why }
      let all (ranks : List Rank) : Prop := ∀ x ∈ (heard c).standing, x.rank ∈ ranks
      (c.make ≠ e.make ∨ (c.phase = .done ∨ c.phase = .failed) ∨ (¬part ∧ ¬sponsor) → t = s) ∧
      (c.make = e.make → (early ∨ c.phase = .move) → (part ∨ sponsor) →
        (∀ why, e.report = .object why → part → early → closes .objected (some why)) ∧
        (∀ why, e.report = .fail why → part → closes (match why with
          | .hot => .hot
          | .sense => .sense
          | .skew => .skew
          | .noAnswer => .noAnswer) none) ∧
        (e.report = .withdraw → sponsor → early → closes .withdrawn none) ∧
        ((∀ why, e.report = .object why → ¬part ∨ c.phase = .move) → (∀ why, e.report = .fail why → ¬part) →
          (e.report = .withdraw → ¬sponsor ∨ c.phase = .move) →
          (c.phase = .answer → ¬all [.accept, .quiet, .settled] → t = s1) ∧
          (c.phase = .cold → ¬all [.quiet, .settled] → t = s1) ∧
          (c.phase = .move → ¬all [.settled] → t = s1) ∧
          (c.phase = .answer → all [.accept, .quiet, .settled] → ¬all [.quiet, .settled] → t = s1.enterCold (heard c)) ∧
          (c.phase = .cold → all [.quiet, .settled] → ¬all [.settled] → t = s1.enterMove (heard c)) ∧
          (c.phase = .move → all [.settled] → t = s1.enterDone (heard c)) ∧
          (c.phase = .answer → all [.quiet, .settled] → ∃ d, (s1.enterCold (heard c)).context? e.tag = some d ∧
            (¬all [.settled] → t = (s1.enterCold (heard c)).enterMove d) ∧
            (all [.settled] → ∃ f, ((s1.enterCold (heard c)).enterMove d).context? e.tag = some f ∧
              t = ((s1.enterCold (heard c)).enterMove d).enterDone f)) ∧
          (c.phase = .cold → all [.settled] → ∃ f, (s1.enterMove (heard c)).context? e.tag = some f ∧
            t = (s1.enterMove (heard c)).enterDone f)))) ∧
  ∀ (s : State) (sender : Nat) (entries : List StageEntry), s.cxe.lawful →
    let freed (c : Context) : Bool := c.isOpen && c.participants.contains sender &&
      (match c.standing.find? (fun x => x.node == sender) with
       | some x => x.rank != .none
       | none => false) && entries.all (fun e => e.tag != c.tag)
    (s.participantFreed sender entries).cxe.contexts = s.cxe.contexts.map (fun c => if freed c = true then { c with
      phase := .failed, quietWait := false, linger := 4,
      close := some { reason := .noAnswer, node := some sender, objection := none } } else c)

/-- Entry to COLD (R75, R76, R97, R98). At a SPONSOR ONLY node only the phase changes. Elsewhere a guard entry opens that names
the inhibit lines and detectors of the make and break routes this node has part in, each line once, and takes a user of each
line; quiet remaining becomes the quiet timeout, and the own report becomes QUIET where the quiet test passes at once, else the
entry watches. At the trim node with every ACCEPT value the trim outcome is kept and the attenuator's claim fixed at the code
(R9, R116); where a value is missing the own report becomes FAIL NO ANSWER and the wait ends. The report kept aside changes
instead while a WITHDRAW stands (R86). Nothing moves, and nothing else changes. -/
def Obligations.EntryToColdOpensWindow : Prop :=
  ∀ (s : State) (c : Context), s.context? c.tag = some c →
    let t := s.enterCold c
    let seen (x : Context) : Option Report := if x.report = some .withdraw then x.kept else x.report
    let names (list : RoutePlan → List Nat) (i : Nat) : Prop := ∃ x r, (x = c.make ∨ c.brk = some x) ∧ s.route? x = some r ∧
      s.me ∈ r.plan.participants ∧ i ∈ list r.plan
    let sum : Nat := (c.standing.map (fun x => x.accept.getD 0)).sum
    (c.role = .sponsorOnly → t = { s with cxe := { s.cxe with contexts := s.cxe.contexts.map (fun x =>
      if x.tag = c.tag then { x with phase := .cold } else x) } }) ∧
    (c.role ≠ .sponsorOnly → s.rfg.entry? c.tag = none → ∃ e d, t.context? c.tag = some d ∧
      t = { s with cxe := t.cxe, rfg := t.rfg, sbc := t.sbc } ∧
      t.cxe = { s.cxe with contexts := t.cxe.contexts } ∧ (∀ x, x ≠ c.tag → t.context? x = s.context? x) ∧
      t.rfg = { s.rfg with
        guards := s.rfg.guards ++ [e]
        lines := s.rfg.lines.map (fun l => if l.line ∈ e.lines then { l with users := l.users + 1, asserted := true } else l) } ∧
      e.tag = c.tag ∧ e.hotTolerant = c.hotTolerant ∧ e.lines.Nodup ∧ e.detectors.Nodup ∧
      (∀ i, i ∈ e.lines ↔ names RoutePlan.inhibits i) ∧ (∀ i, i ∈ e.detectors ↔ names RoutePlan.detectors i) ∧
      d = { c with phase := .cold, quietLeft := s.cxe.quietTimeout, quietWait := d.quietWait, report := d.report,
                   kept := d.kept, trim := d.trim } ∧
      (c.report = some .withdraw ↔ d.report = some .withdraw) ∧ (c.report ≠ some .withdraw → d.kept = c.kept) ∧
      let passes : Prop := c.hotTolerant = true ∨ ∀ i ∈ e.detectors, s.rfg.inputHot i = false
      let trims (a : Nat) : Prop := c.trimNode = some s.me ∧ ∃ r, s.route? c.make = some r ∧ r.plan.trimAttenuator = some a
      let complete (w : Switch) (a : Nat) : Prop := s.switch? a = some w ∧ ∀ x ∈ c.standing, x.accept ≠ none
      ((∀ a, trims a → ∃ w, complete w a) →
        (∀ v, seen c = some (.accept v) → passes → seen d = some .quiet ∧ d.quietWait = false ∧ e.watch = false) ∧
        (∀ v, seen c = some (.accept v) → ¬passes → seen d = seen c ∧ d.quietWait = true ∧ e.watch = true)) ∧
      ((∀ a, ¬trims a) → t.sbc = s.sbc ∧ d.trim = c.trim) ∧
      (∀ a w, trims a → complete w a →
        d.trim = some (trimFor (c.target.getD 0) sum w.plan.step w.plan.maxCode) ∧
        t.sbc = (s.fixTrim c.tag a (trimFor (c.target.getD 0) sum w.plan.step w.plan.maxCode).code).2.sbc) ∧
      (∀ a, trims a → (∀ w, ¬complete w a) → t.sbc = s.sbc ∧ d.trim = c.trim ∧ e.watch = false ∧
        ∀ v, seen c = some (.accept v) → seen d = some (.fail .noAnswer) ∧ d.quietWait = false))

/-- Entry to MOVE (R12, R32, R78, R79): passed commit is set; the break route's record goes IDLE and its established claims
go, a successor becoming its tag's pending claim. A PARTICIPANT then asks for its drives: the settings' switches in their
order, a pair once by the member first named, which is the model's choice (log 38), and the trim attenuator last at the trim
code. An answer WAIT adds its switch to the wait set, DRIVEN adds it to the driven set too and its hot mark to the context's,
and the first FAULT or REFUSED turns the own report QUIET into FAIL, REFUSED as SENSE. A report that is still QUIET with
nothing to wait for becomes SETTLED with the trim outcome and the hot mark. While a WITHDRAW stands the report kept aside
changes instead (R86). A node of another role drives nothing. Other contexts and routes, the reservations and the counts of
stray and refused messages stay. -/
def Obligations.EntryToMoveCommits : Prop :=
  ∀ (s : State) (c : Context), s.context? c.tag = some c →
    let t := s.enterMove c
    let down : State := (match c.brk with
      | some b => s.breakDown b
      | none => s)
    let drives := State.driveAll c.tag (s.driveList c) down
    let answers := if c.role = .participant then drives.1 else []
    let seen (x : Context) : Option Report := if x.report = some .withdraw then x.kept else x.report
    let failing (a : DriveAnswer) : Prop := a = .refused ∨ ∃ r, a = .fault r
    (∃ d, t.context? c.tag = some d ∧
      d = { c with phase := .move, passedCommit := true, quietWait := false, waitSet := d.waitSet, driven := d.driven,
                   hotMark := d.hotMark, report := d.report, kept := d.kept } ∧
      (∀ i, i ∈ d.waitSet ↔ i ∈ c.waitSet ∨ ∃ a, (i, a) ∈ answers ∧ (a = .wait ∨ ∃ hot, a = .driven hot)) ∧
      (∀ i, i ∈ d.driven ↔ i ∈ c.driven ∨ ∃ hot, (i, .driven hot) ∈ answers) ∧
      (d.hotMark = true ↔ c.hotMark = true ∨ ∃ i, (i, .driven true) ∈ answers) ∧
      (c.report = some .withdraw ↔ d.report = some .withdraw) ∧ (c.report ≠ some .withdraw → d.kept = c.kept) ∧
      (seen c ≠ some .quiet → seen d = seen c) ∧
      (seen c = some .quiet →
        (∀ pre i a post, answers = pre ++ (i, a) :: post → (∀ q ∈ pre, ¬failing q.2) →
          (a = .refused ∨ a = .fault .sense → seen d = some (.fail .sense)) ∧
          (a = .fault .skew → seen d = some (.fail .skew))) ∧
        ((∀ q ∈ answers, ¬failing q.2) → d.waitSet ≠ [] → seen d = some .quiet) ∧
        ((∀ q ∈ answers, ¬failing q.2) → d.waitSet = [] → seen d = some (match c.trim with
          | some o => .settled o.flag d.hotMark o.achieved
          | none => .settled .none d.hotMark 0)))) ∧
    (c.role = .participant → t.sbc = drives.2.sbc ∧ t.ctp = drives.2.ctp) ∧
    (c.role ≠ .participant → t.sbc = down.sbc ∧ t.ctp = s.ctp ∧
      t.sbc.map (fun w => { w with claims := [] }) = s.sbc.map (fun w => { w with claims := [] })) ∧
    (∀ r, s.route? c.make = some r → (r.plan.settings.map Setting.switch).Nodup →
      (∀ i p, (i, p) ∈ s.driveList c ↔
        (∃ pre st post, r.plan.settings = pre ++ st :: post ∧ st.switch = i ∧ st.position = p ∧
          ∀ q ∈ pre, s.partner? i ≠ some q.switch) ∨
        (c.trimNode = some s.me ∧ r.plan.trimAttenuator = some i ∧ ∃ o, c.trim = some o ∧ p = o.code)) ∧
      ∃ pre last, s.driveList c = pre ++ last ∧ pre.Sublist (r.plan.settings.map (fun st => (st.switch, st.position))) ∧
        (last = [] ∨ ∃ a o, last = [(a, o.code)] ∧ r.plan.trimAttenuator = some a ∧ c.trim = some o)) ∧
    (s.route? c.make = none → s.driveList c = []) ∧
    (∀ b r, c.brk = some b → s.route? b = some r → r.state ≠ .idle →
      t.route? b = some { r with state := .idle, holder := none, established := [], frequency := none, target := none,
                                 achieved := none, flag := .none, hotMade := false } ∧
      (∀ w ∈ t.sbc, ∀ e ∈ w.claims, e.holder ≠ .established b) ∧
      ∀ i w, s.switch? i = some w → ∃ v, t.switch? i = some v ∧ routeClaimsDropped b w.claims v.claims) ∧
    ((∀ b r, c.brk = some b → s.route? b = some r → r.state = .idle) → down = s) ∧
    (∀ x, c.brk ≠ some x → t.route? x = s.route? x) ∧ t.rtb = { s.rtb with routes := t.rtb.routes } ∧
    t.cxe = { s.cxe with contexts := t.cxe.contexts } ∧
    (∀ tag, tag ≠ c.tag → t.context? tag = s.context? tag) ∧ t.spu = s.spu ∧ t.biu = s.biu ∧ t.rfg = s.rfg ∧ s.keeps t

/-- Entry to DONE (R10, R31, R33, R34, R35, R81, R82): where this node holds a record of the make route it is ESTABLISHED with the
sponsor as holder and the figures of the PROPOSE, and every pending claim of the tag becomes an established claim of it at the
same position, or at the switch's current position where it had none. The achieved loss and flag are those of the trim node's
SETTLED, or with no trim node the sum of the ACCEPT values and NONE, absent where one is missing; HOT MADE is set where a SETTLED
carried the hot mark. The busy tags go, the lines are released, the ready line is pulsed, and the close record is OK with linger 4.
Where this node sponsors the context the SPU takes the hand-off with these figures. No switch moves, and the other contexts and the
counts of stray and refused messages stay. -/
def Obligations.EntryToDoneEstablishes : Prop :=
  ∀ (s : State) (c : Context), s.context? c.tag = some c →
    let t := s.enterDone c
    t.context? c.tag = some { c with phase := .done, quietWait := false, linger := 4,
                                     close := some { reason := .ok, node := none, objection := none } } ∧
    (∃ achieved flag hot,
      (∀ n x r, c.trimNode = some n → c.standing.find? (fun y => y.node == n) = some x → x.settled = some r →
        achieved = some r.achieved ∧ flag = r.flag) ∧
      (c.trimNode = none → flag = .none ∧
        ((∀ x ∈ c.standing, x.accept ≠ none) → achieved = some ((c.standing.map (fun x => x.accept.getD 0)).sum)) ∧
        ((∃ x ∈ c.standing, x.accept = none) → achieved = none)) ∧
      (hot = true ↔ ∃ x ∈ c.standing, ∃ r, x.settled = some r ∧ r.hot = true) ∧
      (∀ r, s.route? c.make = some r → t.route? c.make = some { r with
        state := .established, holder := some c.tag.sponsor, established := c.participants,
        frequency := some c.frequency, target := c.target, achieved := achieved, flag := flag,
        hotMade := hot, busy := if r.busy = some c.tag then none else r.busy }) ∧
      (c.tag.sponsor = s.me → s.handsOver t {
        tag := c.tag, record := { reason := .ok, node := none, objection := none }, done := true,
        passedCommit := c.passedCommit, achieved := achieved, flag := flag, hotMade := hot, target := c.target,
        withdrawalSent := decide (c.withdrawal = .sent) })) ∧
    (∀ r, s.route? c.make = some r →
      t.sbc = s.sbc.map (fun w => { w with claims := w.claims.map (fun e => if e.holder = .pending c.tag then { e with
        holder := .established c.make, position := if e.position = none then w.current else e.position } else e) }) ∧
      (∀ w ∈ t.sbc, ∀ e ∈ w.claims, e.holder ≠ .pending c.tag) ∧
      (∀ l, r.plan.ready = some l → t.rfg.ready = s.rfg.ready.map (fun y =>
        if y.line = l then { y with pulsing := true, timeLeft := s.rfg.pulseWidth, active := true } else y)) ∧
      (r.plan.ready = none → t.rfg.ready = s.rfg.ready)) ∧
    (s.route? c.make = none → t.sbc = s.sbc ∧ t.rfg.ready = s.rfg.ready) ∧
    (∀ x, x ≠ c.make → t.route? x = (s.route? x).map (fun r => if r.busy = some c.tag then { r with busy := none } else r)) ∧
    (∀ r ∈ t.rtb.routes, r.busy ≠ some c.tag) ∧ t.rtb = { s.rtb with routes := t.rtb.routes } ∧
    (∀ x, x ≠ c.tag → t.context? x = s.context? x) ∧
    t.cxe = { s.cxe with contexts := t.cxe.contexts, reservations := t.cxe.reservations } ∧
    (c.tag.sponsor ≠ s.me → t.cxe.reservations = s.cxe.reservations) ∧
    (∀ e, s.rfg.entry? c.tag = some e → t.rfg.guards = s.rfg.guards.filter (fun x => x.tag != c.tag) ∧
      t.rfg.lines = s.rfg.lines.map (fun l => if l.line ∈ e.lines then
        { l with users := l.users - 1, asserted := decide (1 < l.users) } else l)) ∧
    (s.rfg.entry? c.tag = none → t.rfg.guards = s.rfg.guards ∧ t.rfg.lines = s.rfg.lines) ∧
    t.rfg.detectors = s.rfg.detectors ∧
    t.sbc.map (fun w => { w with claims := [] }) = s.sbc.map (fun w => { w with claims := [] }) ∧
    s.keeps t ∧ (c.tag.sponsor ≠ s.me → t.spu = s.spu ∧ t.biu = s.biu ∧ t.ctp = s.ctp)

/-- A close FAILED and a settle outcome told. At the close (R82 to R84, R11, R31) the context keeps its own report and its
sets and lingers 4 frame ends; its pending claims and successors go and every other claim and successor stays where it was;
its busy tags go; its lines are released in COLD, and in MOVE only where it has driven nothing (R99, R151); where this node
sponsors it, the SPU takes the hand-off with the close record, the commit point, the target and whether a withdrawal was SENT.
A settle outcome (R79, R19) takes the unit's switches from the wait set and the driven set; in MOVE a report still QUIET
becomes FAIL at a fault and SETTLED when the wait set empties. At a closed context it takes them from both sets, which of the
wait set is the model's choice (log 34); at one closed FAILED the lines are released when the driven set empties, and a closed
context with linger 0 and nothing driven is freed from the table and from every waiter set (R85, R151). -/
def Obligations.ClosesAndOutcomesTakeDown : Prop :=
  (∀ (s : State) (c : Context) (record : CloseRecord), s.context? c.tag = some c →
    let t := s.closeFailed c record
    t.context? c.tag = some { c with phase := .failed, quietWait := false, linger := 4, close := some record } ∧
    (∀ x, x ≠ c.tag → t.context? x = s.context? x) ∧
    (∀ w ∈ t.sbc, ∀ e ∈ w.claims, e.holder ≠ .pending c.tag ∧ ∀ u ∈ e.successor, u.tag ≠ c.tag) ∧
    t.sbc.map (fun w => { w with claims := [] }) = s.sbc.map (fun w => { w with claims := [] }) ∧
    (∀ i w, s.switch? i = some w → ∃ v, t.switch? i = some v ∧
      v.claims = (w.claims.filter (fun e => e.holder != .pending c.tag)).map (fun e =>
        { e with successor := e.successor.filter (fun x => x.tag != c.tag) })) ∧
    t.rtb = { s.rtb with routes := s.rtb.routes.map (fun r => if r.busy = some c.tag then { r with busy := none } else r) } ∧
    t.cxe = { s.cxe with contexts := t.cxe.contexts, reservations := t.cxe.reservations } ∧
    (c.phase = .cold ∨ (c.phase = .move ∧ c.driven = []) → s.rfg.releasedFor t.rfg c.tag) ∧
    (c.phase = .answer ∨ (c.phase = .move ∧ c.driven ≠ []) → t.rfg = s.rfg) ∧ s.keeps t ∧
    (c.tag.sponsor ≠ s.me → t.spu = s.spu ∧ t.biu = s.biu ∧ t.ctp = s.ctp) ∧
    (c.tag.sponsor = s.me → s.handsOver t {
      tag := c.tag, record := record, done := false, passedCommit := c.passedCommit, achieved := none, flag := .none,
      hotMade := false, target := c.target, withdrawalSent := decide (c.withdrawal = .sent) })) ∧
  ∀ (s : State) (report : SettleReport) (tag : Tag),
    let t := s.tellOutcome report tag
    (s.context? tag = none → t = s) ∧
    ∀ c, s.context? tag = some c →
      let left (set : List Nat) : List Nat := set.filter (fun i => i ∉ report.switches)
      let seen (x : Context) : Option Report := if x.report = some .withdraw then x.kept else x.report
      (∀ x, x ≠ tag → t.context? x = s.context? x) ∧
      t.sbc.map (fun w => { w with waiters := [] }) = s.sbc.map (fun w => { w with waiters := [] }) ∧
      t.rtb = s.rtb ∧ t.spu = s.spu ∧ t.ctp = s.ctp ∧ (s.biu.busState ≠ .draining → t.biu = s.biu) ∧ s.keeps t ∧
      (c.phase = .answer ∨ c.phase = .cold ∨ c.phase = .move → t.rfg = s.rfg ∧ t.sbc = s.sbc ∧
        ∃ d, t.context? tag = some d ∧
          d = { c with waitSet := left c.waitSet, driven := left c.driven, report := d.report, kept := d.kept } ∧
          (c.report = some .withdraw ↔ d.report = some .withdraw) ∧ (c.report ≠ some .withdraw → d.kept = c.kept) ∧
          (c.phase ≠ .move ∨ seen c ≠ some .quiet → seen d = seen c) ∧
          (c.phase = .move → seen c = some .quiet →
            (report.outcome = .right → left c.waitSet ≠ [] → seen d = some .quiet) ∧
            (report.outcome = .right → left c.waitSet = [] → seen d = some (match c.trim with
              | some o => .settled o.flag c.hotMark o.achieved
              | none => .settled .none c.hotMark 0)) ∧
            (report.outcome = .sense → seen d = some (.fail .sense)) ∧
            (report.outcome = .skew → seen d = some (.fail .skew)))) ∧
      (c.phase = .done ∨ c.phase = .failed →
        (c.phase = .failed → c.driven ≠ [] → left c.driven = [] → s.rfg.releasedFor t.rfg tag) ∧
        (c.phase = .done ∨ c.driven = [] ∨ left c.driven ≠ [] → t.rfg = s.rfg) ∧
        (c.linger = 0 → left c.driven = [] → t.context? tag = none ∧ ∀ w ∈ t.sbc, tag ∉ w.waiters) ∧
        (c.linger ≠ 0 ∨ left c.driven ≠ [] → t.sbc = s.sbc ∧
          t.context? tag = some { c with waitSet := left c.waitSet, driven := left c.driven }))

/-! ### Notices and events (chapter 10) -/

/-- A notice joins at the young end, or takes the newest one's place in a full queue with one loss more (R178). A firing
raises a lowered event afresh, and counts on a raised one (R181). Each changes only its own part of the port. -/
def Obligations.NoticesAndFirings : Prop :=
  (∀ (s : State) (n : Notice),
    (s.ctp.notices.length ≤ 15 → s.notice n =
      { s with ctp := { s.ctp with notices := s.ctp.notices ++ [{ n with lost := 0 }] } }) ∧
    (∀ older newest, s.ctp.notices = older ++ [newest] → older.length = 15 → s.notice n =
      { s with ctp := { s.ctp with notices := older ++ [{ n with lost := min 255 (newest.lost + 1) }] } })) ∧
  ∀ (s : State) (name : EventName) (source : EventSource), s.fire name source =
    { s with ctp := { s.ctp with events := s.ctp.events.map (fun e =>
      if e.name = name then { e with
        raised := true, repeats := if e.raised then min 255 (e.repeats + 1) else 0, source := some source } else e) } }

/-! ### What every step keeps, and the wire formats -/

/-- Every step keeps the canonical form of the configuration memory. -/
def Obligations.MemoryCanonicalKept : Prop :=
  ∀ s t : State, Memory.wf s.mem = true → step s = .next t → Memory.wf t.mem = true

/-- Every step keeps the guard law, that an inhibit line is asserted exactly while some guard entry names it (R97, R99), and
the table laws: no two contexts hold one tag and at most six places are held or reserved (R63, R64), no two switch
records have one index (R1, R190), and no two route records have one id (R26). -/
def Obligations.GuardAndTableLawsKept : Prop :=
  (∀ s t : State, s.rfg.lawful → step s = .next t → t.rfg.lawful) ∧
    (∀ s t : State, s.cxe.lawful → step s = .next t → t.cxe.lawful) ∧
    (∀ s t : State, s.switchLawful → step s = .next t → t.switchLawful) ∧
    ∀ s t : State, s.routesLawful → step s = .next t → t.routesLawful

/-- Every step keeps the law of R99 across the Changeover Engine and the RF Guard: a guard entry stands exactly while a context
with its tag is in COLD or MOVE, or closed in MOVE with a driven switch still to settle (R151), at a node that is not SPONSOR ONLY,
and nothing is driven before MOVE (R78). The table law and the guard law are premises, each kept by every step itself. -/
def Obligations.GuardEntriesFollowContexts : Prop :=
  ∀ s t : State, s.cxe.lawful → s.rfg.lawful → s.guardFollows → step s = .next t → t.guardFollows

/-- Every step keeps the claim law (R4, R5, R8 to R12): at most four entries on a switch, two or more all at one position with
their successors, and no tag or route twice; and each entry of a tag rests on an open context of that tag whose make route is
marked busy with it (R30), each established entry on its route's record (R29). The load law, the switch law, the table law and
the route laws are premises, each kept by every step itself. -/
def Obligations.ClaimLawKept : Prop :=
  ∀ s t : State, s.loadLawful → s.switchLawful → s.routesLawful → s.cxe.lawful → s.routeLawful → s.claimsFollow →
    step s = .next t → t.claimsFollow

/-- Every step keeps the route law, that no switch carries an established claim of an IDLE route (R29), the load law, that
the PLD loads exactly while the node is in LOADING (R50, R189), and the sponsor law: at most sixteen attempts, none in FREE,
fewer than sixteen in BACKOFF, and slot B FREE in single-sponsor mode (R128, R129, R136, R137). -/
def Obligations.RouteAndSponsorLawsKept : Prop :=
  (∀ s t : State, s.routeLawful → step s = .next t → t.routeLawful) ∧
    (∀ s t : State, s.loadLawful → step s = .next t → t.loadLawful) ∧
    ∀ s t : State, s.sponsorLawful → step s = .next t → t.sponsorLawful

/-- Every step keeps the flags of the port in agreement with what they follow (R167, R180, R184), and every queue and
saturating count within its bound. -/
def Obligations.FlagsAndCountsKept : Prop :=
  (∀ s t : State, s.flagsLawful → step s = .next t → t.flagsLawful) ∧
    ∀ s t : State, s.countsLawful → step s = .next t → t.countsLawful

/-- PLAN FAULT is left only by hardware reset (R50, R191), and DUPLICATE only by hardware reset or by a RESTART (R56), which may
also come as a frame or stand in the receive buffer. -/
def Obligations.LatchedStatesHold : Prop :=
  ∀ (c : Instr) (rest : List Instr) (s t : State), s.loadLawful → step (s.queued (c :: rest)) = .next t →
    (∀ reached, c ≠ .hardwareReset reached) →
    (s.biu.busState = .planFault → t.biu.busState = .planFault ∧ t.pld.fault = s.pld.fault) ∧
    (s.biu.busState = .duplicate → (∀ id sense, c ≠ .restart id sense) →
      (∀ bytes sense r, c = .frameReceived bytes sense → Request.ofFrame bytes = some r → r.body ≠ .restart) →
      (∀ sense r, c = .responseSendComplete sense → s.ctp.rxBuffer = some r → r.body ≠ .restart) →
        t.biu.busState = .duplicate ∧ t.biu.cause = s.biu.cause)

/-- A record a node forms is read back whole by every node that hears it (R48, R198, R199). -/
def Obligations.SlotRecordRoundTrip : Prop :=
  ∀ r : SlotRecord, r.inCodes = true → judgeSlot r.sender r.bits = .good r ∧ r.bits.length ≤ 455

/-- A request within its fields is read back whole from its frame (R160, R198, R200). -/
def Obligations.RequestFrameRoundTrip : Prop :=
  ∀ r : Request, r.id < 65536 → r.body.fits = true → Request.ofFrame r.frame = some r
end

