-- ==== Sys2Proof/Laws/State.lean ====
section
/-! SUPPORT. One lemma per field per update of the state, so that no later proof unfolds a record update. -/

namespace Sys2Proof.Machine

/-! ### `State.onSwitch` -/

@[simp] theorem State.onSwitch_biu (s : State) (i : Nat) (f : Switch → Switch) : (s.onSwitch i f).biu = s.biu := rfl
@[simp] theorem State.onSwitch_cxe (s : State) (i : Nat) (f : Switch → Switch) : (s.onSwitch i f).cxe = s.cxe := rfl
@[simp] theorem State.onSwitch_sbc (s : State) (i : Nat) (f : Switch → Switch) : (s.onSwitch i f).sbc = s.sbc.map (fun w => if w.plan.index = i then f w else w) := rfl
@[simp] theorem State.onSwitch_rfg (s : State) (i : Nat) (f : Switch → Switch) : (s.onSwitch i f).rfg = s.rfg := rfl
@[simp] theorem State.onSwitch_ltu (s : State) (i : Nat) (f : Switch → Switch) : (s.onSwitch i f).ltu = s.ltu := rfl
@[simp] theorem State.onSwitch_rtb (s : State) (i : Nat) (f : Switch → Switch) : (s.onSwitch i f).rtb = s.rtb := rfl
@[simp] theorem State.onSwitch_spu (s : State) (i : Nat) (f : Switch → Switch) : (s.onSwitch i f).spu = s.spu := rfl
@[simp] theorem State.onSwitch_ctp (s : State) (i : Nat) (f : Switch → Switch) : (s.onSwitch i f).ctp = s.ctp := rfl
@[simp] theorem State.onSwitch_pld (s : State) (i : Nat) (f : Switch → Switch) : (s.onSwitch i f).pld = s.pld := rfl
@[simp] theorem State.onSwitch_mem (s : State) (i : Nat) (f : Switch → Switch) : (s.onSwitch i f).mem = s.mem := rfl
@[simp] theorem State.onSwitch_sense (s : State) (i : Nat) (f : Switch → Switch) : (s.onSwitch i f).sense = s.sense := rfl
@[simp] theorem State.onSwitch_agenda (s : State) (i : Nat) (f : Switch → Switch) : (s.onSwitch i f).agenda = s.agenda := rfl
@[simp] theorem State.onSwitch_freeDraws (s : State) (i : Nat) (f : Switch → Switch) : (s.onSwitch i f).freeDraws = s.freeDraws := rfl
@[simp] theorem State.onSwitch_pending (s : State) (i : Nat) (f : Switch → Switch) : (s.onSwitch i f).pending = s.pending := rfl

/-! ### `State.onSwitches` -/

@[simp] theorem State.onSwitches_biu (s : State) (f : Switch → Switch) : (s.onSwitches f).biu = s.biu := rfl
@[simp] theorem State.onSwitches_cxe (s : State) (f : Switch → Switch) : (s.onSwitches f).cxe = s.cxe := rfl
@[simp] theorem State.onSwitches_sbc (s : State) (f : Switch → Switch) : (s.onSwitches f).sbc = s.sbc.map f := rfl
@[simp] theorem State.onSwitches_rfg (s : State) (f : Switch → Switch) : (s.onSwitches f).rfg = s.rfg := rfl
@[simp] theorem State.onSwitches_ltu (s : State) (f : Switch → Switch) : (s.onSwitches f).ltu = s.ltu := rfl
@[simp] theorem State.onSwitches_rtb (s : State) (f : Switch → Switch) : (s.onSwitches f).rtb = s.rtb := rfl
@[simp] theorem State.onSwitches_spu (s : State) (f : Switch → Switch) : (s.onSwitches f).spu = s.spu := rfl
@[simp] theorem State.onSwitches_ctp (s : State) (f : Switch → Switch) : (s.onSwitches f).ctp = s.ctp := rfl
@[simp] theorem State.onSwitches_pld (s : State) (f : Switch → Switch) : (s.onSwitches f).pld = s.pld := rfl
@[simp] theorem State.onSwitches_mem (s : State) (f : Switch → Switch) : (s.onSwitches f).mem = s.mem := rfl
@[simp] theorem State.onSwitches_sense (s : State) (f : Switch → Switch) : (s.onSwitches f).sense = s.sense := rfl
@[simp] theorem State.onSwitches_agenda (s : State) (f : Switch → Switch) : (s.onSwitches f).agenda = s.agenda := rfl
@[simp] theorem State.onSwitches_freeDraws (s : State) (f : Switch → Switch) : (s.onSwitches f).freeDraws = s.freeDraws := rfl
@[simp] theorem State.onSwitches_pending (s : State) (f : Switch → Switch) : (s.onSwitches f).pending = s.pending := rfl

/-! ### `State.onRoute` -/

@[simp] theorem State.onRoute_biu (s : State) (i : Nat) (f : Route → Route) : (s.onRoute i f).biu = s.biu := rfl
@[simp] theorem State.onRoute_cxe (s : State) (i : Nat) (f : Route → Route) : (s.onRoute i f).cxe = s.cxe := rfl
@[simp] theorem State.onRoute_sbc (s : State) (i : Nat) (f : Route → Route) : (s.onRoute i f).sbc = s.sbc := rfl
@[simp] theorem State.onRoute_rfg (s : State) (i : Nat) (f : Route → Route) : (s.onRoute i f).rfg = s.rfg := rfl
@[simp] theorem State.onRoute_ltu (s : State) (i : Nat) (f : Route → Route) : (s.onRoute i f).ltu = s.ltu := rfl
@[simp] theorem State.onRoute_rtb (s : State) (i : Nat) (f : Route → Route) : (s.onRoute i f).rtb = { s.rtb with routes := s.rtb.routes.map (fun r => if r.plan.id = i then f r else r) } := rfl
@[simp] theorem State.onRoute_spu (s : State) (i : Nat) (f : Route → Route) : (s.onRoute i f).spu = s.spu := rfl
@[simp] theorem State.onRoute_ctp (s : State) (i : Nat) (f : Route → Route) : (s.onRoute i f).ctp = s.ctp := rfl
@[simp] theorem State.onRoute_pld (s : State) (i : Nat) (f : Route → Route) : (s.onRoute i f).pld = s.pld := rfl
@[simp] theorem State.onRoute_mem (s : State) (i : Nat) (f : Route → Route) : (s.onRoute i f).mem = s.mem := rfl
@[simp] theorem State.onRoute_sense (s : State) (i : Nat) (f : Route → Route) : (s.onRoute i f).sense = s.sense := rfl
@[simp] theorem State.onRoute_agenda (s : State) (i : Nat) (f : Route → Route) : (s.onRoute i f).agenda = s.agenda := rfl
@[simp] theorem State.onRoute_freeDraws (s : State) (i : Nat) (f : Route → Route) : (s.onRoute i f).freeDraws = s.freeDraws := rfl
@[simp] theorem State.onRoute_pending (s : State) (i : Nat) (f : Route → Route) : (s.onRoute i f).pending = s.pending := rfl

/-! ### `State.onRoutes` -/

@[simp] theorem State.onRoutes_biu (s : State) (f : Route → Route) : (s.onRoutes f).biu = s.biu := rfl
@[simp] theorem State.onRoutes_cxe (s : State) (f : Route → Route) : (s.onRoutes f).cxe = s.cxe := rfl
@[simp] theorem State.onRoutes_sbc (s : State) (f : Route → Route) : (s.onRoutes f).sbc = s.sbc := rfl
@[simp] theorem State.onRoutes_rfg (s : State) (f : Route → Route) : (s.onRoutes f).rfg = s.rfg := rfl
@[simp] theorem State.onRoutes_ltu (s : State) (f : Route → Route) : (s.onRoutes f).ltu = s.ltu := rfl
@[simp] theorem State.onRoutes_rtb (s : State) (f : Route → Route) : (s.onRoutes f).rtb = { s.rtb with routes := s.rtb.routes.map f } := rfl
@[simp] theorem State.onRoutes_spu (s : State) (f : Route → Route) : (s.onRoutes f).spu = s.spu := rfl
@[simp] theorem State.onRoutes_ctp (s : State) (f : Route → Route) : (s.onRoutes f).ctp = s.ctp := rfl
@[simp] theorem State.onRoutes_pld (s : State) (f : Route → Route) : (s.onRoutes f).pld = s.pld := rfl
@[simp] theorem State.onRoutes_mem (s : State) (f : Route → Route) : (s.onRoutes f).mem = s.mem := rfl
@[simp] theorem State.onRoutes_sense (s : State) (f : Route → Route) : (s.onRoutes f).sense = s.sense := rfl
@[simp] theorem State.onRoutes_agenda (s : State) (f : Route → Route) : (s.onRoutes f).agenda = s.agenda := rfl
@[simp] theorem State.onRoutes_freeDraws (s : State) (f : Route → Route) : (s.onRoutes f).freeDraws = s.freeDraws := rfl
@[simp] theorem State.onRoutes_pending (s : State) (f : Route → Route) : (s.onRoutes f).pending = s.pending := rfl

/-! ### `State.onContext` -/

@[simp] theorem State.onContext_biu (s : State) (g : Tag) (f : Context → Context) : (s.onContext g f).biu = s.biu := rfl
@[simp] theorem State.onContext_cxe (s : State) (g : Tag) (f : Context → Context) : (s.onContext g f).cxe = { s.cxe with contexts := s.cxe.contexts.map (fun c => if c.tag = g then f c else c) } := rfl
@[simp] theorem State.onContext_sbc (s : State) (g : Tag) (f : Context → Context) : (s.onContext g f).sbc = s.sbc := rfl
@[simp] theorem State.onContext_rfg (s : State) (g : Tag) (f : Context → Context) : (s.onContext g f).rfg = s.rfg := rfl
@[simp] theorem State.onContext_ltu (s : State) (g : Tag) (f : Context → Context) : (s.onContext g f).ltu = s.ltu := rfl
@[simp] theorem State.onContext_rtb (s : State) (g : Tag) (f : Context → Context) : (s.onContext g f).rtb = s.rtb := rfl
@[simp] theorem State.onContext_spu (s : State) (g : Tag) (f : Context → Context) : (s.onContext g f).spu = s.spu := rfl
@[simp] theorem State.onContext_ctp (s : State) (g : Tag) (f : Context → Context) : (s.onContext g f).ctp = s.ctp := rfl
@[simp] theorem State.onContext_pld (s : State) (g : Tag) (f : Context → Context) : (s.onContext g f).pld = s.pld := rfl
@[simp] theorem State.onContext_mem (s : State) (g : Tag) (f : Context → Context) : (s.onContext g f).mem = s.mem := rfl
@[simp] theorem State.onContext_sense (s : State) (g : Tag) (f : Context → Context) : (s.onContext g f).sense = s.sense := rfl
@[simp] theorem State.onContext_agenda (s : State) (g : Tag) (f : Context → Context) : (s.onContext g f).agenda = s.agenda := rfl
@[simp] theorem State.onContext_freeDraws (s : State) (g : Tag) (f : Context → Context) : (s.onContext g f).freeDraws = s.freeDraws := rfl
@[simp] theorem State.onContext_pending (s : State) (g : Tag) (f : Context → Context) : (s.onContext g f).pending = s.pending := rfl

/-! ### `State.onPeer` -/

@[simp] theorem State.onPeer_biu (s : State) (n : Nat) (f : Peer → Peer) : (s.onPeer n f).biu = { s.biu with peers := s.biu.peers.map (fun p => if p.node = n then f p else p) } := rfl
@[simp] theorem State.onPeer_cxe (s : State) (n : Nat) (f : Peer → Peer) : (s.onPeer n f).cxe = s.cxe := rfl
@[simp] theorem State.onPeer_sbc (s : State) (n : Nat) (f : Peer → Peer) : (s.onPeer n f).sbc = s.sbc := rfl
@[simp] theorem State.onPeer_rfg (s : State) (n : Nat) (f : Peer → Peer) : (s.onPeer n f).rfg = s.rfg := rfl
@[simp] theorem State.onPeer_ltu (s : State) (n : Nat) (f : Peer → Peer) : (s.onPeer n f).ltu = s.ltu := rfl
@[simp] theorem State.onPeer_rtb (s : State) (n : Nat) (f : Peer → Peer) : (s.onPeer n f).rtb = s.rtb := rfl
@[simp] theorem State.onPeer_spu (s : State) (n : Nat) (f : Peer → Peer) : (s.onPeer n f).spu = s.spu := rfl
@[simp] theorem State.onPeer_ctp (s : State) (n : Nat) (f : Peer → Peer) : (s.onPeer n f).ctp = s.ctp := rfl
@[simp] theorem State.onPeer_pld (s : State) (n : Nat) (f : Peer → Peer) : (s.onPeer n f).pld = s.pld := rfl
@[simp] theorem State.onPeer_mem (s : State) (n : Nat) (f : Peer → Peer) : (s.onPeer n f).mem = s.mem := rfl
@[simp] theorem State.onPeer_sense (s : State) (n : Nat) (f : Peer → Peer) : (s.onPeer n f).sense = s.sense := rfl
@[simp] theorem State.onPeer_agenda (s : State) (n : Nat) (f : Peer → Peer) : (s.onPeer n f).agenda = s.agenda := rfl
@[simp] theorem State.onPeer_freeDraws (s : State) (n : Nat) (f : Peer → Peer) : (s.onPeer n f).freeDraws = s.freeDraws := rfl
@[simp] theorem State.onPeer_pending (s : State) (n : Nat) (f : Peer → Peer) : (s.onPeer n f).pending = s.pending := rfl

/-! ### `State.place` -/

@[simp] theorem State.place_biu (s : State) (name : SlotName) (m : Message) : (s.place name m).biu = { s.biu with outbound := s.biu.outbound ++ [{ slot := name, message := m }] } := rfl
@[simp] theorem State.place_cxe (s : State) (name : SlotName) (m : Message) : (s.place name m).cxe = s.cxe := rfl
@[simp] theorem State.place_sbc (s : State) (name : SlotName) (m : Message) : (s.place name m).sbc = s.sbc := rfl
@[simp] theorem State.place_rfg (s : State) (name : SlotName) (m : Message) : (s.place name m).rfg = s.rfg := rfl
@[simp] theorem State.place_ltu (s : State) (name : SlotName) (m : Message) : (s.place name m).ltu = s.ltu := rfl
@[simp] theorem State.place_rtb (s : State) (name : SlotName) (m : Message) : (s.place name m).rtb = s.rtb := rfl
@[simp] theorem State.place_spu (s : State) (name : SlotName) (m : Message) : (s.place name m).spu = s.spu := rfl
@[simp] theorem State.place_ctp (s : State) (name : SlotName) (m : Message) : (s.place name m).ctp = s.ctp := rfl
@[simp] theorem State.place_pld (s : State) (name : SlotName) (m : Message) : (s.place name m).pld = s.pld := rfl
@[simp] theorem State.place_mem (s : State) (name : SlotName) (m : Message) : (s.place name m).mem = s.mem := rfl
@[simp] theorem State.place_sense (s : State) (name : SlotName) (m : Message) : (s.place name m).sense = s.sense := rfl
@[simp] theorem State.place_agenda (s : State) (name : SlotName) (m : Message) : (s.place name m).agenda = s.agenda := rfl
@[simp] theorem State.place_freeDraws (s : State) (name : SlotName) (m : Message) : (s.place name m).freeDraws = s.freeDraws := rfl
@[simp] theorem State.place_pending (s : State) (name : SlotName) (m : Message) : (s.place name m).pending = s.pending := rfl

/-! ### `State.reserve` -/

@[simp] theorem State.reserve_biu (s : State) (name : SlotName) : (s.reserve name).biu = s.biu := rfl
@[simp] theorem State.reserve_cxe (s : State) (name : SlotName) : (s.reserve name).cxe = { s.cxe with reservations := s.cxe.reservations ++ [name] } := rfl
@[simp] theorem State.reserve_sbc (s : State) (name : SlotName) : (s.reserve name).sbc = s.sbc := rfl
@[simp] theorem State.reserve_rfg (s : State) (name : SlotName) : (s.reserve name).rfg = s.rfg := rfl
@[simp] theorem State.reserve_ltu (s : State) (name : SlotName) : (s.reserve name).ltu = s.ltu := rfl
@[simp] theorem State.reserve_rtb (s : State) (name : SlotName) : (s.reserve name).rtb = s.rtb := rfl
@[simp] theorem State.reserve_spu (s : State) (name : SlotName) : (s.reserve name).spu = s.spu := rfl
@[simp] theorem State.reserve_ctp (s : State) (name : SlotName) : (s.reserve name).ctp = s.ctp := rfl
@[simp] theorem State.reserve_pld (s : State) (name : SlotName) : (s.reserve name).pld = s.pld := rfl
@[simp] theorem State.reserve_mem (s : State) (name : SlotName) : (s.reserve name).mem = s.mem := rfl
@[simp] theorem State.reserve_sense (s : State) (name : SlotName) : (s.reserve name).sense = s.sense := rfl
@[simp] theorem State.reserve_agenda (s : State) (name : SlotName) : (s.reserve name).agenda = s.agenda := rfl
@[simp] theorem State.reserve_freeDraws (s : State) (name : SlotName) : (s.reserve name).freeDraws = s.freeDraws := rfl
@[simp] theorem State.reserve_pending (s : State) (name : SlotName) : (s.reserve name).pending = s.pending := rfl

/-! ### `State.unreserve` -/

@[simp] theorem State.unreserve_biu (s : State) (name : SlotName) : (s.unreserve name).biu = s.biu := rfl
@[simp] theorem State.unreserve_cxe (s : State) (name : SlotName) : (s.unreserve name).cxe = { s.cxe with reservations := s.cxe.reservations.filter (fun n => n != name) } := rfl
@[simp] theorem State.unreserve_sbc (s : State) (name : SlotName) : (s.unreserve name).sbc = s.sbc := rfl
@[simp] theorem State.unreserve_rfg (s : State) (name : SlotName) : (s.unreserve name).rfg = s.rfg := rfl
@[simp] theorem State.unreserve_ltu (s : State) (name : SlotName) : (s.unreserve name).ltu = s.ltu := rfl
@[simp] theorem State.unreserve_rtb (s : State) (name : SlotName) : (s.unreserve name).rtb = s.rtb := rfl
@[simp] theorem State.unreserve_spu (s : State) (name : SlotName) : (s.unreserve name).spu = s.spu := rfl
@[simp] theorem State.unreserve_ctp (s : State) (name : SlotName) : (s.unreserve name).ctp = s.ctp := rfl
@[simp] theorem State.unreserve_pld (s : State) (name : SlotName) : (s.unreserve name).pld = s.pld := rfl
@[simp] theorem State.unreserve_mem (s : State) (name : SlotName) : (s.unreserve name).mem = s.mem := rfl
@[simp] theorem State.unreserve_sense (s : State) (name : SlotName) : (s.unreserve name).sense = s.sense := rfl
@[simp] theorem State.unreserve_agenda (s : State) (name : SlotName) : (s.unreserve name).agenda = s.agenda := rfl
@[simp] theorem State.unreserve_freeDraws (s : State) (name : SlotName) : (s.unreserve name).freeDraws = s.freeDraws := rfl
@[simp] theorem State.unreserve_pending (s : State) (name : SlotName) : (s.unreserve name).pending = s.pending := rfl

/-! ### `State.dequeue` -/

@[simp] theorem State.dequeue_biu (s : State) (j : Job) : (s.dequeue j).biu = s.biu := rfl
@[simp] theorem State.dequeue_cxe (s : State) (j : Job) : (s.dequeue j).cxe = s.cxe := rfl
@[simp] theorem State.dequeue_sbc (s : State) (j : Job) : (s.dequeue j).sbc = s.sbc := rfl
@[simp] theorem State.dequeue_rfg (s : State) (j : Job) : (s.dequeue j).rfg = s.rfg := rfl
@[simp] theorem State.dequeue_ltu (s : State) (j : Job) : (s.dequeue j).ltu = s.ltu := rfl
@[simp] theorem State.dequeue_rtb (s : State) (j : Job) : (s.dequeue j).rtb = s.rtb := rfl
@[simp] theorem State.dequeue_spu (s : State) (j : Job) : (s.dequeue j).spu = s.spu := rfl
@[simp] theorem State.dequeue_ctp (s : State) (j : Job) : (s.dequeue j).ctp = { s.ctp with queue := s.ctp.queue.erase j } := rfl
@[simp] theorem State.dequeue_pld (s : State) (j : Job) : (s.dequeue j).pld = s.pld := rfl
@[simp] theorem State.dequeue_mem (s : State) (j : Job) : (s.dequeue j).mem = s.mem := rfl
@[simp] theorem State.dequeue_sense (s : State) (j : Job) : (s.dequeue j).sense = s.sense := rfl
@[simp] theorem State.dequeue_agenda (s : State) (j : Job) : (s.dequeue j).agenda = s.agenda := rfl
@[simp] theorem State.dequeue_freeDraws (s : State) (j : Job) : (s.dequeue j).freeDraws = s.freeDraws := rfl
@[simp] theorem State.dequeue_pending (s : State) (j : Job) : (s.dequeue j).pending = s.pending := rfl

/-! ### `State.fire` -/

@[simp] theorem State.fire_biu (s : State) (name : EventName) (source : EventSource) : (s.fire name source).biu = s.biu := rfl
@[simp] theorem State.fire_cxe (s : State) (name : EventName) (source : EventSource) : (s.fire name source).cxe = s.cxe := rfl
@[simp] theorem State.fire_sbc (s : State) (name : EventName) (source : EventSource) : (s.fire name source).sbc = s.sbc := rfl
@[simp] theorem State.fire_rfg (s : State) (name : EventName) (source : EventSource) : (s.fire name source).rfg = s.rfg := rfl
@[simp] theorem State.fire_ltu (s : State) (name : EventName) (source : EventSource) : (s.fire name source).ltu = s.ltu := rfl
@[simp] theorem State.fire_rtb (s : State) (name : EventName) (source : EventSource) : (s.fire name source).rtb = s.rtb := rfl
@[simp] theorem State.fire_spu (s : State) (name : EventName) (source : EventSource) : (s.fire name source).spu = s.spu := rfl
@[simp] theorem State.fire_ctp (s : State) (name : EventName) (source : EventSource) : (s.fire name source).ctp = { s.ctp with events := s.ctp.events.map (fun e => if e.name = name then e.fire source else e) } := rfl
@[simp] theorem State.fire_pld (s : State) (name : EventName) (source : EventSource) : (s.fire name source).pld = s.pld := rfl
@[simp] theorem State.fire_mem (s : State) (name : EventName) (source : EventSource) : (s.fire name source).mem = s.mem := rfl
@[simp] theorem State.fire_sense (s : State) (name : EventName) (source : EventSource) : (s.fire name source).sense = s.sense := rfl
@[simp] theorem State.fire_agenda (s : State) (name : EventName) (source : EventSource) : (s.fire name source).agenda = s.agenda := rfl
@[simp] theorem State.fire_freeDraws (s : State) (name : EventName) (source : EventSource) : (s.fire name source).freeDraws = s.freeDraws := rfl
@[simp] theorem State.fire_pending (s : State) (name : EventName) (source : EventSource) : (s.fire name source).pending = s.pending := rfl

/-! ### `State.notice` -/

@[simp] theorem State.notice_biu (s : State) (n : Notice) : (s.notice n).biu = s.biu := rfl
@[simp] theorem State.notice_cxe (s : State) (n : Notice) : (s.notice n).cxe = s.cxe := rfl
@[simp] theorem State.notice_sbc (s : State) (n : Notice) : (s.notice n).sbc = s.sbc := rfl
@[simp] theorem State.notice_rfg (s : State) (n : Notice) : (s.notice n).rfg = s.rfg := rfl
@[simp] theorem State.notice_ltu (s : State) (n : Notice) : (s.notice n).ltu = s.ltu := rfl
@[simp] theorem State.notice_rtb (s : State) (n : Notice) : (s.notice n).rtb = s.rtb := rfl
@[simp] theorem State.notice_spu (s : State) (n : Notice) : (s.notice n).spu = s.spu := rfl
@[simp] theorem State.notice_ctp (s : State) (n : Notice) : (s.notice n).ctp = { s.ctp with notices := joinNotice s.ctp.notices n } := rfl
@[simp] theorem State.notice_pld (s : State) (n : Notice) : (s.notice n).pld = s.pld := rfl
@[simp] theorem State.notice_mem (s : State) (n : Notice) : (s.notice n).mem = s.mem := rfl
@[simp] theorem State.notice_sense (s : State) (n : Notice) : (s.notice n).sense = s.sense := rfl
@[simp] theorem State.notice_agenda (s : State) (n : Notice) : (s.notice n).agenda = s.agenda := rfl
@[simp] theorem State.notice_freeDraws (s : State) (n : Notice) : (s.notice n).freeDraws = s.freeDraws := rfl
@[simp] theorem State.notice_pending (s : State) (n : Notice) : (s.notice n).pending = s.pending := rfl

/-! ### `State.closeGuard` -/

@[simp] theorem State.closeGuard_biu (s : State) (g : Tag) : (s.closeGuard g).biu = s.biu := rfl
@[simp] theorem State.closeGuard_cxe (s : State) (g : Tag) : (s.closeGuard g).cxe = s.cxe := rfl
@[simp] theorem State.closeGuard_sbc (s : State) (g : Tag) : (s.closeGuard g).sbc = s.sbc := rfl
@[simp] theorem State.closeGuard_rfg (s : State) (g : Tag) : (s.closeGuard g).rfg = s.rfg.closeGuard g := rfl
@[simp] theorem State.closeGuard_ltu (s : State) (g : Tag) : (s.closeGuard g).ltu = s.ltu := rfl
@[simp] theorem State.closeGuard_rtb (s : State) (g : Tag) : (s.closeGuard g).rtb = s.rtb := rfl
@[simp] theorem State.closeGuard_spu (s : State) (g : Tag) : (s.closeGuard g).spu = s.spu := rfl
@[simp] theorem State.closeGuard_ctp (s : State) (g : Tag) : (s.closeGuard g).ctp = s.ctp := rfl
@[simp] theorem State.closeGuard_pld (s : State) (g : Tag) : (s.closeGuard g).pld = s.pld := rfl
@[simp] theorem State.closeGuard_mem (s : State) (g : Tag) : (s.closeGuard g).mem = s.mem := rfl
@[simp] theorem State.closeGuard_sense (s : State) (g : Tag) : (s.closeGuard g).sense = s.sense := rfl
@[simp] theorem State.closeGuard_agenda (s : State) (g : Tag) : (s.closeGuard g).agenda = s.agenda := rfl
@[simp] theorem State.closeGuard_freeDraws (s : State) (g : Tag) : (s.closeGuard g).freeDraws = s.freeDraws := rfl
@[simp] theorem State.closeGuard_pending (s : State) (g : Tag) : (s.closeGuard g).pending = s.pending := rfl

/-! ### `State.queued` -/

@[simp] theorem State.queued_biu (s : State) (q : List Instr) : (s.queued q).biu = s.biu := rfl
@[simp] theorem State.queued_cxe (s : State) (q : List Instr) : (s.queued q).cxe = s.cxe := rfl
@[simp] theorem State.queued_sbc (s : State) (q : List Instr) : (s.queued q).sbc = s.sbc := rfl
@[simp] theorem State.queued_rfg (s : State) (q : List Instr) : (s.queued q).rfg = s.rfg := rfl
@[simp] theorem State.queued_ltu (s : State) (q : List Instr) : (s.queued q).ltu = s.ltu := rfl
@[simp] theorem State.queued_rtb (s : State) (q : List Instr) : (s.queued q).rtb = s.rtb := rfl
@[simp] theorem State.queued_spu (s : State) (q : List Instr) : (s.queued q).spu = s.spu := rfl
@[simp] theorem State.queued_ctp (s : State) (q : List Instr) : (s.queued q).ctp = s.ctp := rfl
@[simp] theorem State.queued_pld (s : State) (q : List Instr) : (s.queued q).pld = s.pld := rfl
@[simp] theorem State.queued_mem (s : State) (q : List Instr) : (s.queued q).mem = s.mem := rfl
@[simp] theorem State.queued_sense (s : State) (q : List Instr) : (s.queued q).sense = s.sense := rfl
@[simp] theorem State.queued_agenda (s : State) (q : List Instr) : (s.queued q).agenda = s.agenda := rfl
@[simp] theorem State.queued_freeDraws (s : State) (q : List Instr) : (s.queued q).freeDraws = s.freeDraws := rfl
@[simp] theorem State.queued_pending (s : State) (q : List Instr) : (s.queued q).pending = q := rfl

/-! ### `State.setSlot` -/

@[simp] theorem State.setSlot_biu (s : State) (name : SlotName) (x : SponsorSlot) : (s.setSlot name x).biu = s.biu := by
  cases name <;> rfl
@[simp] theorem State.setSlot_cxe (s : State) (name : SlotName) (x : SponsorSlot) : (s.setSlot name x).cxe = s.cxe := by
  cases name <;> rfl
@[simp] theorem State.setSlot_sbc (s : State) (name : SlotName) (x : SponsorSlot) : (s.setSlot name x).sbc = s.sbc := by
  cases name <;> rfl
@[simp] theorem State.setSlot_rfg (s : State) (name : SlotName) (x : SponsorSlot) : (s.setSlot name x).rfg = s.rfg := by
  cases name <;> rfl
@[simp] theorem State.setSlot_ltu (s : State) (name : SlotName) (x : SponsorSlot) : (s.setSlot name x).ltu = s.ltu := by
  cases name <;> rfl
@[simp] theorem State.setSlot_rtb (s : State) (name : SlotName) (x : SponsorSlot) : (s.setSlot name x).rtb = s.rtb := by
  cases name <;> rfl
@[simp] theorem State.setSlot_ctp (s : State) (name : SlotName) (x : SponsorSlot) : (s.setSlot name x).ctp = s.ctp := by
  cases name <;> rfl
@[simp] theorem State.setSlot_pld (s : State) (name : SlotName) (x : SponsorSlot) : (s.setSlot name x).pld = s.pld := by
  cases name <;> rfl
@[simp] theorem State.setSlot_mem (s : State) (name : SlotName) (x : SponsorSlot) : (s.setSlot name x).mem = s.mem := by
  cases name <;> rfl
@[simp] theorem State.setSlot_sense (s : State) (name : SlotName) (x : SponsorSlot) : (s.setSlot name x).sense = s.sense := by
  cases name <;> rfl
@[simp] theorem State.setSlot_agenda (s : State) (name : SlotName) (x : SponsorSlot) : (s.setSlot name x).agenda = s.agenda := by
  cases name <;> rfl
@[simp] theorem State.setSlot_freeDraws (s : State) (name : SlotName) (x : SponsorSlot) : (s.setSlot name x).freeDraws = s.freeDraws := by
  cases name <;> rfl
@[simp] theorem State.setSlot_pending (s : State) (name : SlotName) (x : SponsorSlot) : (s.setSlot name x).pending = s.pending := by
  cases name <;> rfl

/-- A slot just written reads as written. -/
@[simp] theorem State.slot_setSlot (s : State) (name : SlotName) (x : SponsorSlot) : (s.setSlot name x).slot name = x := by
  cases name <;> rfl

/-- Writing one slot leaves the other. -/
@[simp] theorem State.slot_setSlot_other (s : State) (name : SlotName) (x : SponsorSlot) :
    (s.setSlot name x).slot (otherSlot name) = s.slot (otherSlot name) := by
  cases name <;> rfl

@[simp] theorem State.setSlot_seq (s : State) (name : SlotName) (x : SponsorSlot) : (s.setSlot name x).spu.seq = s.spu.seq := by
  cases name <;> rfl

@[simp] theorem State.setSlot_single (s : State) (name : SlotName) (x : SponsorSlot) :
    (s.setSlot name x).spu.single = s.spu.single := by
  cases name <;> rfl

/-! ### `State.complete` -/

@[simp] theorem State.complete_biu (s : State) : s.complete.biu = s.biu := rfl
@[simp] theorem State.complete_cxe (s : State) : s.complete.cxe = s.cxe := rfl
@[simp] theorem State.complete_sbc (s : State) : s.complete.sbc = s.sbc := rfl
@[simp] theorem State.complete_rfg (s : State) : s.complete.rfg = s.rfg := rfl
@[simp] theorem State.complete_ltu (s : State) : s.complete.ltu = s.ltu := rfl
@[simp] theorem State.complete_rtb (s : State) : s.complete.rtb = s.rtb := rfl
@[simp] theorem State.complete_spu (s : State) : s.complete.spu = s.spu := rfl
@[simp] theorem State.complete_pld (s : State) : s.complete.pld = s.pld := rfl
@[simp] theorem State.complete_mem (s : State) : s.complete.mem = s.mem := rfl
@[simp] theorem State.complete_sense (s : State) : s.complete.sense = s.sense := rfl
@[simp] theorem State.complete_agenda (s : State) : s.complete.agenda = s.agenda := rfl
@[simp] theorem State.complete_freeDraws (s : State) : s.complete.freeDraws = s.freeDraws := rfl
@[simp] theorem State.complete_pending (s : State) : s.complete.pending = s.pending := rfl
@[simp] theorem State.complete_ctp_queue (s : State) : s.complete.ctp.queue = s.ctp.queue := rfl
@[simp] theorem State.complete_ctp_notices (s : State) : s.complete.ctp.notices = s.ctp.notices := rfl
@[simp] theorem State.complete_ctp_rxBuffer (s : State) : s.complete.ctp.rxBuffer = s.ctp.rxBuffer := rfl
@[simp] theorem State.complete_ctp_sending (s : State) : s.complete.ctp.sending = s.ctp.sending := rfl
@[simp] theorem State.complete_ctp_framingFaults (s : State) : s.complete.ctp.framingFaults = s.ctp.framingFaults := rfl
@[simp] theorem State.complete_ctp_overruns (s : State) : s.complete.ctp.overruns = s.ctp.overruns := rfl

/-! ### Reads that an update leaves alone -/

@[simp] theorem State.onSwitch_route (s : State) (i : Nat) (f : Switch → Switch) (x : Nat) : (s.onSwitch i f).route? x = s.route? x := rfl
@[simp] theorem State.onSwitch_context (s : State) (i : Nat) (f : Switch → Switch) (x : Tag) : (s.onSwitch i f).context? x = s.context? x := rfl
@[simp] theorem State.onSwitch_slot (s : State) (i : Nat) (f : Switch → Switch) (x : SlotName) : (s.onSwitch i f).slot x = s.slot x := by cases x <;> rfl
@[simp] theorem State.onSwitches_route (s : State) (f : Switch → Switch) (x : Nat) : (s.onSwitches f).route? x = s.route? x := rfl
@[simp] theorem State.onSwitches_context (s : State) (f : Switch → Switch) (x : Tag) : (s.onSwitches f).context? x = s.context? x := rfl
@[simp] theorem State.onSwitches_slot (s : State) (f : Switch → Switch) (x : SlotName) : (s.onSwitches f).slot x = s.slot x := by cases x <;> rfl
@[simp] theorem State.onRoute_switch (s : State) (i : Nat) (f : Route → Route) (x : Nat) : (s.onRoute i f).switch? x = s.switch? x := rfl
@[simp] theorem State.onRoute_context (s : State) (i : Nat) (f : Route → Route) (x : Tag) : (s.onRoute i f).context? x = s.context? x := rfl
@[simp] theorem State.onRoute_slot (s : State) (i : Nat) (f : Route → Route) (x : SlotName) : (s.onRoute i f).slot x = s.slot x := by cases x <;> rfl
@[simp] theorem State.onRoutes_switch (s : State) (f : Route → Route) (x : Nat) : (s.onRoutes f).switch? x = s.switch? x := rfl
@[simp] theorem State.onRoutes_context (s : State) (f : Route → Route) (x : Tag) : (s.onRoutes f).context? x = s.context? x := rfl
@[simp] theorem State.onRoutes_slot (s : State) (f : Route → Route) (x : SlotName) : (s.onRoutes f).slot x = s.slot x := by cases x <;> rfl
@[simp] theorem State.onContext_switch (s : State) (g : Tag) (f : Context → Context) (x : Nat) : (s.onContext g f).switch? x = s.switch? x := rfl
@[simp] theorem State.onContext_route (s : State) (g : Tag) (f : Context → Context) (x : Nat) : (s.onContext g f).route? x = s.route? x := rfl
@[simp] theorem State.onContext_slot (s : State) (g : Tag) (f : Context → Context) (x : SlotName) : (s.onContext g f).slot x = s.slot x := by cases x <;> rfl
@[simp] theorem State.place_switch (s : State) (name : SlotName) (m : Message) (x : Nat) : (s.place name m).switch? x = s.switch? x := rfl
@[simp] theorem State.place_route (s : State) (name : SlotName) (m : Message) (x : Nat) : (s.place name m).route? x = s.route? x := rfl
@[simp] theorem State.place_context (s : State) (name : SlotName) (m : Message) (x : Tag) : (s.place name m).context? x = s.context? x := rfl
@[simp] theorem State.place_slot (s : State) (name : SlotName) (m : Message) (x : SlotName) : (s.place name m).slot x = s.slot x := by cases x <;> rfl
@[simp] theorem State.reserve_switch (s : State) (name : SlotName) (x : Nat) : (s.reserve name).switch? x = s.switch? x := rfl
@[simp] theorem State.reserve_route (s : State) (name : SlotName) (x : Nat) : (s.reserve name).route? x = s.route? x := rfl
@[simp] theorem State.reserve_slot (s : State) (name : SlotName) (x : SlotName) : (s.reserve name).slot x = s.slot x := by cases x <;> rfl
@[simp] theorem State.unreserve_switch (s : State) (name : SlotName) (x : Nat) : (s.unreserve name).switch? x = s.switch? x := rfl
@[simp] theorem State.unreserve_route (s : State) (name : SlotName) (x : Nat) : (s.unreserve name).route? x = s.route? x := rfl
@[simp] theorem State.unreserve_slot (s : State) (name : SlotName) (x : SlotName) : (s.unreserve name).slot x = s.slot x := by cases x <;> rfl
@[simp] theorem State.dequeue_switch (s : State) (j : Job) (x : Nat) : (s.dequeue j).switch? x = s.switch? x := rfl
@[simp] theorem State.dequeue_route (s : State) (j : Job) (x : Nat) : (s.dequeue j).route? x = s.route? x := rfl
@[simp] theorem State.dequeue_context (s : State) (j : Job) (x : Tag) : (s.dequeue j).context? x = s.context? x := rfl
@[simp] theorem State.dequeue_slot (s : State) (j : Job) (x : SlotName) : (s.dequeue j).slot x = s.slot x := by cases x <;> rfl
@[simp] theorem State.fire_switch (s : State) (name : EventName) (source : EventSource) (x : Nat) : (s.fire name source).switch? x = s.switch? x := rfl
@[simp] theorem State.fire_route (s : State) (name : EventName) (source : EventSource) (x : Nat) : (s.fire name source).route? x = s.route? x := rfl
@[simp] theorem State.fire_context (s : State) (name : EventName) (source : EventSource) (x : Tag) : (s.fire name source).context? x = s.context? x := rfl
@[simp] theorem State.fire_slot (s : State) (name : EventName) (source : EventSource) (x : SlotName) : (s.fire name source).slot x = s.slot x := by cases x <;> rfl
@[simp] theorem State.notice_switch (s : State) (n : Notice) (x : Nat) : (s.notice n).switch? x = s.switch? x := rfl
@[simp] theorem State.notice_route (s : State) (n : Notice) (x : Nat) : (s.notice n).route? x = s.route? x := rfl
@[simp] theorem State.notice_context (s : State) (n : Notice) (x : Tag) : (s.notice n).context? x = s.context? x := rfl
@[simp] theorem State.notice_slot (s : State) (n : Notice) (x : SlotName) : (s.notice n).slot x = s.slot x := by cases x <;> rfl
@[simp] theorem State.setSlot_switch (s : State) (name : SlotName) (y : SponsorSlot) (x : Nat) : (s.setSlot name y).switch? x = s.switch? x := by
  cases name <;> rfl
@[simp] theorem State.complete_switch (s : State) (x : Nat) : s.complete.switch? x = s.switch? x := rfl
@[simp] theorem State.setSlot_route (s : State) (name : SlotName) (y : SponsorSlot) (x : Nat) : (s.setSlot name y).route? x = s.route? x := by
  cases name <;> rfl
@[simp] theorem State.complete_route (s : State) (x : Nat) : s.complete.route? x = s.route? x := rfl
@[simp] theorem State.setSlot_context (s : State) (name : SlotName) (y : SponsorSlot) (x : Tag) : (s.setSlot name y).context? x = s.context? x := by
  cases name <;> rfl
@[simp] theorem State.complete_context (s : State) (x : Tag) : s.complete.context? x = s.context? x := rfl
@[simp] theorem State.complete_slot (s : State) (x : SlotName) : s.complete.slot x = s.slot x := by cases x <;> rfl
@[simp] theorem State.onSwitch_me (s : State) (i : Nat) (f : Switch → Switch) : (s.onSwitch i f).me = s.me := rfl
@[simp] theorem State.onSwitches_me (s : State) (f : Switch → Switch) : (s.onSwitches f).me = s.me := rfl
@[simp] theorem State.onRoute_me (s : State) (i : Nat) (f : Route → Route) : (s.onRoute i f).me = s.me := rfl
@[simp] theorem State.onRoutes_me (s : State) (f : Route → Route) : (s.onRoutes f).me = s.me := rfl
@[simp] theorem State.onContext_me (s : State) (g : Tag) (f : Context → Context) : (s.onContext g f).me = s.me := rfl
@[simp] theorem State.place_me (s : State) (name : SlotName) (m : Message) : (s.place name m).me = s.me := rfl
@[simp] theorem State.reserve_me (s : State) (name : SlotName) : (s.reserve name).me = s.me := rfl
@[simp] theorem State.unreserve_me (s : State) (name : SlotName) : (s.unreserve name).me = s.me := rfl
@[simp] theorem State.dequeue_me (s : State) (j : Job) : (s.dequeue j).me = s.me := rfl
@[simp] theorem State.fire_me (s : State) (name : EventName) (source : EventSource) : (s.fire name source).me = s.me := rfl
@[simp] theorem State.notice_me (s : State) (n : Notice) : (s.notice n).me = s.me := rfl
@[simp] theorem State.closeGuard_me (s : State) (g : Tag) : (s.closeGuard g).me = s.me := rfl
@[simp] theorem State.queued_me (s : State) (q : List Instr) : (s.queued q).me = s.me := rfl
@[simp] theorem State.setSlot_me (s : State) (name : SlotName) (x : SponsorSlot) : (s.setSlot name x).me = s.me := by cases name <;> rfl
@[simp] theorem State.complete_me (s : State) : s.complete.me = s.me := rfl

/-! ### Syncs -/

@[simp] theorem Biu.signalHeard_busState (b : Biu) : b.signalHeard.busState = b.busState := rfl
@[simp] theorem Biu.signalHeard_begunInListen (b : Biu) : b.signalHeard.begunInListen = false := rfl
@[simp] theorem Biu.enterListen_begunInListen (b : Biu) : b.enterListen.begunInListen = b.begunInListen := rfl
@[simp] theorem State.timerDrives_freeDraws (s : State) : s.timerDrives.freeDraws = s.freeDraws + 1 := by
  unfold State.timerDrives; split <;> rfl

/-- Either another sync has begun and the unit stays as it is, or the node drives a sync and its frame begins (R44). -/
theorem State.timerDrives_cases (s : State) :
    s.timerDrives = { s with freeDraws := s.freeDraws + 1 } ∨
      s.timerDrives = { s with freeDraws := s.freeDraws + 1, biu := s.biu.beginFrame .sync } := by
  unfold State.timerDrives; split
  · exact .inl rfl
  · exact .inr rfl

end Sys2Proof.Machine
end

