-- ==== Sys2Proof/Laws/Flags.lean ====
section
/-! SUPPORT. Notices, events, and the flags judged at the end of an event (chapter 10, R167). -/

namespace Sys2Proof.Machine

/-! ### Hold and level events -/

/-- Judging the hold line again on the same queue changes nothing (R167). -/
theorem holdAfter_again (n : Nat) (h : Bool) : holdAfter n (holdAfter n h) = holdAfter n h := by
  unfold holdAfter; split
  · rfl
  · split <;> rfl

/-- The hold line is on at 12 and above, off at 8 and below, and stands between (R167). -/
theorem holdAfter_spec (n : Nat) (h : Bool) :
    (12 ≤ n → holdAfter n h = true) ∧ (n ≤ 8 → holdAfter n h = false) ∧ (8 < n → n < 12 → holdAfter n h = h) := by
  unfold holdAfter Config.holdHigh Config.holdLow
  refine ⟨fun a => if_pos a, fun a => ?_, fun a b => ?_⟩
  · rw [if_neg (by omega), if_pos a]
  · rw [if_neg (by omega), if_neg (by omega)]

theorem levelRaised_again (n : List Notice) (h : Bool) (b : BusState) (e : EventName) (r : Bool) :
    levelRaised n h b e (levelRaised n h b e r) = levelRaised n h b e r := by cases e <;> rfl

/-- At the end of an event the flags agree with what they follow (R167, R180, R184). -/
theorem State.complete_flagsLawful (s : State) : s.complete.flagsLawful := by
  refine ⟨(holdAfter_again _ _).symm, ?_, rfl, rfl⟩
  intro e he
  obtain ⟨x, _, rfl⟩ := List.mem_map.mp he
  exact (levelRaised_again _ _ _ _ _).symm

/-- The end of an event changes an event's raised flag at most, and only of a level event (R180). -/
theorem State.complete_event {s : State} {e : EventStatus} (h : e ∈ s.complete.ctp.events) :
    ∃ x ∈ s.ctp.events, e.name = x.name ∧ e.repeats = x.repeats ∧ e.source = x.source ∧ e.line = x.line ∧
      (x.name.isEdge = true → e.raised = x.raised) := by
  obtain ⟨x, hx, rfl⟩ := List.mem_map.mp h
  refine ⟨x, hx, rfl, rfl, rfl, rfl, fun hn => ?_⟩
  cases hx : x.name <;> simp [hx, EventName.isEdge] at hn <;> simp [levelRaised]

/-! ### Firings (R181) -/

/-- After a firing its event is raised with the firing's source. -/
theorem State.fire_raised {s : State} {n : EventName} {src : EventSource} {e : EventStatus} (h : e ∈ (s.fire n src).ctp.events)
    (hn : e.name = n) : e.raised = true ∧ e.source = some src := by
  obtain ⟨x, _, rfl⟩ := List.mem_map.mp h
  by_cases hx : x.name = n
  · simp only [hx, if_true]; unfold EventStatus.fire; split
    · exact ⟨‹_›, rfl⟩
    · exact ⟨rfl, rfl⟩
  · rw [if_neg hx] at hn; exact absurd hn hx

@[simp] theorem EventStatus.fire_name (src : EventSource) (e : EventStatus) : (e.fire src).name = e.name := by
  unfold EventStatus.fire; split <;> rfl

/-- A firing leaves every other event. -/
theorem State.fire_other {s : State} {n : EventName} {src : EventSource} {e : EventStatus} (h : e ∈ (s.fire n src).ctp.events)
    (hn : e.name ≠ n) : e ∈ s.ctp.events := by
  obtain ⟨x, hx, rfl⟩ := List.mem_map.mp h
  by_cases hc : x.name = n
  · rw [if_pos hc] at hn; exact absurd ((EventStatus.fire_name _ _).trans hc) hn
  · rw [if_neg hc]; exact hx

/-- A raised event stays raised whatever fires. -/
theorem State.fire_keeps_raised {s : State} {m : EventName} (h : ∀ e ∈ s.ctp.events, e.name = m → e.raised = true)
    (n : EventName) (src : EventSource) : ∀ e ∈ (s.fire n src).ctp.events, e.name = m → e.raised = true := by
  intro e he hm
  by_cases hn : e.name = n
  · exact (State.fire_raised he hn).1
  · exact h e (State.fire_other he hn) hm

/-! ### Notices (R178) -/

/-- The notice queue never holds more than its room. -/
theorem joinNotice_length (q : List Notice) (n : Notice) (h : q.length ≤ Config.noticeRoom) :
    (joinNotice q n).length ≤ Config.noticeRoom := by
  unfold joinNotice
  split
  · simp only [List.length_append, List.length_singleton]; omega
  · simp only [List.length_append, List.length_dropLast, List.length_singleton]
    unfold Config.noticeRoom at *
    omega

/-- The notice that joins is the youngest, whole but for its lost count. -/
theorem joinNotice_last (q : List Notice) (n : Notice) : ∃ pre k, joinNotice q n = pre ++ [{ n with lost := k }] := by
  unfold joinNotice
  split
  · exact ⟨_, _, rfl⟩
  · exact ⟨_, _, rfl⟩

/-- Lost counts stay within their bound. -/
theorem joinNotice_lost (q : List Notice) (n : Notice) (h : ∀ m ∈ q, m.lost ≤ Config.count8) :
    ∀ m ∈ joinNotice q n, m.lost ≤ Config.count8 := by
  intro m hm
  unfold joinNotice at hm
  split at hm
  · rcases List.mem_append.mp hm with hm | hm
    · exact h m hm
    · simp only [List.mem_singleton] at hm; subst hm; exact Nat.zero_le _
  · rcases List.mem_append.mp hm with hm | hm
    · exact h m (List.dropLast_subset q hm)
    · simp only [List.mem_singleton] at hm; subst hm; exact Nat.min_le_left _ _

end Sys2Proof.Machine
end

