-- ==== Sys2Proof/Laws/Frames.lean ====
section
/-! SUPPORT. What each block's operations leave alone: no work of a changeover or of the Sponsor Unit touches the plan side of
the node, and no work of the Sponsor Unit touches contexts, switches, guard or routes. -/

namespace Sys2Proof.Machine

/-- The part of the node that no changeover touches: calibration tables, plan loader, memory, and the model's own fields. -/
def State.planSide (s : State) : List CalTable × Pld × List Host.Cell × SenseLevels × List Work × Nat × List Instr :=
  (s.ltu, s.pld, s.mem, s.sense, s.agenda, s.freeDraws, s.pending)

/-- The part of the node that no work of the Sponsor Unit touches. -/
def State.bankSide (s : State) : List Context × Nat × Nat × Nat × List Switch × Rfg × Rtb :=
  (s.cxe.contexts, s.cxe.rejected, s.cxe.unplaced, s.cxe.quietTimeout, s.sbc, s.rfg, s.rtb)

/-- `keeps` is equality of the plan sides. -/
theorem State.keeps_iff (s t : State) : s.keeps t ↔ t.planSide = s.planSide := by
  cases s; cases t; simp [State.keeps, State.planSide]

/-! ### The updates -/

@[simp] theorem State.onSwitch_planSide (s : State) (i : Nat) (f : Switch → Switch) :
    (s.onSwitch i f).planSide = s.planSide := rfl
@[simp] theorem State.onSwitches_planSide (s : State) (f : Switch → Switch) : (s.onSwitches f).planSide = s.planSide := rfl
@[simp] theorem State.onRoute_planSide (s : State) (i : Nat) (f : Route → Route) : (s.onRoute i f).planSide = s.planSide := rfl
@[simp] theorem State.onRoutes_planSide (s : State) (f : Route → Route) : (s.onRoutes f).planSide = s.planSide := rfl
@[simp] theorem State.onContext_planSide (s : State) (g : Tag) (f : Context → Context) :
    (s.onContext g f).planSide = s.planSide := rfl
@[simp] theorem State.onPeer_planSide (s : State) (n : Nat) (f : Peer → Peer) : (s.onPeer n f).planSide = s.planSide := rfl
@[simp] theorem State.place_planSide (s : State) (name : SlotName) (m : Message) :
    (s.place name m).planSide = s.planSide := rfl
@[simp] theorem State.reserve_planSide (s : State) (name : SlotName) : (s.reserve name).planSide = s.planSide := rfl
@[simp] theorem State.unreserve_planSide (s : State) (name : SlotName) : (s.unreserve name).planSide = s.planSide := rfl
@[simp] theorem State.dequeue_planSide (s : State) (j : Job) : (s.dequeue j).planSide = s.planSide := rfl
@[simp] theorem State.fire_planSide (s : State) (e : EventName) (x : EventSource) : (s.fire e x).planSide = s.planSide := rfl
@[simp] theorem State.notice_planSide (s : State) (n : Notice) : (s.notice n).planSide = s.planSide := rfl
@[simp] theorem State.closeGuard_planSide (s : State) (g : Tag) : (s.closeGuard g).planSide = s.planSide := rfl
@[simp] theorem State.complete_planSide (s : State) : s.complete.planSide = s.planSide := rfl
@[simp] theorem State.setSlot_planSide (s : State) (name : SlotName) (x : SponsorSlot) :
    (s.setSlot name x).planSide = s.planSide := by cases name <;> rfl

@[simp] theorem State.place_bankSide (s : State) (name : SlotName) (m : Message) :
    (s.place name m).bankSide = s.bankSide := rfl
@[simp] theorem State.reserve_bankSide (s : State) (name : SlotName) : (s.reserve name).bankSide = s.bankSide := rfl
@[simp] theorem State.unreserve_bankSide (s : State) (name : SlotName) : (s.unreserve name).bankSide = s.bankSide := rfl
@[simp] theorem State.dequeue_bankSide (s : State) (j : Job) : (s.dequeue j).bankSide = s.bankSide := rfl
@[simp] theorem State.fire_bankSide (s : State) (e : EventName) (x : EventSource) : (s.fire e x).bankSide = s.bankSide := rfl
@[simp] theorem State.notice_bankSide (s : State) (n : Notice) : (s.notice n).bankSide = s.bankSide := rfl
@[simp] theorem State.complete_bankSide (s : State) : s.complete.bankSide = s.bankSide := rfl
@[simp] theorem State.onPeer_bankSide (s : State) (n : Nat) (f : Peer → Peer) : (s.onPeer n f).bankSide = s.bankSide := rfl
@[simp] theorem State.setSlot_bankSide (s : State) (name : SlotName) (x : SponsorSlot) :
    (s.setSlot name x).bankSide = s.bankSide := by cases name <;> rfl

/-! ### The Sponsor Unit -/

@[simp] theorem State.drainTest_planSide (s : State) : s.drainTest.planSide = s.planSide := by
  unfold State.drainTest; split <;> rfl
@[simp] theorem State.drainTest_bankSide (s : State) : s.drainTest.bankSide = s.bankSide := by
  unfold State.drainTest; split <;> rfl

@[simp] theorem State.placePropose_planSide (s : State) (name : SlotName) (j : Job) :
    (s.placePropose name j).planSide = s.planSide := by cases name <;> rfl
@[simp] theorem State.placePropose_bankSide (s : State) (name : SlotName) (j : Job) :
    (s.placePropose name j).bankSide = s.bankSide := by cases name <;> rfl
@[simp] theorem State.placeRelease_planSide (s : State) (name : SlotName) (j : Job) :
    (s.placeRelease name j).planSide = s.planSide := by cases name <;> rfl
@[simp] theorem State.placeRelease_bankSide (s : State) (name : SlotName) (j : Job) :
    (s.placeRelease name j).bankSide = s.bankSide := by cases name <;> rfl

@[simp] theorem State.takeUpSlot_planSide (name : SlotName) :
    ∀ (fuel : Nat) (b : Bool) (s : State), (State.takeUpSlot name fuel b s).planSide = s.planSide
  | 0, _, _ => rfl
  | fuel + 1, b, s => by
    unfold State.takeUpSlot
    split
    · rfl
    · split
      · simp [State.takeUpSlot_planSide name fuel]
      · split
        · simp
        · split
          · simp
          · exact State.takeUpSlot_planSide name fuel _ s

@[simp] theorem State.takeUpSlot_bankSide (name : SlotName) :
    ∀ (fuel : Nat) (b : Bool) (s : State), (State.takeUpSlot name fuel b s).bankSide = s.bankSide
  | 0, _, _ => rfl
  | fuel + 1, b, s => by
    unfold State.takeUpSlot
    split
    · rfl
    · split
      · simp [State.takeUpSlot_bankSide name fuel]
      · split
        · simp
        · split
          · simp
          · exact State.takeUpSlot_bankSide name fuel _ s

@[simp] theorem State.takeUps_planSide (s : State) : s.takeUps.planSide = s.planSide := by
  unfold State.takeUps; dsimp only; split <;> split <;> simp
@[simp] theorem State.takeUps_bankSide (s : State) : s.takeUps.bankSide = s.bankSide := by
  unfold State.takeUps; dsimp only; split <;> split <;> simp

@[simp] theorem State.retrySlot_planSide (s : State) (name : SlotName) : (s.retrySlot name).planSide = s.planSide := by
  unfold State.retrySlot; dsimp only; repeat' split
  all_goals simp
@[simp] theorem State.retrySlot_bankSide (s : State) (name : SlotName) : (s.retrySlot name).bankSide = s.bankSide := by
  unfold State.retrySlot; dsimp only; repeat' split
  all_goals simp

@[simp] theorem State.sponsorEvent_planSide (s : State) : s.sponsorEvent.planSide = s.planSide := by
  simp [State.sponsorEvent]
@[simp] theorem State.sponsorEvent_bankSide (s : State) : s.sponsorEvent.bankSide = s.bankSide := by
  simp [State.sponsorEvent]
@[simp] theorem State.freeSlot_planSide (s : State) (name : SlotName) : (s.freeSlot name).planSide = s.planSide := by
  simp [State.freeSlot]
@[simp] theorem State.freeSlot_bankSide (s : State) (name : SlotName) : (s.freeSlot name).bankSide = s.bankSide := by
  simp [State.freeSlot]
@[simp] theorem State.endRequest_planSide (s : State) (name : SlotName) (n : Notice) :
    (s.endRequest name n).planSide = s.planSide := by simp [State.endRequest]
@[simp] theorem State.endRequest_bankSide (s : State) (name : SlotName) (n : Notice) :
    (s.endRequest name n).bankSide = s.bankSide := by simp [State.endRequest]

@[simp] theorem State.judgeClose_planSide (s : State) (name : SlotName) (slot : SponsorSlot) (j : Job) (h : HandOff) :
    (s.judgeClose name slot j h).planSide = s.planSide := by
  unfold State.judgeClose; dsimp only; repeat' split
  all_goals simp
@[simp] theorem State.judgeClose_bankSide (s : State) (name : SlotName) (slot : SponsorSlot) (j : Job) (h : HandOff) :
    (s.judgeClose name slot j h).bankSide = s.bankSide := by
  unfold State.judgeClose; dsimp only; repeat' split
  all_goals simp

@[simp] theorem State.takeHandOff_planSide (s : State) (h : HandOff) : (s.takeHandOff h).planSide = s.planSide := by
  unfold State.takeHandOff; repeat' split
  all_goals simp
@[simp] theorem State.takeHandOff_bankSide (s : State) (h : HandOff) : (s.takeHandOff h).bankSide = s.bankSide := by
  unfold State.takeHandOff; repeat' split
  all_goals simp
@[simp] theorem State.proposeNotOpened_planSide (s : State) : s.proposeNotOpened.planSide = s.planSide := by
  unfold State.proposeNotOpened; repeat' split
  all_goals simp
@[simp] theorem State.proposeNotOpened_bankSide (s : State) : s.proposeNotOpened.bankSide = s.bankSide := by
  unfold State.proposeNotOpened; repeat' split
  all_goals simp
@[simp] theorem State.releaseAnswered_planSide (s : State) (b : Bool) : (s.releaseAnswered b).planSide = s.planSide := by
  unfold State.releaseAnswered; repeat' split
  all_goals simp
@[simp] theorem State.releaseAnswered_bankSide (s : State) (b : Bool) : (s.releaseAnswered b).bankSide = s.bankSide := by
  unfold State.releaseAnswered; repeat' split
  all_goals simp
@[simp] theorem State.endSilent_planSide (s : State) (name : SlotName) : (s.endSilent name).planSide = s.planSide := by
  unfold State.endSilent; split <;> simp
@[simp] theorem State.endSilent_bankSide (s : State) (name : SlotName) : (s.endSilent name).bankSide = s.bankSide := by
  unfold State.endSilent; split <;> simp

@[simp] theorem State.cxeCancel_planSide (s : State) (g : Tag) : (s.cxeCancel g).2.planSide = s.planSide := by
  unfold State.cxeCancel; repeat' split
  all_goals simp

/-- A CANCEL at the Changeover Engine changes contexts and nothing else (R86). -/
theorem State.cxeCancel_rest (s : State) (g : Tag) :
    (s.cxeCancel g).2 = { s with cxe := { s.cxe with contexts := (s.cxeCancel g).2.cxe.contexts } } := by
  unfold State.cxeCancel; repeat' split
  all_goals rfl

@[simp] theorem State.proposeOpened_planSide (s : State) : s.proposeOpened.planSide = s.planSide := by
  unfold State.proposeOpened; split
  · rfl
  · dsimp only; split <;> simp

@[simp] theorem State.cancelOpen_planSide (s : State) (name : SlotName) (g : Tag) (j : Job) :
    (s.cancelOpen name g j).2.planSide = s.planSide := by
  have h := s.cxeCancel_planSide g
  unfold State.cancelOpen
  split <;> rename_i heq <;> rw [heq] at h
  · simpa using h
  · exact h
  · split
    · simpa using h
    · exact h

@[simp] theorem State.cancelSlot_planSide (s : State) (name : SlotName) (j : Job) :
    (s.cancelSlot name j).2.planSide = s.planSide := by
  unfold State.cancelSlot
  repeat' split
  all_goals first | rfl | simp
  all_goals repeat' split
  all_goals first | rfl | (simp; done) | (simp; rfl)

@[simp] theorem State.cancelRequest_planSide (s : State) (id : Nat) : (s.cancelRequest id).2.planSide = s.planSide := by
  unfold State.cancelRequest; repeat' split
  all_goals simp

/-- The withdrawal test leaves the plan side alone (R87). -/
@[simp] theorem State.testWithdrawals_planSide (s : State) : s.testWithdrawals.planSide = s.planSide := by
  unfold State.testWithdrawals
  generalize (s.cxe.contexts.filter (fun c => c.withdrawal == .pending && c.tooLate)).map Context.tag = l
  have : ∀ (l : List Tag) (u : State), (l.foldl (fun s tag => { s with spu := { s.spu with
      slotA := s.spu.slotA.cancelLate tag, slotB := s.spu.slotB.cancelLate tag } }) u).planSide = u.planSide := by
    intro l; induction l with
    | nil => intro u; rfl
    | cons a l ih => intro u; rw [List.foldl_cons, ih]; rfl
  exact this l _

/-! ### The Switch Bank Controller and the Route Table -/

/-- A fold of steps that each leave a part alone leaves it alone. -/
theorem foldl_keeps {α β γ : Type} (f : γ → α → γ) (g : γ → β) (h : ∀ u a, g (f u a) = g u) :
    ∀ (l : List α) (u : γ), g (l.foldl f u) = g u
  | [], _ => rfl
  | a :: l, u => by rw [List.foldl_cons, foldl_keeps f g h l, h]

@[simp] theorem State.claimCheck_planSide (s : State) (g : Tag) (m : Nat) (b : Option Nat) (t : Bool) :
    (s.claimCheck g m b t).2.planSide = s.planSide := by
  unfold State.claimCheck; dsimp only; split
  · rfl
  · exact foldl_keeps _ State.planSide (by intros; rfl) _ s

@[simp] theorem State.fixTrim_planSide (s : State) (g : Tag) (a c : Nat) : (s.fixTrim g a c).2.planSide = s.planSide := by
  unfold State.fixTrim; repeat' split
  all_goals rfl
@[simp] theorem State.convertClaims_planSide (s : State) (g : Tag) (r : Nat) :
    (s.convertClaims g r).2.planSide = s.planSide := rfl
@[simp] theorem State.dropTagClaims_planSide (s : State) (g : Tag) : (s.dropTagClaims g).planSide = s.planSide := rfl
@[simp] theorem State.dropRouteClaims_planSide (s : State) (r : Nat) : (s.dropRouteClaims r).planSide = s.planSide := rfl
@[simp] theorem State.dropBusy_planSide (s : State) (g : Tag) : (s.dropBusy g).planSide = s.planSide := rfl
@[simp] theorem State.takeDown_planSide (s : State) (r : Nat) : (s.takeDown r).planSide = s.planSide := rfl

@[simp] theorem State.fireWorn_planSide (s : State) (w : Switch) : (s.fireWorn w).planSide = s.planSide := by
  unfold State.fireWorn; repeat' split
  all_goals simp
@[simp] theorem State.fireFault_planSide (s : State) (w : Switch) : (s.fireFault w).planSide = s.planSide := by
  unfold State.fireFault; repeat' split
  all_goals simp

@[simp] theorem State.drive_planSide (s : State) (g : Tag) (b : Bool) (i p : Nat) : (s.drive g b i p).2.planSide = s.planSide := by
  have h : ∀ hot, ((s.members i).foldl (fun s w => s.onSwitch w.plan.index (Switch.driveMember g p hot)) s).planSide = s.planSide :=
    fun hot => foldl_keeps _ State.planSide (by intros; rfl) _ s
  unfold State.drive; dsimp only
  generalize (match s.switch? i with
    | some w => w.claims.any (fun c => c.holder == Holder.pending g && c.position == some p)
    | none => false) = claimed
  repeat' split
  all_goals dsimp only
  all_goals first
    | rfl
    | exact h false
    | (rw [foldl_keeps _ State.planSide State.fireWorn_planSide]
       exact h _)

@[simp] theorem State.endSettle_planSide (s : State) (i : Nat) : (s.endSettle i).2.planSide = s.planSide := by
  unfold State.endSettle; dsimp only
  rw [foldl_keeps _ State.planSide State.fireFault_planSide]
  exact foldl_keeps _ State.planSide (by intros; rfl) _ s

@[simp] theorem State.markRoutes_planSide (s : State) (m : Nat) (b : Option Nat) (f : Route → Route) :
    (s.markRoutes m b f).planSide = s.planSide := by
  unfold State.markRoutes; repeat' split
  all_goals simp
@[simp] theorem State.routeCheck_planSide (s : State) (g : Tag) (m : Nat) (b : Option Nat) (p t : Bool) :
    (s.routeCheck g m b p t).2.planSide = s.planSide := by
  unfold State.routeCheck; repeat' split
  all_goals simp
@[simp] theorem State.breakDown_planSide (s : State) (r : Nat) : (s.breakDown r).planSide = s.planSide := by
  unfold State.breakDown; repeat' split
  all_goals simp
@[simp] theorem State.makeEstablished_planSide (s : State) (c : Context) : (s.makeEstablished c).planSide = s.planSide := by
  unfold State.makeEstablished; split <;> simp
@[simp] theorem State.releaseHeard_planSide (s : State) (n r : Nat) (f : Bool) :
    (s.releaseHeard n r f).2.planSide = s.planSide := by
  unfold State.releaseHeard; repeat' split
  all_goals rfl
@[simp] theorem State.orphanRoutes_planSide (s : State) (a : List Nat) : (s.orphanRoutes a).planSide = s.planSide :=
  foldl_keeps _ State.planSide (by intros; rfl) _ s

/-! ### The Changeover Engine -/

@[simp] theorem State.handOver_planSide (s : State) (c : Context) (d : Bool) (r : CloseRecord) :
    (s.handOver c d r).planSide = s.planSide := by
  unfold State.handOver; split <;> simp

@[simp] theorem State.closeFailed_planSide (s : State) (c : Context) (r : CloseRecord) :
    (s.closeFailed c r).planSide = s.planSide := by
  unfold State.closeFailed; dsimp only; repeat' split
  all_goals simp

@[simp] theorem State.trimStep_planSide (s : State) (g : Tag) : (s.trimStep g).planSide = s.planSide := by
  unfold State.trimStep; repeat' split
  all_goals first | rfl | simp

@[simp] theorem State.enterCold_planSide (s : State) (c : Context) : (s.enterCold c).planSide = s.planSide := by
  unfold State.enterCold; dsimp only; repeat' split
  all_goals first | rfl | (rw [State.trimStep_planSide]; rfl)

@[simp] theorem State.driveFor_planSide (g : Tag) (s : State) (r : Nat × Nat) : (State.driveFor g s r).planSide = s.planSide := by
  simp [State.driveFor]

@[simp] theorem State.enterMove_planSide (s : State) (c : Context) : (s.enterMove c).planSide = s.planSide := by
  unfold State.enterMove; dsimp only
  rw [State.onContext_planSide]
  split
  · rw [foldl_keeps _ State.planSide (State.driveFor_planSide _)]; split <;> simp
  · split <;> simp

@[simp] theorem State.enterDone_planSide (s : State) (c : Context) : (s.enterDone c).planSide = s.planSide := by
  have h : ∀ u : State, u.planSide = s.planSide → (match (u.route? c.make).bind (fun r => r.plan.ready) with
      | some l => { u with rfg := u.rfg.pulse l }
      | none => u).planSide = s.planSide := by
    intro u hu; split <;> exact hu
  unfold State.enterDone; dsimp only
  rw [State.handOver_planSide, State.onContext_planSide]
  exact h _ (by simp)

@[simp] theorem State.testPhases_planSide (v : Voice) (g : Tag) :
    ∀ (fuel : Nat) (s : State), (State.testPhases v g fuel s).planSide = s.planSide
  | 0, _ => rfl
  | fuel + 1, s => by
    unfold State.testPhases
    repeat' split
    all_goals simp [State.testPhases_planSide v g fuel]

@[simp] theorem State.takeEntry_planSide (n : Nat) (s : State) (e : StageEntry) : (State.takeEntry n s e).planSide = s.planSide := by
  unfold State.takeEntry; dsimp only; repeat' split
  all_goals simp

@[simp] theorem State.closeOpen_planSide (r : Context → CloseRecord) (s : State) (g : Tag) :
    (State.closeOpen r s g).planSide = s.planSide := by
  unfold State.closeOpen; repeat' split
  all_goals simp

@[simp] theorem State.participantFreed_planSide (s : State) (n : Nat) (es : List StageEntry) :
    (s.participantFreed n es).planSide = s.planSide :=
  foldl_keeps _ State.planSide (State.closeOpen_planSide _) _ s

@[simp] theorem State.enterAnswer_planSide (s : State) (p : Propose) (g : Tag) (b : Bool) :
    (s.enterAnswer p g b).2.2.planSide = s.planSide := by
  have h := s.routeCheck_planSide g p.make p.brk b (p.trimNode == some s.me)
  unfold State.enterAnswer; dsimp only
  generalize s.routeCheck g p.make p.brk b (p.trimNode == some s.me) = x at h ⊢
  obtain ⟨answer, u⟩ := x
  dsimp only at h ⊢
  split
  · split
    · exact h
    · exact h
    · have k := u.claimCheck_planSide g p.make (p.brk.filter (fun b => (u.route? b).isSome)) (p.trimNode == some s.me)
      split <;> rename_i heq <;> rw [heq] at k <;> exact k.trans h
  · exact h

@[simp] theorem State.openContext_planSide (s : State) (p : Propose) (n : Nat) : (s.openContext p n).planSide = s.planSide := by
  have h := s.enterAnswer_planSide p { sponsor := n, seq := p.seq } (p.participants.contains s.me)
  unfold State.openContext; dsimp only
  exact h

@[simp] theorem State.endReservation_planSide (s : State) : s.endReservation.planSide = s.planSide := by
  unfold State.endReservation; split <;> simp
@[simp] theorem State.countRejected_planSide (s : State) : s.countRejected.planSide = s.planSide := rfl
@[simp] theorem State.countUnplaced_planSide (s : State) : s.countUnplaced.planSide = s.planSide := rfl

@[simp] theorem State.proposeHeard_planSide (s : State) (n : Nat) (p : Propose) : (s.proposeHeard n p).planSide = s.planSide := by
  unfold State.proposeHeard; dsimp only; repeat' split
  all_goals simp

@[simp] theorem State.messageHeard_planSide (s : State) (n : Nat) (b : Bool) (m : Option Message) :
    (s.messageHeard n b m).planSide = s.planSide := by
  unfold State.messageHeard; dsimp only; repeat' split
  all_goals simp

@[simp] theorem State.deliver_planSide (s : State) (r : SlotRecord) : (s.deliver r).planSide = s.planSide := by
  unfold State.deliver; dsimp only; split
  · rw [State.messageHeard_planSide, State.participantFreed_planSide,
      foldl_keeps _ State.planSide (State.takeEntry_planSide _)]
  · simp

@[simp] theorem State.freeContext_planSide (s : State) (g : Tag) : (s.freeContext g).planSide = s.planSide := by
  unfold State.freeContext; dsimp only; rw [State.drainTest_planSide]; rfl
@[simp] theorem State.freeIfDone_planSide (s : State) (g : Tag) : (s.freeIfDone g).planSide = s.planSide := by
  unfold State.freeIfDone; repeat' split
  all_goals simp
@[simp] theorem State.tellOutcome_planSide (r : SettleReport) (s : State) (g : Tag) :
    (State.tellOutcome r s g).planSide = s.planSide := by
  unfold State.tellOutcome; dsimp only; repeat' split
  all_goals simp
@[simp] theorem State.settleEnds_planSide (s : State) (i : Nat) : (s.settleEnds i).planSide = s.planSide := by
  unfold State.settleEnds; dsimp only
  rw [foldl_keeps _ State.planSide (State.tellOutcome_planSide _), State.endSettle_planSide]
@[simp] theorem State.windowRunsOut_planSide (s : State) (g : Tag) : (s.windowRunsOut g).planSide = s.planSide := by
  unfold State.windowRunsOut; repeat' split
  all_goals simp
@[simp] theorem State.quietRunsOut_planSide (s : State) (g : Tag) : (s.quietRunsOut g).planSide = s.planSide := by
  unfold State.quietRunsOut; repeat' split
  all_goals rfl
@[simp] theorem State.absenceContexts_planSide (s : State) (a : List Nat) : (s.absenceContexts a).planSide = s.planSide :=
  foldl_keeps _ State.planSide (State.closeOpen_planSide _) _ s
@[simp] theorem State.fallSilent_planSide (s : State) : s.fallSilent.planSide = s.planSide := by
  unfold State.fallSilent; dsimp only
  rw [State.endSilent_planSide, State.endSilent_planSide, foldl_keeps _ State.planSide (State.closeOpen_planSide _)]; rfl

/-! ### The Bus Interface Unit and the work of a frame end -/

@[simp] theorem State.enterDuplicate_planSide (s : State) (c : DuplicateCause) : (s.enterDuplicate c).planSide = s.planSide := by
  unfold State.enterDuplicate; dsimp only; rw [State.fallSilent_planSide]; rfl
@[simp] theorem State.peerSlot_planSide (s : State) (n : Nat) (h : Heard) : (s.peerSlot n h).planSide = s.planSide := by
  cases h with
  | nothing => rfl
  | failed => rfl
  | good r =>
    simp only [State.peerSlot, State.deliver_planSide, State.peerHeard]
    split <;> rfl
@[simp] theorem State.ownSlot_planSide (s : State) (c : Option SlotRecord) (h : Heard) : (s.ownSlot c h).planSide = s.planSide := by
  unfold State.ownSlot; repeat' split
  all_goals first | rfl | simp
  all_goals rfl
@[simp] theorem State.endSlot_planSide (s : State) (l : Bits) : (s.endSlot l).planSide = s.planSide := by
  unfold State.endSlot; dsimp only; repeat' split
  all_goals first | rfl | (simp; rfl)
@[simp] theorem State.startOwnSlot_planSide (s : State) : s.startOwnSlot.planSide = s.planSide := by
  have h : ∀ u : State, u.takeMessage.2.planSide = u.planSide := by
    intro u; unfold State.takeMessage; split
    · rfl
    · rw [State.setSlot_planSide]; rfl
  unfold State.startOwnSlot; dsimp only; split
  · exact (h _).trans s.testWithdrawals_planSide
  · rfl
@[simp] theorem State.peersGoAbsent_planSide (s : State) : s.peersGoAbsent.planSide = s.planSide := by
  unfold State.peersGoAbsent; dsimp only
  rw [State.orphanRoutes_planSide, State.absenceContexts_planSide, foldl_keeps _ State.planSide (by intros; rfl)]
@[simp] theorem State.silenceComplete_planSide (s : State) : s.silenceComplete.planSide = s.planSide := by
  unfold State.silenceComplete; split <;> rfl
@[simp] theorem State.clearComplete_planSide (s : State) : s.clearComplete.planSide = s.planSide := by
  unfold State.clearComplete; split
  · rw [State.sponsorEvent_planSide]; rfl
  · rfl
@[simp] theorem State.backoffRunsOut_planSide (s : State) (name : SlotName) : (s.backoffRunsOut name).planSide = s.planSide := by
  unfold State.backoffRunsOut; dsimp only; split <;> simp

/-- No piece of a frame end's work touches the plan side. -/
@[simp] theorem State.doWork_planSide (s : State) (w : Work) : (s.doWork w).planSide = s.planSide := by
  unfold State.doWork
  rw [State.complete_planSide]
  cases w <;> dsimp only
  case settle i => split <;> simp
  all_goals simp

/-- The work still owed leaves the memory, the plan loader and the calibration tables alone. -/
theorem State.caughtUp_keeps (s : State) : ({ s with agenda := [] } : State).keeps s.caughtUp := by
  rw [State.keeps_iff]
  exact foldl_keeps _ State.planSide State.doWork_planSide _ _

end Sys2Proof.Machine
end

