-- ==== Sys2Proof/Laws/Records.lean ====
section
/-! SUPPORT. Records found by their key before and after an update that keeps the key. -/

namespace Sys2Proof.Machine

/-- Finding by a key after a map that changes one key's records and keeps every key. -/
theorem find_map_key {α κ : Type} [DecidableEq κ] (key : α → κ) (f : α → α) (hf : ∀ a, key (f a) = key a) (k x : κ) :
    ∀ l : List α, (l.map (fun a => if key a = k then f a else a)).find? (fun a => key a == x)
      = if x = k then (l.find? (fun a => key a == x)).map f else l.find? (fun a => key a == x)
  | [] => by simp
  | a :: l => by
    have hk : key (if key a = k then f a else a) = key a := by split; exact hf a; rfl
    rw [List.map_cons, List.find?_cons, List.find?_cons, hk, find_map_key key f hf k x l]
    by_cases hx : key a = x
    · subst hx
      by_cases hc : key a = k <;> simp [hc]
    · rw [beq_eq_false_iff_ne.mpr hx]

/-- Finding by a key after a map that keeps every key. -/
theorem find_map_all {α κ : Type} [DecidableEq κ] (key : α → κ) (f : α → α) (hf : ∀ a, key (f a) = key a) (x : κ) (l : List α) :
    (l.map f).find? (fun a => key a == x) = (l.find? (fun a => key a == x)).map f := by
  rw [List.find?_map]
  congr 1
  congr 1
  funext a
  simp [hf]

/-! ### Switches -/

theorem State.switch_onSwitch (s : State) (i x : Nat) (f : Switch → Switch) (hf : ∀ w, (f w).plan.index = w.plan.index) :
    (s.onSwitch i f).switch? x = if x = i then (s.switch? x).map f else s.switch? x :=
  find_map_key (fun w : Switch => w.plan.index) f hf i x s.sbc

theorem State.switch_onSwitches (s : State) (x : Nat) (f : Switch → Switch) (hf : ∀ w, (f w).plan.index = w.plan.index) :
    (s.onSwitches f).switch? x = (s.switch? x).map f :=
  find_map_all (fun w : Switch => w.plan.index) f hf x s.sbc

/-- The switch found at an index carries it and stands in the bank. -/
theorem State.switch_spec {s : State} {i : Nat} {w : Switch} (h : s.switch? i = some w) : w ∈ s.sbc ∧ w.plan.index = i := by
  unfold State.switch? at h
  exact ⟨List.mem_of_find?_eq_some h, by simpa using List.find?_some h⟩

/-! ### Routes -/

theorem State.route_onRoute (s : State) (i x : Nat) (f : Route → Route) (hf : ∀ r, (f r).plan.id = r.plan.id) :
    (s.onRoute i f).route? x = if x = i then (s.route? x).map f else s.route? x :=
  find_map_key (fun r : Route => r.plan.id) f hf i x s.rtb.routes

theorem State.route_onRoutes (s : State) (x : Nat) (f : Route → Route) (hf : ∀ r, (f r).plan.id = r.plan.id) :
    (s.onRoutes f).route? x = (s.route? x).map f :=
  find_map_all (fun r : Route => r.plan.id) f hf x s.rtb.routes

theorem State.route_spec {s : State} {i : Nat} {r : Route} (h : s.route? i = some r) : r ∈ s.rtb.routes ∧ r.plan.id = i := by
  unfold State.route? at h
  exact ⟨List.mem_of_find?_eq_some h, by simpa using List.find?_some h⟩

/-! ### Contexts -/

theorem State.context_onContext (s : State) (g x : Tag) (f : Context → Context) (hf : ∀ c, (f c).tag = c.tag) :
    (s.onContext g f).context? x = if x = g then (s.context? x).map f else s.context? x :=
  find_map_key Context.tag f hf g x s.cxe.contexts

theorem State.context_spec {s : State} {g : Tag} {c : Context} (h : s.context? g = some c) : c ∈ s.cxe.contexts ∧ c.tag = g := by
  unfold State.context? at h
  exact ⟨List.mem_of_find?_eq_some h, by simpa using List.find?_some h⟩

/-- A context update that keeps tags keeps the table law (R63, R64). -/
theorem Cxe.lawful_of_same {c d : Cxe} (h : c.lawful) (ht : d.contexts.map Context.tag = c.contexts.map Context.tag)
    (hr : d.reservations = c.reservations) : d.lawful := by
  have hl := congrArg List.length ht
  simp only [List.length_map] at hl
  exact ⟨ht ▸ h.1, by rw [hl, hr]; exact h.2⟩

end Sys2Proof.Machine
end

