-- ==== Sys2Proof/Laws/Bank.lean ====
section
/-! SUPPORT. The Switch Bank Controller: which operations touch claims alone, what a drive answers, and what a settle leaves
(chapter 1). -/

namespace Sys2Proof.Machine

/-! ### Claims alone -/

/-- A switch less its claims. -/
def Switch.bare (w : Switch) : Switch := { w with claims := [] }

@[simp] theorem Switch.grant_bare (g : Tag) (b : Option Nat) (p : Option Nat) (w : Switch) : (w.grant g b p).bare = w.bare := by
  unfold Switch.grant; split <;> rfl
@[simp] theorem Switch.fixPosition_bare (g : Tag) (c : Nat) (w : Switch) : (w.fixPosition g c).bare = w.bare := rfl
@[simp] theorem Switch.convert_bare (g : Tag) (r : Nat) (w : Switch) : (w.convert g r).bare = w.bare := rfl
@[simp] theorem Switch.dropTag_bare (g : Tag) (w : Switch) : (w.dropTag g).bare = w.bare := rfl
@[simp] theorem Switch.dropRoute_bare (r : Nat) (w : Switch) : (w.dropRoute r).bare = w.bare := rfl

/-- A claim operation keeps every switch's plan. -/
theorem Switch.plan_of_bare {v w : Switch} (h : v.bare = w.bare) : v.plan = w.plan := by
  have := congrArg Switch.plan h
  exact this

theorem map_bare_onSwitch (s : State) (i : Nat) (f : Switch → Switch) (hf : ∀ w, (f w).bare = w.bare) :
    (s.onSwitch i f).sbc.map Switch.bare = s.sbc.map Switch.bare := by
  simp only [State.onSwitch, List.map_map]
  apply List.map_congr_left
  intro w _
  simp only [Function.comp]
  split
  · exact hf w
  · rfl

theorem map_bare_onSwitches (s : State) (f : Switch → Switch) (hf : ∀ w, (f w).bare = w.bare) :
    (s.onSwitches f).sbc.map Switch.bare = s.sbc.map Switch.bare := by
  simp only [State.onSwitches, List.map_map]
  exact List.map_congr_left (fun w _ => hf w)

/-- The claim check changes nothing but claims (R7, R8). -/
theorem State.claimCheck_bare (s : State) (g : Tag) (m : Nat) (b : Option Nat) (t : Bool) :
    (s.claimCheck g m b t).2.sbc.map Switch.bare = s.sbc.map Switch.bare := by
  unfold State.claimCheck; dsimp only; split
  · rfl
  · exact foldl_keeps _ (fun u => u.sbc.map Switch.bare) (fun u (a : Nat × Option Nat) => map_bare_onSwitch u a.1 _ (Switch.grant_bare g b a.2)) _ s

/-- The claim check touches the switch bank alone. -/
theorem State.claimCheck_rest (s : State) (g : Tag) (m : Nat) (b : Option Nat) (t : Bool) :
    (s.claimCheck g m b t).2 = { s with sbc := (s.claimCheck g m b t).2.sbc } := by
  unfold State.claimCheck; dsimp only; split
  · rfl
  · have h := foldl_keeps (fun (u : State) (q : Nat × Option Nat) => u.onSwitch q.1 (Switch.grant g b q.2))
      (fun u : State => { u with sbc := [] }) (fun _ _ => rfl) (s.coveredSet m t) s
    exact congrArg (fun u : State => { u with sbc := ((s.coveredSet m t).foldl
      (fun (u : State) (q : Nat × Option Nat) => u.onSwitch q.1 (Switch.grant g b q.2)) s).sbc }) h

/-! ### Established claims -/

/-- Everything a trim fixing can do (R9): NO CLAIM and nothing changes, or FIXED at a switch the tag claims. -/
theorem State.fixTrim_cases (s : State) (g : Tag) (a c : Nat) :
    s.fixTrim g a c = (.noClaim, s) ∨
      ∃ w, s.switch? a = some w ∧ w.claimedBy g = true ∧
        s.fixTrim g a c = (.fixed, s.onSwitch a (Switch.fixPosition g c)) := by
  unfold State.fixTrim
  split
  · split
    · exact .inr ⟨_, ‹_›, ‹_›, rfl⟩
    · exact .inl rfl
  · exact .inl rfl

/-- A tag claims a switch where one of its entries names the tag (R4). -/
theorem Switch.claimedBy_iff (g : Tag) (w : Switch) :
    w.claimedBy g = true ↔ ∃ c ∈ w.claims, c.holder = .pending g ∨ c.successor.map Successor.tag = some g := by
  simp [Switch.claimedBy]

/-- No established claim of a route remains on a switch after it is dropped (R12). -/
theorem Switch.dropRoute_none (r : Nat) (w : Switch) : ∀ c ∈ (w.dropRoute r).claims, c.holder ≠ .established r := by
  intro c hc
  obtain ⟨x, _, hx⟩ := List.mem_filterMap.mp hc
  split at hx
  · split at hx
    · obtain rfl := Option.some.inj hx
      exact fun h => by cases h
    · cases hx
  · obtain rfl := Option.some.inj hx
    assumption

/-- No pending claim and no successor of a tag remains on a switch after it is dropped (R11). -/
theorem Switch.dropTag_none (g : Tag) (w : Switch) :
    ∀ c ∈ (w.dropTag g).claims, c.holder ≠ .pending g ∧ ∀ u ∈ c.successor, u.tag ≠ g := by
  intro c hc
  obtain ⟨x, hx, rfl⟩ := List.mem_map.mp hc
  have hh : x.holder ≠ .pending g := by simpa using (List.mem_filter.mp hx).2
  split
  · rename_i u he
    split
    · exact ⟨hh, fun v hv => by cases hv⟩
    · rename_i hn
      refine ⟨hh, fun v hv => ?_⟩
      rw [he] at hv; obtain rfl := Option.some.inj hv; exact hn
  · rename_i he
    exact ⟨hh, fun v hv => by rw [he] at hv; cases hv⟩

/-- No pending claim of a tag remains on a switch after its conversion (R10). -/
theorem Switch.convert_none (g : Tag) (r : Nat) (w : Switch) : ∀ c ∈ (w.convert g r).claims, c.holder ≠ .pending g := by
  intro c hc
  obtain ⟨x, _, rfl⟩ := List.mem_map.mp hc
  split
  · exact fun h => by cases h
  · assumption

/-! ### Drive -/

@[simp] theorem Switch.applyDrive_plan (p : Nat) (h : Bool) (w : Switch) : (w.applyDrive p h).plan = w.plan := rfl
@[simp] theorem Switch.addWaiter_plan (g : Tag) (w : Switch) : (w.addWaiter g).plan = w.plan := by
  unfold Switch.addWaiter; split <;> rfl
@[simp] theorem Switch.addWaiter_claims (g : Tag) (w : Switch) : (w.addWaiter g).claims = w.claims := by
  unfold Switch.addWaiter; split <;> rfl
@[simp] theorem Switch.driveMember_plan (g : Tag) (p : Nat) (h : Bool) (w : Switch) : (w.driveMember g p h).plan = w.plan := by
  unfold Switch.driveMember; split
  · rfl
  · split <;> simp
@[simp] theorem Switch.driveMember_claims (g : Tag) (p : Nat) (h : Bool) (w : Switch) :
    (w.driveMember g p h).claims = w.claims := by
  unfold Switch.driveMember; split
  · rfl
  · split
    · simp
    · rw [Switch.addWaiter_claims]; rfl

/-- What a drive request answers and does (R13). `hot` is the hot test of R104. -/
theorem State.drive_cases (s : State) (g : Tag) (b : Bool) (i p : Nat) :
    let driven (hot : Bool) := (s.members i).foldl (fun s w => s.onSwitch w.plan.index (Switch.driveMember g p hot)) s
    s.drive g b i p = (.refused, s) ∨
    (∃ r, s.drive g b i p = (.fault r, s) ∧ ∃ w ∈ s.members i, w.state = .fault) ∨
    (s.drive g b i p = (.atPosition, s) ∧ ∀ w ∈ s.members i, w.stillAt p = true) ∨
    (s.drive g b i p = (.wait, driven false) ∧ ∀ w ∈ s.members i, w.stillAt p = true ∨ w.movingTo p = true) ∨
    (s.drive g b i p = (.driven (s.rfg.hotTest g), (s.members i).foldl State.fireWorn
        (if s.rfg.hotTest g then (driven (s.rfg.hotTest g)).fire .hotMove (.switch i) else driven (s.rfg.hotTest g))) ∧
      (∀ w ∈ s.members i, w.state ≠ .fault) ∧ ∃ w ∈ s.members i, w.stillAt p = false ∧ w.movingTo p = false) := by
  intro driven
  unfold State.drive
  dsimp only
  split
  · split
    · exact .inl rfl
    · split
      · rename_i h
        obtain ⟨w, hw, hf⟩ := List.any_eq_true.mp h
        exact .inr (.inl ⟨_, rfl, w, hw, by simpa using hf⟩)
      · split
        · rename_i h
          exact .inr (.inr (.inl ⟨rfl, fun w hw => List.all_eq_true.mp h w hw⟩))
        · split
          · rename_i h
            exact .inr (.inr (.inr (.inl ⟨rfl, fun w hw => by simpa using List.all_eq_true.mp h w hw⟩)))
          · rename_i hf _ h
            refine .inr (.inr (.inr (.inr ⟨rfl, fun w hw he => hf ?_, ?_⟩)))
            · exact List.any_eq_true.mpr ⟨w, hw, by simp [he]⟩
            · simpa [and_assoc] using h
  · split
    · exact .inl rfl
    · rename_i h; simp at h

/-- A drive touches switches and events alone. -/
theorem State.drive_rest (s : State) (g : Tag) (b : Bool) (i p : Nat) :
    (s.drive g b i p).2 = { s with sbc := (s.drive g b i p).2.sbc, ctp := (s.drive g b i p).2.ctp } := by
  let rest : State → State := fun u => { u with sbc := [], ctp := s.ctp }
  have hw : ∀ (u : State) (w : Switch), rest (u.fireWorn w) = rest u := by
    intro u w; unfold State.fireWorn; repeat' split
    all_goals rfl
  have hd : ∀ hot, rest ((s.members i).foldl (fun s w => s.onSwitch w.plan.index (Switch.driveMember g p hot)) s) = rest s :=
    fun hot => foldl_keeps _ rest (by intros; rfl) _ s
  have h : rest (s.drive g b i p).2 = rest s := by
    rcases State.drive_cases s g b i p with e | ⟨_, e, _⟩ | ⟨e, _⟩ | ⟨e, _⟩ | ⟨e, _⟩
    · rw [e]
    · rw [e]
    · rw [e]
    · rw [e]; exact hd false
    · rw [e]
      dsimp only
      rw [foldl_keeps _ rest hw]
      split <;> exact hd _
  have := congrArg (fun u : State => { u with sbc := (s.drive g b i p).2.sbc, ctp := (s.drive g b i p).2.ctp }) h
  exact this

/-! ### Settle -/

@[simp] theorem Switch.afterSettle_plan (sense : SenseLevels) (r : FaultReason) (w : Switch) :
    (w.afterSettle sense r).plan = w.plan := by
  unfold Switch.afterSettle; split
  · split <;> rfl
  · rfl

@[simp] theorem Switch.afterSettle_claims (sense : SenseLevels) (r : FaultReason) (w : Switch) :
    (w.afterSettle sense r).claims = w.claims := by
  unfold Switch.afterSettle; split
  · split <;> rfl
  · rfl

/-- No switch is MOVING after its settle is judged (R17). -/
theorem Switch.afterSettle_state (sense : SenseLevels) (r : FaultReason) (w : Switch) :
    (w.afterSettle sense r).state ≠ .moving := by
  unfold Switch.afterSettle; split
  · split <;> exact fun h => by cases h
  · assumption

end Sys2Proof.Machine
end

