-- ==== Sys2Proof/Laws/Guard.lean ====
section
/-! SUPPORT. What each operation of the RF Guard does, and that each keeps the guard law (chapter 5). -/

namespace Sys2Proof.Machine

/-! ### Entries -/

/-- The entry found for a tag holds it and stands in the table. -/
theorem Rfg.entry_spec {g : Rfg} {tag : Tag} {e : GuardEntry} (h : g.entry? tag = some e) : e ∈ g.guards ∧ e.tag = tag := by
  unfold Rfg.entry? at h
  exact ⟨List.mem_of_find?_eq_some h, by simpa using List.find?_some h⟩

/-- Where no entry is found, no entry holds the tag. -/
theorem Rfg.entry_none {g : Rfg} {tag : Tag} (h : g.entry? tag = none) : ∀ e ∈ g.guards, e.tag ≠ tag := by
  intro e he
  simpa using List.find?_eq_none.mp h e he

/-- The open request (R98) adds one entry with its lines' users, or changes nothing. -/
theorem Rfg.openGuard_cases (g : Rfg) (tag : Tag) (lines detectors : List Nat) (hot : Bool) :
    ((∃ e, g.entry? tag = some e) ∧ g.openGuard tag lines detectors hot = g) ∨
    (g.entry? tag = none ∧ g.openGuard tag lines detectors hot = { g with
      guards := g.guards ++ [{ tag := tag, lines := lines, detectors := detectors, hotTolerant := hot, watch := false }]
      lines := g.lines.map (fun l => if l.line ∈ lines then l.take else l) }) := by
  unfold Rfg.openGuard
  split
  · exact .inl ⟨⟨_, ‹_›⟩, rfl⟩
  · exact .inr ⟨‹_›, rfl⟩

/-- The close request (R103) takes one entry and its lines' users away, or changes nothing. -/
theorem Rfg.closeGuard_cases (g : Rfg) (tag : Tag) :
    (g.entry? tag = none ∧ g.closeGuard tag = g) ∨
    ∃ e, g.entry? tag = some e ∧ g.closeGuard tag = { g with
      guards := g.guards.filter (fun x => x.tag != tag)
      lines := g.lines.map (fun l => if l.line ∈ e.lines then l.release else l) } := by
  unfold Rfg.closeGuard
  split
  · exact .inl ⟨‹_›, rfl⟩
  · exact .inr ⟨_, ‹_›, rfl⟩

@[simp] theorem Rfg.closeGuard_detectors (g : Rfg) (tag : Tag) : (g.closeGuard tag).detectors = g.detectors := by
  unfold Rfg.closeGuard; split <;> rfl
@[simp] theorem Rfg.closeGuard_ready (g : Rfg) (tag : Tag) : (g.closeGuard tag).ready = g.ready := by
  unfold Rfg.closeGuard; split <;> rfl
@[simp] theorem Rfg.closeGuard_pulseWidth (g : Rfg) (tag : Tag) : (g.closeGuard tag).pulseWidth = g.pulseWidth := by
  unfold Rfg.closeGuard; split <;> rfl
@[simp] theorem Rfg.openGuard_detectors (g : Rfg) (tag : Tag) (l d : List Nat) (h : Bool) :
    (g.openGuard tag l d h).detectors = g.detectors := by unfold Rfg.openGuard; split <;> rfl
@[simp] theorem Rfg.openGuard_ready (g : Rfg) (tag : Tag) (l d : List Nat) (h : Bool) :
    (g.openGuard tag l d h).ready = g.ready := by unfold Rfg.openGuard; split <;> rfl
@[simp] theorem Rfg.setWatch_lines (g : Rfg) (tag : Tag) (b : Bool) : (g.setWatch tag b).lines = g.lines := rfl
@[simp] theorem Rfg.setWatch_detectors (g : Rfg) (tag : Tag) (b : Bool) : (g.setWatch tag b).detectors = g.detectors := rfl
@[simp] theorem Rfg.pulse_lines (g : Rfg) (l : Nat) : (g.pulse l).lines = g.lines := rfl
@[simp] theorem Rfg.pulse_guards (g : Rfg) (l : Nat) : (g.pulse l).guards = g.guards := rfl
@[simp] theorem Rfg.pulse_detectors (g : Rfg) (l : Nat) : (g.pulse l).detectors = g.detectors := rfl
@[simp] theorem Rfg.pulseExpiry_lines (g : Rfg) (l : Nat) : (g.pulseExpiry l).lines = g.lines := rfl
@[simp] theorem Rfg.pulseExpiry_guards (g : Rfg) (l : Nat) : (g.pulseExpiry l).guards = g.guards := rfl

/-- The watch set on an entry changes that flag of it alone. -/
theorem Rfg.entry_setWatch (g : Rfg) (tag : Tag) (b : Bool) (x : Tag) : (g.setWatch tag b).entry? x =
    (g.entry? x).map (fun e => if e.tag = tag then { e with watch := b } else e) := by
  unfold Rfg.entry? Rfg.setWatch
  dsimp only
  induction g.guards with
  | nil => rfl
  | cons e l ih =>
    simp only [List.map_cons, List.find?_cons]
    have : ((if e.tag = tag then { e with watch := b } else e).tag == x) = (e.tag == x) := by split <;> rfl
    rw [this]
    cases e.tag == x
    · exact ih
    · rfl

/-! ### The guard law -/

/-- The entries that name a line, counted, over tables with the same tags and lines. -/
theorem Rfg.lawful_of_same {g h : Rfg} (hg : g.lawful) (hl : h.lines = g.lines)
    (he : h.guards.map (fun e => (e.tag, e.lines)) = g.guards.map (fun e => (e.tag, e.lines))) : h.lawful := by
  have ht : h.guards.map GuardEntry.tag = g.guards.map GuardEntry.tag := by
    have := congrArg (List.map Prod.fst) he
    simpa [List.map_map, Function.comp_def] using this
  have hc : ∀ n, (h.guards.filter (fun e => e.lines.contains n)).length
      = (g.guards.filter (fun e => e.lines.contains n)).length := by
    intro n
    have := congrArg (fun l => (l.filter (fun p : Tag × List Nat => p.2.contains n)).length) he
    simpa [List.filter_map, Function.comp_def] using this
  refine ⟨by rw [ht]; exact hg.1, ?_⟩
  rw [hl]
  intro l hm
  rw [hc]
  exact hg.2 l hm

theorem Rfg.lawful_setWatch {g : Rfg} (h : g.lawful) (tag : Tag) (b : Bool) : (g.setWatch tag b).lawful :=
  Rfg.lawful_of_same h rfl (by
    unfold Rfg.setWatch
    rw [List.map_map]
    apply List.map_congr_left
    intro e _
    simp only [Function.comp]
    split <;> rfl)

theorem Rfg.lawful_openGuard {g : Rfg} (h : g.lawful) (tag : Tag) (lines detectors : List Nat) (hot : Bool) :
    (g.openGuard tag lines detectors hot).lawful := by
  rcases Rfg.openGuard_cases g tag lines detectors hot with ⟨_, e⟩ | ⟨hn, e⟩
  · rw [e]; exact h
  · rw [e]
    refine ⟨?_, ?_⟩
    · rw [List.map_append, List.nodup_append]
      refine ⟨h.1, by simp, ?_⟩
      intro a ha b hb
      simp only [List.map_cons, List.map_nil, List.mem_singleton] at hb
      obtain ⟨x, hx, rfl⟩ := List.mem_map.mp ha
      rw [hb]; exact Rfg.entry_none hn x hx
    · intro l hl
      obtain ⟨m, hm, rfl⟩ := List.mem_map.mp hl
      have hu := h.2 m hm
      by_cases hc : m.line ∈ lines
      · simp only [hc, if_true, InhibitLine.take, List.filter_append, List.length_append, hu.1]
        simp [List.filter, hc]
      · simp only [hc, if_false, List.filter_append, List.length_append]
        simp only [List.filter, List.contains_eq_mem, hc, decide_false, List.length_nil, Nat.add_zero]
        simpa using hu

/-- The entries that name a line, with one tag taken out of a table without repeats. -/
theorem filter_remove_length {g : List GuardEntry} (hn : (g.map GuardEntry.tag).Nodup) {e : GuardEntry} (he : e ∈ g)
    (p : GuardEntry → Bool) :
    ((g.filter (fun x => x.tag != e.tag)).filter p).length + (if p e then 1 else 0) = (g.filter p).length := by
  induction g with
  | nil => cases he
  | cons x l ih =>
    rw [List.map_cons, List.nodup_cons] at hn
    rcases List.mem_cons.mp he with rfl | hm
    · have hr : l.filter (fun x => x.tag != e.tag) = l := by
        rw [List.filter_eq_self]
        intro y hy
        have : y.tag ≠ e.tag := fun h => hn.1 (h ▸ List.mem_map_of_mem hy)
        simpa using this
      simp only [List.filter_cons, bne_self_eq_false, Bool.false_eq_true, if_false, hr]
      split <;> simp
    · have hx : x.tag ≠ e.tag := fun h => hn.1 (h ▸ List.mem_map_of_mem hm)
      have := ih hn.2 hm
      simp only [List.filter_cons, bne_iff_ne, ne_eq, hx, not_false_eq_true, if_true]
      split
      · simp only [List.length_cons, ← this]; omega
      · exact this

theorem Rfg.lawful_closeGuard {g : Rfg} (h : g.lawful) (tag : Tag) : (g.closeGuard tag).lawful := by
  rcases Rfg.closeGuard_cases g tag with ⟨_, e⟩ | ⟨x, hx, e⟩
  · rw [e]; exact h
  · obtain ⟨hm, ht⟩ := Rfg.entry_spec hx
    rw [e]
    refine ⟨(List.filter_sublist.map _).nodup h.1, ?_⟩
    intro l hl
    obtain ⟨m, hmem, rfl⟩ := List.mem_map.mp hl
    have hu := h.2 m hmem
    have hf := filter_remove_length h.1 hm (fun e => e.lines.contains m.line)
    rw [ht] at hf
    by_cases hc : m.line ∈ x.lines
    · simp only [hc, if_true, InhibitLine.release]
      simp only [List.contains_eq_mem, hc, decide_true, if_true] at hf
      refine ⟨?_, trivial⟩
      have := hu.1
      simp only [List.contains_eq_mem] at this ⊢
      omega
    · simp only [hc, if_false]
      simp only [List.contains_eq_mem, hc, decide_false, Bool.false_eq_true, if_false, Nat.add_zero] at hf
      refine ⟨?_, hu.2⟩
      have := hu.1
      simp only [List.contains_eq_mem] at this ⊢
      omega

theorem Rfg.lawful_pulse {g : Rfg} (h : g.lawful) (l : Nat) : (g.pulse l).lawful := Rfg.lawful_of_same h rfl rfl
theorem Rfg.lawful_pulseExpiry {g : Rfg} (h : g.lawful) (l : Nat) : (g.pulseExpiry l).lawful :=
  Rfg.lawful_of_same h rfl rfl
theorem Rfg.lawful_endWatch {g : Rfg} (h : g.lawful) (tag : Tag) : (g.endWatch tag).lawful := Rfg.lawful_setWatch h tag false

theorem Rfg.lawful_quietTest {g : Rfg} (h : g.lawful) (tag : Tag) : (g.quietTest tag).2.lawful := by
  unfold Rfg.quietTest
  split
  · exact h
  · split <;> exact Rfg.lawful_setWatch h tag _

theorem Rfg.lawful_takeSample {g : Rfg} (h : g.lawful) (input : Nat) (level : Int) : (g.takeSample input level).1.lawful := by
  unfold Rfg.takeSample
  dsimp only
  split
  · exact Rfg.lawful_of_same h rfl rfl
  · refine Rfg.lawful_of_same h rfl ?_
    dsimp only
    rw [List.map_map]
    apply List.map_congr_left
    intro e _
    simp only [Function.comp]
    split <;> rfl

theorem Rfg.lawful_restart (g : Rfg) : g.restart.lawful := by
  refine ⟨List.nodup_nil, ?_⟩
  intro l hl
  obtain ⟨m, _, rfl⟩ := List.mem_map.mp hl
  exact ⟨rfl, rfl⟩

/-! ### The quiet test -/

/-- The quiet test (R100) sets the watch of its entry and nothing else. -/
theorem Rfg.quietTest_guard (g : Rfg) (tag : Tag) : (g.quietTest tag).2.detectors = g.detectors ∧
    (g.quietTest tag).2.lines = g.lines ∧ (g.quietTest tag).2.ready = g.ready := by
  unfold Rfg.quietTest
  split
  · exact ⟨rfl, rfl, rfl⟩
  · split <;> exact ⟨rfl, rfl, rfl⟩

end Sys2Proof.Machine
end

