-- ==== Sys2Proof/Laws/Sponsor.lean ====
section
/-! SUPPORT. The Sponsor Unit: what a retry, a take-up and a close can do, and when they do nothing (chapter 7). -/

namespace Sys2Proof.Machine

/-! ### When nothing happens -/

/-- A slot that is not in BACKOFF has nothing to retry (R137). -/
theorem State.retrySlot_idle (s : State) (name : SlotName) (h : (s.slot name).state ≠ .backoff) : s.retrySlot name = s := by
  unfold State.retrySlot; dsimp only; split
  · rw [if_neg (fun e => h e.1)]
  · rfl

/-- Outside ON-BUS and DRAINING nothing is retried (R137). -/
theorem State.retrySlot_silent (s : State) (name : SlotName) (h : s.biu.busState.speaks = false) : s.retrySlot name = s := by
  unfold State.retrySlot; dsimp only; split
  · rw [if_neg (fun e => by rw [h] at e; simp at e)]
  · rfl

/-- An empty queue gives no take-up (R130). -/
theorem State.takeUps_empty (s : State) (h : s.ctp.queue = []) : s.takeUps = s := by
  have one : ∀ name b, State.takeUpSlot name 1 b s = s := by
    intro name b; unfold State.takeUpSlot; rw [h]; rfl
  unfold State.takeUps; dsimp only
  have hl : s.ctp.queue.length + 1 = 1 := by rw [h]; rfl
  simp only [hl, one]
  simp only [ite_self, hl, one]

/-- Only an ON-BUS node takes requests up (R130). -/
theorem State.takeUps_offBus (s : State) (h : s.biu.busState ≠ .onBus) : s.takeUps = s := by
  unfold State.takeUps; simp [h]

/-- An event of R130 at a node that does not speak does nothing. -/
theorem State.sponsorEvent_silent (s : State) (h : s.biu.busState.speaks = false) : s.sponsorEvent = s := by
  have hb : s.biu.busState ≠ .onBus := fun e => by rw [e] at h; cases h
  unfold State.sponsorEvent
  rw [s.retrySlot_silent .a h, s.retrySlot_silent .b h, s.takeUps_offBus hb]

/-- An event of R130 with no slot in BACKOFF and no request waiting does nothing. -/
theorem State.sponsorEvent_idle (s : State) (hq : s.ctp.queue = []) (ha : s.spu.slotA.state ≠ .backoff)
    (hb : s.spu.slotB.state ≠ .backoff) : s.sponsorEvent = s := by
  unfold State.sponsorEvent
  rw [s.retrySlot_idle .a ha, s.retrySlot_idle .b hb, s.takeUps_empty hq]

@[simp] theorem State.drainTest_slot (s : State) (name : SlotName) : s.drainTest.slot name = s.slot name := by
  unfold State.drainTest; split <;> cases name <;> rfl
@[simp] theorem State.drainTest_ctp (s : State) : s.drainTest.ctp = s.ctp := by unfold State.drainTest; split <;> rfl
@[simp] theorem State.drainTest_cxe (s : State) : s.drainTest.cxe = s.cxe := by unfold State.drainTest; split <;> rfl
@[simp] theorem State.drainTest_spu (s : State) : s.drainTest.spu = s.spu := by unfold State.drainTest; split <;> rfl
@[simp] theorem State.drainTest_sbc (s : State) : s.drainTest.sbc = s.sbc := by unfold State.drainTest; split <;> rfl
@[simp] theorem State.drainTest_rtb (s : State) : s.drainTest.rtb = s.rtb := by unfold State.drainTest; split <;> rfl
@[simp] theorem State.drainTest_rfg (s : State) : s.drainTest.rfg = s.rfg := by unfold State.drainTest; split <;> rfl

/-- The end of DRAINING (R53): OFF-BUS with silence 12, or nothing. -/
theorem State.drainTest_cases (s : State) :
    (s.drainTest = { s with biu := { s.biu with busState := .offBus, silence := 12 } } ∧ s.biu.busState = .draining) ∨
      s.drainTest = s := by
  unfold State.drainTest; split
  · rename_i h; exact .inl ⟨rfl, h.1⟩
  · exact .inr rfl

/-! ### Retry, take-up, close -/

/-- What a retry can do (R137): nothing, end the request on a failed re-check, or place a new PROPOSE under a free place. -/
theorem State.retrySlot_cases (s : State) (name : SlotName) :
    s.retrySlot name = s ∨
    ∃ j, (s.slot name).job = some j ∧ (s.slot name).state = .backoff ∧ (s.slot name).backoff = 0 ∧
      s.biu.busState.speaks = true ∧ s.jobBusy j = false ∧
      ((∃ why, s.recheck j = some why ∧ s.retrySlot name =
          ((s.setSlot name .empty).notice (j.notice .failed why.result (s.slot name).attempts)).drainTest) ∨
        (s.recheck j = none ∧ s.placeFree = true ∧ s.retrySlot name = s.placePropose name j)) := by
  unfold State.retrySlot; dsimp only
  split
  · rename_i j hj
    split
    · rename_i h
      split
      · exact .inr ⟨j, hj, h.1, h.2.1, h.2.2.1, h.2.2.2, .inl ⟨_, ‹_›, rfl⟩⟩
      · split
        · exact .inr ⟨j, hj, h.1, h.2.1, h.2.2.1, h.2.2.2, .inr ⟨‹_›, ‹_›, rfl⟩⟩
        · exact .inl rfl
    · exact .inl rfl
  · exact .inl rfl

/-- What one round of a take-up can do (R130, R132): nothing, a request ended on a failed re-check, a RELEASE placed, a PROPOSE
placed under a free place, or a second look among the BREAKs. -/
theorem State.takeUpSlot_cases (name : SlotName) (fuel : Nat) (b : Bool) (s : State) :
    State.takeUpSlot name (fuel + 1) b s = s ∨
    ∃ j ∈ s.ctp.queue, s.eligible name j = true ∧
      ((∃ why, s.recheck j = some why ∧ State.takeUpSlot name (fuel + 1) b s =
          State.takeUpSlot name fuel b ((s.dequeue j).notice (j.notice .failed why.result 0))) ∨
        (s.recheck j = none ∧ j.kind = .breakRoute ∧ State.takeUpSlot name (fuel + 1) b s = (s.dequeue j).placeRelease name j) ∨
        (s.recheck j = none ∧ j.kind ≠ .breakRoute ∧ s.placeFree = true ∧
          State.takeUpSlot name (fuel + 1) b s = (s.dequeue j).placePropose name j) ∨
        (j.kind ≠ .breakRoute ∧ s.placeFree = false ∧
          State.takeUpSlot name (fuel + 1) b s = State.takeUpSlot name fuel true s)) := by
  rw [State.takeUpSlot]
  split
  · exact .inl rfl
  · rename_i j hj
    have hm := List.mem_of_find?_eq_some hj
    have he : s.eligible name j = true := by
      have := List.find?_some hj
      simp only [Bool.and_eq_true] at this
      exact this.1
    refine .inr ⟨j, hm, he, ?_⟩
    split
    · exact .inl ⟨_, ‹_›, rfl⟩
    · split
      · exact .inr (.inl ⟨‹_›, ‹_›, rfl⟩)
      · split
        · exact .inr (.inr (.inl ⟨‹_›, ‹_›, ‹_›, rfl⟩))
        · exact .inr (.inr (.inr ⟨‹_›, by simpa using ‹¬s.placeFree = true›, rfl⟩))

/-- What the decision on a close can do (R136, R137): end the request with one notice of its id, or back off. -/
theorem State.judgeClose_cases (s : State) (name : SlotName) (slot : SponsorSlot) (j : Job) (h : HandOff) :
    (∃ n, n.id = j.id ∧ s.judgeClose name slot j h = s.endRequest name n) ∨
    (s.retryable j h.done h.passedCommit h.record = true ∧ slot.attempts < Config.attemptsFull ∧ slot.cancel = .none ∧
      s.judgeClose name slot j h = s.setSlot name { slot with
        state := .backoff, backoff := backoffFor slot.attempts s.me, lastClose := some h.record }) := by
  unfold State.judgeClose; dsimp only
  generalize hg : (if (h.passedCommit && slot.cancel == .taken) = true then CancelState.late else slot.cancel) = cancel
  split
  · exact .inl ⟨_, rfl, rfl⟩
  · split
    · exact .inl ⟨_, rfl, rfl⟩
    · split
      · rename_i hr
        simp only [Bool.and_eq_true, beq_iff_eq] at hr
        obtain ⟨hr, rfl⟩ := hr
        have hc : slot.cancel = .none := by
          split at hg
          · cases hg
          · exact hg
        split
        · exact .inr ⟨hr, ‹_›, hc, by rw [← hc]⟩
        · exact .inl ⟨_, rfl, rfl⟩
      · exact .inl ⟨_, rfl, rfl⟩

/-- The slot a hand-off is for is OPEN with its tag (R136). -/
theorem State.openSlot_spec {s : State} {g : Tag} {name : SlotName} (h : s.openSlot? g = some name) :
    (s.slot name).state = .opened ∧ (s.slot name).tag = some g := by
  unfold State.openSlot? at h
  split at h
  · obtain rfl := Option.some.inj h; assumption
  · split at h
    · obtain rfl := Option.some.inj h; assumption
    · cases h

/-- The slot whose message went out is in SENDING with it sent (R135). -/
theorem State.sentSlot_spec {s : State} {name : SlotName} (h : s.sentSlot? = some name) :
    (s.slot name).state = .sending ∧ (s.slot name).sent = true := by
  unfold State.sentSlot? at h
  split at h
  · obtain rfl := Option.some.inj h; assumption
  · split at h
    · obtain rfl := Option.some.inj h; assumption
    · cases h

end Sys2Proof.Machine
end

