-- ==== Sys2Proof/Laws/Changeover.lean ====
section
/-! SUPPORT. The Changeover Engine: what a close and a hand-off leave, and how far a stage entry can carry a context (chapter
4). -/

namespace Sys2Proof.Machine

/-! ### The hand-off -/

@[simp] theorem State.handOver_bankSide (s : State) (c : Context) (d : Bool) (r : CloseRecord) :
    (s.handOver c d r).bankSide = s.bankSide := by
  unfold State.handOver; split <;> simp

/-- A hand-off touches the bus list, the slots, the reservations and the port alone (R82, R136). -/
theorem State.handOver_kept (s : State) (c : Context) (d : Bool) (r : CloseRecord) :
    (s.handOver c d r).cxe.contexts = s.cxe.contexts ∧ (s.handOver c d r).sbc = s.sbc ∧
      (s.handOver c d r).rfg = s.rfg ∧ (s.handOver c d r).rtb = s.rtb := by
  have h := s.handOver_bankSide c d r
  simp only [State.bankSide, Prod.mk.injEq] at h
  exact ⟨h.1, h.2.2.2.2.1, h.2.2.2.2.2.1, h.2.2.2.2.2.2⟩

/-- A context another node sponsors hands nothing over here (R82). -/
theorem State.handOver_other (s : State) (c : Context) (d : Bool) (r : CloseRecord) (h : c.tag.sponsor ≠ s.me) :
    s.handOver c d r = s := if_neg h

/-! ### Closes -/

/-- A context that closes FAILED (R83, R84): its tag's claims dropped everywhere, its busy tags gone, its close record written;
its guard entry closed unless it was in ANSWER or still has switches to wait for. -/
theorem State.closeFailed_kept (s : State) (c : Context) (r : CloseRecord) :
    (s.closeFailed c r).cxe.contexts =
        s.cxe.contexts.map (fun x => if x.tag = c.tag then x.closed .failed r else x) ∧
      (s.closeFailed c r).sbc = s.sbc.map (Switch.dropTag c.tag) ∧
      (s.closeFailed c r).rtb.routes = s.rtb.routes.map (fun q => if q.busy = some c.tag then { q with busy := none } else q) ∧
      (s.closeFailed c r).rtb.stray = s.rtb.stray ∧
      ((s.closeFailed c r).rfg = s.rfg ∨ (s.closeFailed c r).rfg = s.rfg.closeGuard c.tag) := by
  unfold State.closeFailed
  dsimp only
  split
  · split
    · obtain ⟨h1, h2, h3, h4⟩ := State.handOver_kept
        ((((s.dropTagClaims c.tag).dropBusy c.tag).closeGuard c.tag).onContext c.tag (Context.closed .failed r)) c false r
      rw [h1, h2, h3, h4]; exact ⟨rfl, rfl, rfl, rfl, .inr rfl⟩
    · obtain ⟨h1, h2, h3, h4⟩ := State.handOver_kept
        (((s.dropTagClaims c.tag).dropBusy c.tag).onContext c.tag (Context.closed .failed r)) c false r
      rw [h1, h2, h3, h4]; exact ⟨rfl, rfl, rfl, rfl, .inl rfl⟩
  · split
    · obtain ⟨h1, h2, h3, h4⟩ := State.handOver_kept
        ((((s.dropTagClaims c.tag).dropBusy c.tag).closeGuard c.tag).onContext c.tag (Context.closed .failed r)) c false r
      rw [h1, h2, h3, h4]; exact ⟨rfl, rfl, rfl, rfl, .inr rfl⟩
    · obtain ⟨h1, h2, h3, h4⟩ := State.handOver_kept
        (((s.dropTagClaims c.tag).dropBusy c.tag).onContext c.tag (Context.closed .failed r)) c false r
      rw [h1, h2, h3, h4]; exact ⟨rfl, rfl, rfl, rfl, .inl rfl⟩

/-- A context closed and found again carries its close record. -/
theorem State.closeFailed_context {s : State} {c : Context} (h : s.context? c.tag = some c) (r : CloseRecord) :
    (s.closeFailed c r).context? c.tag = some (c.closed .failed r) := by
  have e : (s.closeFailed c r).context? c.tag = (s.onContext c.tag (Context.closed .failed r)).context? c.tag := by
    unfold State.context?
    rw [(s.closeFailed_kept c r).1]; rfl
  rw [e, State.context_onContext s c.tag c.tag (Context.closed .failed r) (fun _ => rfl), if_pos rfl, h]; rfl

/-! ### Tags kept -/

@[simp] theorem Context.setReport_tag (c : Context) (r : Report) : (c.setReport r).tag = c.tag := by
  unfold Context.setReport; split <;> rfl
@[simp] theorem Context.quietPass_tag (c : Context) : c.quietPass.tag = c.tag := by
  unfold Context.quietPass; split <;> simp
@[simp] theorem Context.quietFail_tag (c : Context) : c.quietFail.tag = c.tag := by
  unfold Context.quietFail; split <;> simp
@[simp] theorem Context.trimFail_tag (c : Context) : c.trimFail.tag = c.tag := by
  unfold Context.trimFail; split <;> simp
@[simp] theorem Context.settleReport_tag (c : Context) : c.settleReport.tag = c.tag := by
  unfold Context.settleReport; split <;> simp
@[simp] theorem Context.moveFail_tag (c : Context) (r : FailReason) : (c.moveFail r).tag = c.tag := by
  unfold Context.moveFail; split <;> simp
@[simp] theorem Context.takeDriveAnswer_tag (c : Context) (i : Nat) (a : DriveAnswer) : (c.takeDriveAnswer i a).tag = c.tag := by
  cases a <;> simp [Context.takeDriveAnswer]
@[simp] theorem Context.takeOutcome_tag (c : Context) (l : List Nat) (o : SettleOutcome) : (c.takeOutcome l o).tag = c.tag := by
  cases o <;> simp [Context.takeOutcome]
@[simp] theorem Context.raise_tag (n : Nat) (r : Report) (c : Context) : (c.raise n r).tag = c.tag := rfl
@[simp] theorem Context.closed_tag (p : Phase) (r : CloseRecord) (c : Context) : (c.closed p r).tag = c.tag := rfl
@[simp] theorem Context.withdraw_tag (c : Context) : c.withdraw.tag = c.tag := rfl
@[simp] theorem Context.withdraw_kept (c : Context) : c.withdraw.kept = c.report := rfl
@[simp] theorem Context.withdraw_withdrawal (c : Context) : c.withdraw.withdrawal = .pending := rfl
theorem Context.withdraw_report (c : Context) :
    c.withdraw.report = if withdrawable c.report then some .withdraw else c.report := rfl
@[simp] theorem withdrawable_none : withdrawable none = true := rfl
@[simp] theorem withdrawable_accept (v : Nat) : withdrawable (some (.accept v)) = true := rfl
@[simp] theorem withdrawable_quiet : withdrawable (some .quiet) = true := rfl
@[simp] theorem withdrawable_object (r : ObjectReason) : withdrawable (some (.object r)) = false := rfl
@[simp] theorem withdrawable_fail (r : FailReason) : withdrawable (some (.fail r)) = false := rfl
@[simp] theorem Context.testWithdrawal_tag (c : Context) : c.testWithdrawal.tag = c.tag := by
  unfold Context.testWithdrawal; split
  · split <;> rfl
  · rfl

/-! ### Standings (R71) -/

/-- A report never lowers a standing. -/
theorem Standing.raise_level (x : Standing) (r : Report) : x.rank.level ≤ (x.raise r).rank.level := by
  cases r <;> simp only [Standing.raise, Nat.le_refl]
  · split <;> simp_all [Rank.level]
  · split
    · rename_i h; exact Nat.le_of_lt h
    · exact Nat.le_refl _
  · split
    · exact Nat.le_refl _
    · cases x.rank <;> simp [Rank.level]

@[simp] theorem Standing.raise_node (x : Standing) (r : Report) : (x.raise r).node = x.node := by
  cases r <;> simp only [Standing.raise]
  all_goals split <;> rfl

end Sys2Proof.Machine
end

