-- ==== Sys2Proof/Laws/Memory.lean ====
section
/-! SUPPORT. The configuration memory: what a read gives after a write, and that every memory operation keeps the canonical
form. -/

namespace Sys2Proof.Machine

/-! ### Reads after writes -/

/-- A byte just written is read back, and no other address changes. -/
theorem Memory.read_write (mem : List Host.Cell) (a x : Nat) (b : Byte) :
    Memory.read (Memory.write mem a b) x = if x = a then some b else Memory.read mem x := by
  induction mem with
  | nil => simp [Memory.write, Memory.read, eq_comm]
  | cons c rest ih =>
    obtain ⟨k, v⟩ := c
    unfold Memory.write
    split
    · simp [Memory.read, eq_comm]
    · split
      · rename_i h; subst h
        simp only [Memory.read, eq_comm (a := x)]
        split <;> rfl
      · rename_i h
        simp only [Memory.read, ih]
        by_cases hk : k = x
        · subst hk; simp [Ne.symm h]
        · simp [hk]

/-- Bytes just written are read back, and no address outside them changes. -/
theorem Memory.read_writeBytes (bytes : List Byte) : ∀ (mem : List Host.Cell) (a x : Nat),
    Memory.read (Memory.writeBytes mem a bytes) x =
      if a ≤ x ∧ x < a + bytes.length then bytes[x - a]? else Memory.read mem x := by
  induction bytes with
  | nil => intro mem a x; simp [Memory.writeBytes]
  | cons b bs ih =>
    intro mem a x
    rw [Memory.writeBytes, ih, Memory.read_write, List.length_cons]
    by_cases h1 : x = a
    · subst h1; simp
    · by_cases h2 : a + 1 ≤ x ∧ x < a + 1 + bs.length
      · rw [if_pos h2, if_pos ⟨by omega, by omega⟩, show x - a = (x - (a + 1)) + 1 by omega, List.getElem?_cons_succ]
      · rw [if_neg h2, if_neg h1, if_neg (by omega)]

/-- Cells laid at rising addresses read as their bytes. -/
theorem Memory.read_cellsFrom (bytes : List Byte) : ∀ (a x : Nat) (rest : List Host.Cell),
    Memory.read (Memory.cellsFrom a bytes ++ rest) x =
      if a ≤ x ∧ x < a + bytes.length then bytes[x - a]? else Memory.read rest x := by
  induction bytes with
  | nil => intro a x rest; simp [Memory.cellsFrom]
  | cons b bs ih =>
    intro a x rest
    simp only [Memory.cellsFrom, List.cons_append, Memory.read, ih, List.length_cons]
    by_cases h1 : a = x
    · subst h1; simp
    · rw [if_neg h1]
      by_cases h2 : a + 1 ≤ x ∧ x < a + 1 + bs.length
      · rw [if_pos h2, if_pos ⟨by omega, by omega⟩, show x - a = (x - (a + 1)) + 1 by omega, List.getElem?_cons_succ]
      · rw [if_neg h2, if_neg (by omega)]

/-- A memory cut to the wear area reads as before there, and as nothing before it. -/
theorem Memory.read_filter (mem : List Host.Cell) (x low : Nat) :
    Memory.read (mem.filter (fun c => decide (low ≤ c.1))) x = if low ≤ x then Memory.read mem x else none := by
  induction mem with
  | nil => simp [Memory.read]
  | cons c rest ih =>
    obtain ⟨k, v⟩ := c
    by_cases hk : low ≤ k
    · simp only [List.filter, hk, decide_true, Memory.read, ih]
      by_cases h : k = x
      · subst h; simp [hk]
      · simp [h]
    · simp only [List.filter, hk, decide_false, ih, Memory.read]
      by_cases h : k = x
      · subst h; simp [hk]
      · simp [h]

/-- The plan area as the tools left it; the wear area as it was (chapter 11). -/
theorem Memory.read_placePlan (mem : List Host.Cell) (plan : List Byte) (x : Nat) :
    Memory.read (Memory.placePlan mem plan) x =
      if x < Config.wearBase then plan[x]? else Memory.read mem x := by
  unfold Memory.placePlan
  rw [Memory.read_cellsFrom, Memory.read_filter]
  simp only [Nat.zero_le, true_and, Nat.zero_add, Nat.sub_zero, List.length_take]
  by_cases h : x < Config.wearBase
  · simp only [h, if_true, show ¬ Config.wearBase ≤ x by omega, if_false]
    split
    · rw [List.getElem?_take_of_lt h]
    · rename_i h2
      exact (List.getElem?_eq_none (by omega)).symm
  · rw [if_neg (by omega), if_pos (by omega), if_neg h]

/-! ### The canonical form -/

theorem Memory.risingFrom_mono {low high : Nat} (h : low ≤ high) :
    ∀ mem : List Host.Cell, Memory.risingFrom high mem = true → Memory.risingFrom low mem = true
  | [], _ => rfl
  | (k, _) :: rest, hm => by
    simp only [Memory.risingFrom, Bool.and_eq_true, decide_eq_true_eq] at hm ⊢
    exact ⟨by omega, hm.2⟩

theorem Memory.risingFrom_write (a : Nat) (b : Byte) : ∀ (low : Nat) (mem : List Host.Cell), low ≤ a →
    Memory.risingFrom low mem = true → Memory.risingFrom low (Memory.write mem a b) = true
  | low, [], h, _ => by simp [Memory.write, Memory.risingFrom, h]
  | low, (k, c) :: rest, h, hm => by
    simp only [Memory.risingFrom, Bool.and_eq_true, decide_eq_true_eq] at hm
    unfold Memory.write
    split
    · rename_i hk
      simp only [Memory.risingFrom, Bool.and_eq_true, decide_eq_true_eq]
      exact ⟨h, by omega, hm.2⟩
    · split
      · rename_i _ he; subst he
        simp only [Memory.risingFrom, Bool.and_eq_true, decide_eq_true_eq]
        exact ⟨h, hm.2⟩
      · simp only [Memory.risingFrom, Bool.and_eq_true, decide_eq_true_eq]
        exact ⟨hm.1, Memory.risingFrom_write a b (k + 1) rest (by omega) hm.2⟩

/-- A write keeps the canonical form. -/
theorem Memory.wf_write (mem : List Host.Cell) (a : Nat) (b : Byte) (h : Memory.wf mem = true) :
    Memory.wf (Memory.write mem a b) = true :=
  Memory.risingFrom_write a b 0 mem (Nat.zero_le _) h

/-- A write of several bytes keeps the canonical form. -/
theorem Memory.wf_writeBytes : ∀ (bytes : List Byte) (mem : List Host.Cell) (a : Nat), Memory.wf mem = true →
    Memory.wf (Memory.writeBytes mem a bytes) = true
  | [], _, _, h => h
  | b :: bs, mem, a, h => Memory.wf_writeBytes bs _ _ (Memory.wf_write mem a b h)

theorem Memory.risingFrom_cellsFrom : ∀ (bytes : List Byte) (a : Nat) (rest : List Host.Cell),
    Memory.risingFrom (a + bytes.length) rest = true → Memory.risingFrom a (Memory.cellsFrom a bytes ++ rest) = true
  | [], a, rest, h => h
  | b :: bs, a, rest, h => by
    simp only [Memory.cellsFrom, List.cons_append, Memory.risingFrom, Bool.and_eq_true, decide_eq_true_eq]
    refine ⟨Nat.le_refl _, Memory.risingFrom_cellsFrom bs (a + 1) rest ?_⟩
    rw [List.length_cons] at h
    rwa [show a + 1 + bs.length = a + (bs.length + 1) by omega]

theorem Memory.risingFrom_filter (base : Nat) : ∀ (mem : List Host.Cell) (low : Nat), Memory.risingFrom low mem = true →
    Memory.risingFrom (max low base) (mem.filter (fun c => decide (base ≤ c.1))) = true
  | [], _, _ => rfl
  | (k, v) :: rest, low, h => by
    simp only [Memory.risingFrom, Bool.and_eq_true, decide_eq_true_eq] at h
    have ih := Memory.risingFrom_filter base rest (k + 1) h.2
    by_cases hk : base ≤ k
    · simp only [List.filter, hk, decide_true, Memory.risingFrom, Bool.and_eq_true, decide_eq_true_eq]
      exact ⟨by omega, Memory.risingFrom_mono (by omega) _ ih⟩
    · simp only [List.filter, hk, decide_false]
      exact Memory.risingFrom_mono (by omega) _ ih

/-- Placing a plan keeps the canonical form. -/
theorem Memory.wf_placePlan (mem : List Host.Cell) (plan : List Byte) (h : Memory.wf mem = true) :
    Memory.wf (Memory.placePlan mem plan) = true := by
  unfold Memory.wf Memory.placePlan
  refine Memory.risingFrom_cellsFrom _ 0 _ (Memory.risingFrom_mono ?_ _ (Memory.risingFrom_filter _ mem 0 h))
  simp only [List.length_take]; omega

/-- A save write, whole or cut off, keeps the canonical form. -/
theorem SaveWrite.wf_whole (copy : List Nat) (w : SaveWrite) (mem : List Host.Cell) (h : Memory.wf mem = true) :
    Memory.wf (w.whole copy mem) = true := Memory.wf_writeBytes _ _ _ h

theorem SaveWrite.wf_partly (copy : List Nat) (w : SaveWrite) (reached : Nat) (mem : List Host.Cell)
    (h : Memory.wf mem = true) : Memory.wf (w.partly copy reached mem) = true := by
  cases w
  case closeMark => exact h
  all_goals exact Memory.wf_writeBytes _ _ _ h

/-- The memory of the reset state is in canonical form. -/
theorem Memory.wf_reset : Memory.wf State.reset.mem = true := rfl

end Sys2Proof.Machine
end

