-- ==== Sys2Proof/Laws/PerInstr.lean ====
section
/-! SUPPORT. Facts of every command as syntax, one lemma for each constructor. -/

namespace Sys2Proof.Laws

open Sys2Proof Sys2Proof.Machine

set_option Elab.async false

/-- The request a well-formed request row offers has an id of its frame's field, and is of a kind the port lacks or fits its
frame (section 12.2). A row that is no request offers none. -/
def RequestFits.Statement (i : Instr) : Prop :=
  ∀ r, requestOf? i = some r → i.wellFormed = true →
    r.id < 65536 ∧ (r.body.fits = true ∨ ∃ k, k < 256 ∧ ¬(1 ≤ k ∧ k ≤ 16) ∧ r.body = .unknownKind k)

theorem RequestFits.hardwareReset (reached : Nat) : RequestFits.Statement (.hardwareReset reached) := fun _ h => by cases h
theorem RequestFits.resetRelease (straps : Nat) (plan : List Byte) : RequestFits.Statement (.resetRelease straps plan) := fun _ h => by cases h
theorem RequestFits.memoryNoAnswer (access : MemoryAccess) : RequestFits.Statement (.memoryNoAnswer access) := fun _ h => by cases h
theorem RequestFits.planRefused : RequestFits.Statement (.planRefused) := fun _ h => by cases h
theorem RequestFits.planAccepted (sense : SenseLevels) : RequestFits.Statement (.planAccepted sense) := fun _ h => by cases h
theorem RequestFits.frameReceived (bytes : List Byte) (sense : SenseLevels) : RequestFits.Statement (.frameReceived bytes sense) := fun _ h => by cases h
theorem RequestFits.frameGapTimeout : RequestFits.Statement (.frameGapTimeout) := fun _ h => by cases h
theorem RequestFits.responseSendComplete (sense : SenseLevels) : RequestFits.Statement (.responseSendComplete sense) := fun _ h => by cases h
theorem RequestFits.requestUnknownKind (id kind : Nat) : RequestFits.Statement (.requestUnknownKind id kind) := by
  intro r h hw; cases h
  simp only [Instr.wellFormed, fits16, Bool.and_eq_true, decide_eq_true_eq, Bool.not_eq_true'] at hw
  refine ⟨hw.1.1, .inr ⟨kind, hw.1.2, ?_, rfl⟩⟩
  simpa using hw.2
theorem RequestFits.make (id route : Nat) (target frequency : Option Nat) : RequestFits.Statement (.make id route target frequency) := by
  intro r h hw; cases h
  simp_all [Instr.wellFormed, fits16, RequestBody.fits]
theorem RequestFits.breakRoute (id route : Nat) : RequestFits.Statement (.breakRoute id route) := by
  intro r h hw; cases h
  simp_all [Instr.wellFormed, fits16, RequestBody.fits]
theorem RequestFits.exchange (id breakRoute makeRoute : Nat) (target frequency : Option Nat) : RequestFits.Statement (.exchange id breakRoute makeRoute target frequency) := by
  intro r h hw; cases h
  simp_all [Instr.wellFormed, fits16, RequestBody.fits]
theorem RequestFits.retrim (id route : Nat) (target frequency : Option Nat) : RequestFits.Statement (.retrim id route target frequency) := by
  intro r h hw; cases h
  simp_all [Instr.wellFormed, fits16, RequestBody.fits]
theorem RequestFits.cancel (id requestId : Nat) : RequestFits.Statement (.cancel id requestId) := by
  intro r h hw; cases h
  simp_all [Instr.wellFormed, fits16, RequestBody.fits]
theorem RequestFits.takeNotice (id : Nat) : RequestFits.Statement (.takeNotice id) := by
  intro r h hw; cases h
  simp_all [Instr.wellFormed, fits16, RequestBody.fits]
theorem RequestFits.queryNode (id : Nat) : RequestFits.Statement (.queryNode id) := by
  intro r h hw; cases h
  simp_all [Instr.wellFormed, fits16, RequestBody.fits]
theorem RequestFits.queryRoute (id route : Nat) : RequestFits.Statement (.queryRoute id route) := by
  intro r h hw; cases h
  simp_all [Instr.wellFormed, fits16, RequestBody.fits]
theorem RequestFits.querySwitch (id index : Nat) : RequestFits.Statement (.querySwitch id index) := by
  intro r h hw; cases h
  simp_all [Instr.wellFormed, fits16, RequestBody.fits]
theorem RequestFits.clearFault (id index : Nat) (sense : SenseLevels) : RequestFits.Statement (.clearFault id index sense) := by
  intro r h hw; cases h
  simp_all [Instr.wellFormed, fits16, RequestBody.fits]
theorem RequestFits.clearEvents (id : Nat) (events : Word16) : RequestFits.Statement (.clearEvents id events) := by
  intro r h hw; cases h
  simp_all [Instr.wellFormed, fits16, RequestBody.fits]
theorem RequestFits.setNotifyMap (id : Nat) (lines : List Byte) : RequestFits.Statement (.setNotifyMap id lines) := by
  intro r h hw; cases h
  simp_all [Instr.wellFormed, fits16, RequestBody.fits]
theorem RequestFits.saveWear (id : Nat) : RequestFits.Statement (.saveWear id) := by
  intro r h hw; cases h
  simp_all [Instr.wellFormed, fits16, RequestBody.fits]
theorem RequestFits.saveWearWriteAccepted : RequestFits.Statement (.saveWearWriteAccepted) := fun _ h => by cases h
theorem RequestFits.saveWearWriteFailed (reached : Nat) : RequestFits.Statement (.saveWearWriteFailed reached) := fun _ h => by cases h
theorem RequestFits.leaveBus (id : Nat) : RequestFits.Statement (.leaveBus id) := by
  intro r h hw; cases h
  simp_all [Instr.wellFormed, fits16, RequestBody.fits]
theorem RequestFits.joinBus (id : Nat) : RequestFits.Statement (.joinBus id) := by
  intro r h hw; cases h
  simp_all [Instr.wellFormed, fits16, RequestBody.fits]
theorem RequestFits.restart (id : Nat) (sense : SenseLevels) : RequestFits.Statement (.restart id sense) := by
  intro r h hw; cases h
  simp_all [Instr.wellFormed, fits16, RequestBody.fits]
theorem RequestFits.syncRecognised : RequestFits.Statement (.syncRecognised) := fun _ h => by cases h
theorem RequestFits.frameTimerExpiry : RequestFits.Statement (.frameTimerExpiry) := fun _ h => by cases h
theorem RequestFits.searchSpanExpiry : RequestFits.Statement (.searchSpanExpiry) := fun _ h => by cases h
theorem RequestFits.ownSlotStart : RequestFits.Statement (.ownSlotStart) := fun _ h => by cases h
theorem RequestFits.slotEnd (line : Bits) : RequestFits.Statement (.slotEnd line) := fun _ h => by cases h
theorem RequestFits.frameEnd (sense : SenseLevels) : RequestFits.Statement (.frameEnd sense) := fun _ h => by cases h
theorem RequestFits.settleEnd (index : Nat) : RequestFits.Statement (.settleEnd index) := fun _ h => by cases h
theorem RequestFits.answerWindowExpiry (tag : Tag) : RequestFits.Statement (.answerWindowExpiry tag) := fun _ h => by cases h
theorem RequestFits.quietTimeout (tag : Tag) : RequestFits.Statement (.quietTimeout tag) := fun _ h => by cases h
theorem RequestFits.lingerExpiry (tag : Tag) : RequestFits.Statement (.lingerExpiry tag) := fun _ h => by cases h
theorem RequestFits.backoffExpiry (slot : SlotName) : RequestFits.Statement (.backoffExpiry slot) := fun _ h => by cases h
theorem RequestFits.takeUp : RequestFits.Statement (.takeUp) := fun _ h => by cases h
theorem RequestFits.silenceCountComplete : RequestFits.Statement (.silenceCountComplete) := fun _ h => by cases h
theorem RequestFits.clearCountComplete : RequestFits.Statement (.clearCountComplete) := fun _ h => by cases h
theorem RequestFits.peerAbsent : RequestFits.Statement (.peerAbsent) := fun _ h => by cases h
theorem RequestFits.detectorSample (input : Nat) (level : Int) : RequestFits.Statement (.detectorSample input level) := fun _ h => by cases h
theorem RequestFits.readyPulseExpiry (line : Nat) : RequestFits.Statement (.readyPulseExpiry line) := fun _ h => by cases h

end Sys2Proof.Laws
end

