-- ==== Sys2Proof/Laws/Wire.lean ====
section
/-! SUPPORT. Fields of bits and bytes: a field written most significant first is read back, and is as long as its width
(R198). -/

namespace Sys2Proof.Machine

/-! ### Bits -/

@[simp] theorem bitsOf_length : ∀ (width n : Nat), (bitsOf width n).length = width
  | 0, _ => rfl
  | width + 1, n => by simp [bitsOf, bitsOf_length width]

theorem bitsValue_foldl (bits : Bits) : ∀ n : Nat,
    bits.foldl (fun n b => 2 * n + b.toNat) n = n * 2 ^ bits.length + bitsValue bits := by
  induction bits with
  | nil => intro n; simp [bitsValue]
  | cons b bs ih =>
    intro n
    have h : bitsValue (b :: bs) = (2 * 0 + b.toNat) * 2 ^ bs.length + bitsValue bs := ih (2 * 0 + b.toNat)
    rw [List.foldl_cons, ih, h, List.length_cons, Nat.pow_succ]
    ring

/-- A field of its width spells its number (R198). -/
theorem bitsValue_bitsOf : ∀ (width n : Nat), bitsValue (bitsOf width n) = n % 2 ^ width
  | 0, n => by simp [bitsOf, bitsValue, Nat.mod_one]
  | width + 1, n => by
    have h := bitsValue_foldl (bitsOf width n) (n.testBit width).toNat
    simp only [bitsOf_length, bitsValue_bitsOf width] at h
    rw [bitsOf, bitsValue, List.foldl_cons]
    simp only [Nat.mul_zero, Nat.zero_add]
    rw [h, Nat.mod_pow_succ, Nat.testBit_eq_decide_div_mod_eq, Nat.add_comm, Nat.mul_comm]
    rcases Nat.mod_two_eq_zero_or_one (n / 2 ^ width) with e | e <;> simp [e]

/-- A number within its width is read back from the front of the bits. -/
theorem takeField_bitsOf (width n : Nat) (rest : Bits) (h : n < 2 ^ width) :
    takeField width (bitsOf width n ++ rest) = some (n, rest) := by
  have hl := bitsOf_length width n
  have ht : (bitsOf width n ++ rest).take width = bitsOf width n := by
    rw [List.take_append_of_le_length (by omega), List.take_of_length_le (by omega)]
  have hd : (bitsOf width n ++ rest).drop width = rest := by
    rw [List.drop_append_of_le_length (by omega), List.drop_of_length_le (by omega), List.nil_append]
  unfold takeField
  rw [if_pos (by simp), ht, hd, bitsValue_bitsOf, Nat.mod_eq_of_lt h]

/-! ### Bytes -/

@[simp] theorem bytesOf_length : ∀ (count n : Nat), (bytesOf count n).length = count
  | 0, _ => rfl
  | count + 1, n => by simp [bytesOf, bytesOf_length count]

theorem bytesValue_foldl (bytes : List Byte) : ∀ n : Nat,
    bytes.foldl (fun n b => 256 * n + b.toNat) n = n * 256 ^ bytes.length + bytesValue bytes := by
  induction bytes with
  | nil => intro n; simp [bytesValue]
  | cons b bs ih =>
    intro n
    have h : bytesValue (b :: bs) = (256 * 0 + b.toNat) * 256 ^ bs.length + bytesValue bs := ih (256 * 0 + b.toNat)
    rw [List.foldl_cons, ih, h, List.length_cons, Nat.pow_succ]
    ring

/-- A field of its bytes spells its number (R198). -/
theorem bytesValue_bytesOf : ∀ (count n : Nat), bytesValue (bytesOf count n) = n % 256 ^ count
  | 0, n => by simp [bytesOf, bytesValue, Nat.mod_one]
  | count + 1, n => by
    have h := bytesValue_foldl (bytesOf count n) (n / 256 ^ count % 256)
    simp only [bytesOf_length, bytesValue_bytesOf count] at h
    rw [bytesOf, bytesValue, List.foldl_cons]
    simp only [Nat.mul_zero, Nat.zero_add, BitVec.toNat_ofNat]
    rw [h, Nat.pow_succ, Nat.mod_mul, Nat.mul_comm, Nat.add_comm]

/-- Two bytes spell a number within 16 bits (R198). -/
theorem pair_bytes (n : Nat) (h : n < 65536) : pair (BitVec.ofNat 8 (n / 256)) (BitVec.ofNat 8 n) = n := by
  simp only [pair, BitVec.toNat_ofNat]; omega

theorem bytesOf_two (n : Nat) : bytesOf 2 n = [BitVec.ofNat 8 (n / 256), BitVec.ofNat 8 n] := by
  simp [bytesOf]

theorem bytesOf_one (n : Nat) : bytesOf 1 n = [BitVec.ofNat 8 n] := by
  simp [bytesOf]

end Sys2Proof.Machine
end

