-- ==== Sys2Proof/Tests/Slice0.lean ====
section
/-! SUPPORT. Own checks: the well-formedness checks refuse, the wire formats read words written from their tables, the
figures of the manual's examples come out, and every statement's hypotheses are met somewhere. -/

namespace Sys2Proof.Tests

open Sys2Proof Sys2Proof.Machine
set_option Elab.async false

/-! ### A small node: node 5 of the example of chapter 1, with routes 210, 220 and 330 over switch 14 -/

/-- A sensed SP4T switch at rest. -/
def sp4t (index position : Nat) : Switch :=
  { plan := { index := index, kind := .sp4t, step := 0, maxCode := 0, sensed := true, settleTime := 3, partner := none,
              lifeLimit := none },
    state := .still, current := some position, commanded := some position, settleLeft := 0, faultReason := none, wear := 10,
    worn := false, claims := [], waiters := [], driveLines := none }

/-- A claim of a route at a position. -/
def claimOf (route position : Nat) : Claim := { holder := .established route, position := some position, successor := none }

/-- The plan part of a route over switch 14. -/
def routePlan (id position : Nat) : RoutePlan :=
  { id := id, settings := [{ switch := 14, position := position }], participants := [3, 5], trimNode := none,
    defaultTarget := none, defaultFrequency := 3500, table := none, detectors := [1], inhibits := [2, 5], ready := some 0,
    noRetry := false, hotTolerant := false, trimAttenuator := none }

/-- A route ESTABLISHED with node 5 as holder. -/
def heldRoute (id position : Nat) : Route :=
  { (routePlan id position).record with state := .established, holder := some 5, established := [3, 5], frequency := some 3500 }

def detector (input : Nat) (hot : Bool) : Detector :=
  { input := input, threshold := -350, hysteresis := 30, hot := hot, fresh := false, lastSample := some (-120) }

/-- Node 5 ON-BUS between two frames, routes 210 and 330 ESTABLISHED over switch 14 at position 2, route 220 IDLE. -/
def bench : State :=
  { State.reset with
    biu := { State.reset.biu with node := some 5, busState := .onBus, timerRunning := true, synced := true, period := 400 }
    sbc := [{ sp4t 14 2 with claims := [claimOf 210 2, claimOf 330 2] }]
    rtb := { routes := [heldRoute 210 2, (routePlan 220 3).record, heldRoute 330 2], stray := 0 }
    rfg := { State.reset.rfg with detectors := [detector 1 true, detector 3 false], pulseWidth := 50 }
    spu := { State.reset.spu with window := 8 }
    cxe := { State.reset.cxe with quietTimeout := 6 }
    pld := { State.reset.pld with load := .loaded, wearValid := some true } }

def bus (s : State) (b : BusState) : State := { s with biu := { s.biu with busState := b } }
def owes (s : State) (w : Work) : State := { s with agenda := [w] }
def jobOf (id : Nat) (kind : RequestKind) (route : Nat) (second : Option Nat) : Job :=
  { id := id, kind := kind, route := route, second := second, target := none, frequency := none }
def tag88 : Tag := { sponsor := 3, seq := 88 }
def tag44 : Tag := { sponsor := 5, seq := 44 }
def proposeOf (seq : Nat) : Propose :=
  { seq := seq, make := 220, brk := some 210, frequency := 3500, target := none, trimNode := none, participants := [3, 5],
    window := 8, hotTolerant := false }
/-- A context of a sponsor in a phase. -/
def contextOf (tag : Tag) (phase : Phase) (report : Option Report) : Context :=
  { (proposeOf tag.seq).context tag.sponsor .participant with phase := phase, report := report }
def withContext (s : State) (c : Context) : State := { s with cxe := { s.cxe with contexts := [c] } }
def slotA (s : State) (x : SponsorSlot) : State := { s with spu := { s.spu with slotA := x } }
def slotOf (state : SlotState) (j : Job) (tag : Option Tag) : SponsorSlot :=
  { SponsorSlot.empty with state := state, job := some j, attempts := 1, tag := tag }
def outcomeState : Host.Outcome State Fault Refusal → Option State
  | .next t => some t
  | _ => none
/-- One command on a state, and a look at the state after it. -/
def after {α : Type} (c : Instr) (s : State) (look : State → α) : Option α := (outcomeState (exec c s)).map look

/-! ### Well-formedness: an ill-formed term for each check -/

theorem test_wf_reached : (Instr.hardwareReset 5).wellFormed = false := by decide
theorem test_wf_straps : (Instr.resetRelease 32 []).wellFormed = false := by decide
theorem test_wf_save_reached : (Instr.memoryNoAnswer (.saveWrite 5)).wellFormed = false := by decide
theorem test_wf_sense_position : (Instr.planAccepted [(14, 256)]).wellFormed = false := by decide
theorem test_wf_sense_switch : (Instr.frameEnd [(48, 1)]).wellFormed = false := by decide
theorem test_wf_sense_twice : (Instr.restart 1 [(14, 2), (14, 3)]).wellFormed = false := by decide
theorem test_wf_frame_length : (Instr.frameReceived [0, 3, 1] []).wellFormed = false := by decide
theorem test_wf_known_kind : (Instr.requestUnknownKind 1 16).wellFormed = false := by decide
theorem test_wf_id : (Instr.takeNotice 65536).wellFormed = false := by decide
theorem test_wf_route : (Instr.breakRoute 1 65536).wellFormed = false := by decide
theorem test_wf_target : (Instr.make 1 620 (some 65536) none).wellFormed = false := by decide
theorem test_wf_frequency : (Instr.exchange 1 210 220 none (some 65536)).wellFormed = false := by decide
theorem test_wf_cancel : (Instr.cancel 1 65536).wellFormed = false := by decide
theorem test_wf_index : (Instr.querySwitch 1 256).wellFormed = false := by decide
theorem test_wf_map : (Instr.setNotifyMap 1 [0, 0]).wellFormed = false := by decide
theorem test_wf_line : (Instr.slotEnd (List.replicate 481 true)).wellFormed = false := by decide +kernel
theorem test_wf_settle : (Instr.settleEnd 48).wellFormed = false := by decide
theorem test_wf_tag : (Instr.lingerExpiry { sponsor := 31, seq := 0 }).wellFormed = false := by decide
theorem test_wf_sample : (Instr.detectorSample 8 0).wellFormed = false := by decide
theorem test_wf_ready : (Instr.readyPulseExpiry 4).wellFormed = false := by decide
theorem test_wf_good : (Instr.make 300 620 (some 6000) none).wellFormed = true := by decide

/-! ### The table's rows give no bits -/

theorem test_no_row_has_bits : decodeTableWord 8 0 = none := by decide

/-! ### Wire formats, each word written out from the tables of chapter 12 -/

def word (l : List Nat) : Bits := l.map (fun n => n == 1)

/-- Node 7, ON-BUS, one stage entry: 3/41, route 620, ACCEPT 434. -/
def acceptWord : Bits := word
  [1, 0, 1, 1, 0, 0, 1, 0, 0, 0, 1, 1, 1, 0, 0, 0, 1, 0, 0, 0, 0, 0, 1, 1, 0, 0, 1, 0, 1, 0, 0, 1, 0, 0, 1, 0, 0, 1,
   1, 0, 1, 1, 0, 0, 0, 0, 1, 0, 0, 0, 0, 0, 0, 0, 0, 0, 0, 0, 0, 0, 1, 1, 0, 1, 1, 0, 0, 1, 0, 0, 0, 1, 0, 0, 0, 1,
   1, 0, 0, 1, 1, 0, 0, 1, 0]

theorem test_slot_accept : judgeSlot 7 acceptWord = .good
    { sender := 7, draining := false, message := none,
      entries := [{ tag := { sponsor := 3, seq := 41 }, make := 620, report := .accept 434 }] } := by decide +kernel

/-- Node 3, ON-BUS, PROPOSE 41 of route 620 at 3500 MHz, target 6000 at node 12, nodes 3, 7 and 12, window 8. -/
def proposeWord : Bits := word
  [1, 0, 1, 1, 0, 0, 1, 0, 0, 0, 0, 1, 1, 0, 0, 0, 0, 0, 1, 0, 0, 1, 0, 1, 0, 0, 1, 0, 0, 1, 0, 0, 1, 1, 0, 1, 1, 0,
   0, 0, 0, 0, 0, 0, 0, 0, 0, 0, 0, 0, 0, 0, 0, 0, 0, 0, 1, 1, 0, 1, 1, 0, 1, 0, 1, 1, 0, 0, 1, 0, 0, 1, 0, 1, 1, 1,
   0, 1, 1, 1, 0, 0, 0, 0, 1, 0, 1, 1, 0, 0, 0, 1, 0, 0, 0, 0, 1, 1, 0, 0, 1, 1, 1, 0, 1, 1, 0, 0, 0, 0, 0, 0, 0, 0,
   0, 0, 0, 0, 0, 0, 0, 0, 0, 0, 0, 0, 0, 0, 0, 0, 0, 0, 0, 0, 0, 1, 1, 1, 0, 0, 1, 0, 0, 1, 1, 1, 0, 0, 0, 0, 1, 1,
   0, 1, 1]

theorem test_slot_propose : judgeSlot 3 proposeWord = .good
    { sender := 3, draining := false, entries := [],
      message := some (.propose
        { seq := 41, make := 620, brk := none, frequency := 3500, target := some 6000, trimNode := some 12,
          participants := [3, 7, 12], window := 8, hotTolerant := false }) } := by decide +kernel

/-- Node 5, DRAINING, RELEASE of route 330 with force. -/
def releaseWord : Bits := word
  [1, 0, 1, 1, 0, 0, 1, 0, 0, 0, 1, 0, 1, 1, 0, 0, 0, 1, 0, 0, 0, 0, 1, 0, 1, 0, 0, 1, 0, 1, 0, 1, 1, 0, 0, 0, 0, 1,
   1, 1, 1, 0, 0, 0, 1, 0, 0, 1]

theorem test_slot_release : judgeSlot 5 releaseWord = .good
    { sender := 5, draining := true, entries := [], message := some (.release 330 true) } := by decide +kernel

theorem test_slot_other_sender : judgeSlot 6 releaseWord = .failed := by decide +kernel
theorem test_slot_cut_short : judgeSlot 5 (releaseWord.take 47) = .failed := by decide +kernel
theorem test_slot_no_start : judgeSlot 5 (releaseWord.drop 1) = .nothing := by decide +kernel

/-- The check value of the ASCII digits 1 to 9 under R198's computation is 29B1 (hexadecimal). -/
theorem test_check_value : crcBytes [0x31, 0x32, 0x33, 0x34, 0x35, 0x36, 0x37, 0x38, 0x39] = 0x29B1#16 := by decide +kernel

/-- MAKE of route 620 with id 300 and target 6000. -/
theorem test_frame_make : Request.ofFrame [0, 10, 1, 44, 1, 2, 108, 1, 23, 112, 177, 111]
    = some { id := 300, body := .make 620 (some 6000) none } := by decide +kernel

/-- CLEAR EVENTS of SWITCH FAULT (bit 3) with id 513. -/
theorem test_frame_clear : Request.ofFrame [0, 7, 2, 1, 11, 0, 8, 122, 65] = some { id := 513, body := .clearEvents 8#16 } := by
  decide +kernel

/-- RESTART with id 7. -/
theorem test_frame_restart : (Request.ofFrame [0, 5, 0, 7, 16, 38, 239]).map Request.body = some .restart := by decide +kernel

theorem test_frame_bad_check : Request.ofFrame [0, 5, 0, 7, 16, 38, 238] = none := by decide +kernel

/-- A plan with switch 14 (SP4T, sensed, settle 3), eight detectors at -30.0 dBm, and route 210 at node 5. -/
def planBytes : List Byte :=
  [0, 1, 1, 8, 0, 1, 1, 144, 8, 20, 0, 50, 14, 2, 0, 0, 1, 3, 255, 0, 0, 0, 0, 254, 212, 20, 254, 212, 20, 254, 212,
   20, 254, 212, 20, 254, 212, 20, 254, 212, 20, 254, 212, 20, 254, 212, 20, 0, 210, 1, 14, 2, 2, 3, 5, 0, 255, 255,
   13, 172, 255, 1, 1, 1, 2, 0, 0, 255, 222, 173]

/-- Node 5 with its load begun. -/
def loadingNode : State :=
  { State.reset with
    mem := Memory.cellsFrom 0 planBytes
    biu := { State.reset.biu with node := some 5 }
    pld := { State.reset.pld with begun := true } }

set_option maxRecDepth 20000 in
theorem test_plan_accepted : after (.planAccepted [(14, 2)]) loadingNode
    (fun t => (t.biu.busState, t.sbc.map Switch.current, t.rtb.routes.map (fun r => r.plan.participants)))
    = some (.silent, [some 2], [[3, 5]]) := by decide +kernel

set_option maxRecDepth 20000 in
theorem test_plan_lost_wear : after (.planAccepted [(14, 2)]) loadingNode (fun t => (t.pld.wearValid, t.ctp.notify2))
    = some (some false, true) := by decide +kernel

/-! ### Figures of the manual's examples -/

def pts (l : List (Nat × Nat)) : List CalPoint := l.map (fun q => { frequency := q.1, loss := q.2 })

/-- The examples of section 6.2. -/
theorem test_loss_examples :
    [tableLoss 3500 (pts [(3300, 412), (3800, 466)]), tableLoss 2100 (pts [(2000, 300), (2400, 310)]),
     tableLoss 5100 (pts [(5000, 820), (5800, 760)]), tableLoss 5050 (pts [(5000, 820), (5800, 760)]),
     tableLoss 26000 (pts [(600, 1275), (6000, 1275)]), tableLoss 3300 (pts [(3300, 412), (3800, 466)]),
     tableLoss 420 (pts [(3300, 412), (3800, 466)])] = [434, 303, 812, 816, 1275, 412, 412] := by decide +kernel

/-- The worked case of section 6.4: node 12's loss, and the trim of route 620. -/
theorem test_loss_node12 : tableLoss 3500 (pts [(3400, 2870), (3600, 2910), (4000, 2950)]) = 2890 := by decide +kernel
theorem test_trim_at_target : trimFor 6000 4599 25 255 = { code := 56, flag := .none, achieved := 5999 } := by decide +kernel

/-- R117: an exact half takes the higher code, a raw code of 1000 is clamped, a negative attenuation is SHORT. -/
theorem test_trim_half : (trimFor 125 100 50 255).code = 1 := by decide +kernel
theorem test_trim_long : trimFor 25000 0 25 255 = { code := 255, flag := .long, achieved := 6375 } := by decide +kernel
theorem test_trim_short : trimFor 99 100 25 255 = { code := 0, flag := .short, achieved := 100 } := by decide +kernel

/-- The example of chapter 1: route 330's claim at 2 holds switch 14 against route 220 at 3; once it is gone, route 210's
entry takes 5/44 at 3 as successor. -/
theorem test_claim_held : (bench.claimCheck tag44 220 (some 210) false).1 = some .held := by decide +kernel
theorem test_claim_successor :
    ((bench.dropRouteClaims 330).claimCheck tag44 220 (some 210) false).2.sbc.map Switch.claims
      = [[{ claimOf 210 2 with successor := some { tag := tag44, position := some 3 } }]] := by decide +kernel

/-- The second example of chapter 5: threshold -350, hysteresis 30. -240 and -371 leave detector 1 HOT, -402 makes it QUIET,
-342 HOT again. -/
theorem test_detector_hysteresis :
    ([-240, -371, -402, -342].foldl (fun (p : Detector × List Bool) level =>
      ((p.1.sample level), p.2 ++ [(p.1.sample level).hot])) (detector 1 true, [])).2 = [true, true, false, true] := by
  decide +kernel

/-- R96: threshold -400, hysteresis 30; a first sample of -395 is HOT and of -405 QUIET. -/
theorem test_detector_fresh :
    [-395, -405].map (fun l => (({ detector 1 true with threshold := -400, fresh := true } : Detector).sample l).hot)
      = [true, false] := by decide +kernel

/-- The hold line of the example of chapter 9: asserted at 12, standing at 9, deasserted at 8. -/
theorem test_hold_line : [holdAfter 11 false, holdAfter 12 false, holdAfter 9 true, holdAfter 8 true]
    = [false, true, true, false] := by decide +kernel

/-- The example of section 10.2: three ORPHANED notices at a queue of 15; the last carries two losses. -/
theorem test_orphans_at_full_queue :
    (([120, 305, 611].foldl (fun q r => joinNotice q (orphanNotice r (some 20)))
      (List.replicate 15 (orphanNotice 1 none))).getLast?.map (fun n => (n.route, n.lost))) = some (611, 2) := by decide +kernel

/-- R137: the third failure at node 7 waits 3 x (1 + 3) frame ends. -/
theorem test_backoff : backoffFor 3 7 = 12 := by decide +kernel

/-! ### One command each -/

theorem test_reset_release : after (.resetRelease 5 []) State.reset (fun t => (t.biu.node, t.biu.busState)) = some (some 5, .loading) := by
  decide +kernel
theorem test_strap_fault : after (.resetRelease 31 []) State.reset (fun t => t.pld.fault.map PlanFault.cause) = some (some .strap) := by
  decide +kernel
/-- R2, R200: a current position is one of two kinds, a position or UNKNOWN. -/
theorem test_current_position : (currentBytes (some 2), currentBytes none) = ([1, 2], [2]) := by decide
theorem test_take_notice_empty : after (.takeNotice 9) bench (fun t => t.ctp.sending.map Response.result) = some (some .empty) := by
  decide +kernel
theorem test_make_taken_up : after (.make 40 220 none none) bench (fun t => (t.spu.slotA.state, t.biu.outbound.length, t.ctp.queue.length))
    = some (.sending, 1, 0) := by decide +kernel
theorem test_make_busy : after (.make 40 210 none none) bench (fun t => t.ctp.sending.map Response.result)
    = some (some (.refused .routeBusy)) := by decide +kernel
theorem test_make_off_bus : after (.make 40 220 none none) (bus bench .listen) (fun t => t.ctp.sending.map Response.result)
    = some (some (.refused .offBus)) := by decide +kernel
theorem test_break_taken : after (.breakRoute 41 330) bench (fun t => t.biu.outbound.map Outbound.message)
    = some [.release 330 false] := by decide +kernel
theorem test_retrim_target : after (.retrim 42 210 (some 6000) none) bench (fun t => t.ctp.sending.map Response.result)
    = some (some (.refused .badValue)) := by decide +kernel
theorem test_clear_level_event : after (.clearEvents 1 9#16) bench (fun t => t.ctp.sending.map Response.result)
    = some (some (.refused .badValue)) := by decide +kernel
theorem test_leave : after (.leaveBus 1) bench (fun t => t.biu.busState) = some .draining := by decide +kernel
theorem test_join_back : after (.joinBus 1) (bus bench .draining) (fun t => t.biu.busState) = some .onBus := by decide +kernel
theorem test_duplicate_refuses : after (.joinBus 1) (bus bench .duplicate) (fun t => t.ctp.sending.map Response.result)
    = some (some (.refused .duplicate)) := by decide +kernel
theorem test_restart_silent : after (.restart 1 []) bench (fun t => (t.biu.busState, t.sbc.map Switch.claims, t.rtb.routes.map Route.state))
    = some (.silent, [[]], [.idle, .idle, .idle]) := by decide +kernel
theorem test_release_heard : after (.slotEnd releaseWord) { bench with biu := { bench.biu with node := some 7, place := .slots 5 } }
    (fun t => (t.rtb.stray, t.rtb.routes.map Route.state)) = some (0, [.established, .idle, .idle]) := by decide +kernel
theorem test_own_slot_silent_line : after (.slotEnd []) { bench with biu := { bench.biu with
      place := .slots 5, ownCopy := some { sender := 5, draining := false, entries := [], message := none } } }
    (fun t => t.biu.cause) = some (some .ownRecordFailed) := by decide +kernel
theorem test_sample_saturates : after (.detectorSample 3 9999) bench (fun t => t.rfg.detectors.map Detector.lastSample)
    = some [some (-120), some 300] := by decide +kernel
theorem test_save_wear : after (.saveWear 1) bench (fun t => t.pld.save == .writing (List.replicate 14 0 ++ [10] ++ List.replicate 33 0) .openMark)
    = some true := by decide +kernel
theorem test_idle_step : outcomeState (step bench) = some bench := by decide +kernel

/-! ### Every statement's hypotheses are met

Each theorem below shows a concrete state and operands that meet a statement's hypotheses together, clause by clause. `u` of a
statement is the first state given here, for none of them owes work but those of the rows that do it. -/

/-- A bench with a queue of one MAKE and slot A holding another request. -/
def busySlots : State :=
  { bench with spu := { bench.spu with
      single := true, slotA := slotOf .sending (jobOf 30 .breakRoute 330 none) none } }
/-- A save in flight, its opening write accepted. -/
def writing (w : SaveWrite) : State :=
  { bench with mem := [(Config.wearBase, 0#8)], pld := { bench.pld with save := .writing (List.replicate 48 7) w } }
def answering (s : State) : State := { s with ctp := { s.ctp with sending := some { id := 1, kind := 6, result := .empty } } }
def holding (s : State) (r : Request) : State := { answering s with ctp := { (answering s).ctp with rxBuffer := some r } }
def inSlot (s : State) (n : Nat) : State := { s with biu := { s.biu with place := .slots n } }
def driven : SlotRecord := { sender := 5, draining := false, entries := [], message := none }
def droveRecord (s : State) : State := { s with biu := { s.biu with ownCopy := some driven, drive := .record } }
def faulty : State := { bench with sbc := [{ sp4t 14 2 with state := .fault, current := none, faultReason := some .sense }] }
def moving (sensed : Bool) (left : Nat) : Switch :=
  { sp4t 14 2 with plan := { (sp4t 14 2).plan with sensed := sensed }, state := .moving, current := none,
                   commanded := some 3, settleLeft := left, driveLines := some 3 }
def peerAt (s : State) (node : Nat) (presence : Presence) (missed : Nat) : State :=
  s.onPeer node (fun p => { p with presence := presence, missed := missed })
def wearArea : List Host.Cell := Memory.cellsFrom 16384 (1#8 :: (List.replicate 192 0#8 ++ [0x83#8, 0xF2#8]))
def wornNode : State := { loadingNode with mem := Memory.cellsFrom 0 planBytes ++ wearArea }

theorem test_witness_HardwareResetKeepsOnlyMemory :
    bench.pld.save = .idle ∧ (writing .closeMark).pld.save = .writing (List.replicate 48 7) .closeMark ∧
      (writing (.count 3)).pld.save = .writing (List.replicate 48 7) (.count 3) ∧ SaveWrite.count 3 ≠ .closeMark ∧
      SaveWrite.count 3 ≠ .openMark ∧ SaveWrite.closeMark ≠ .openMark ∧
      Memory.read (writing .closeMark).mem Config.wearBase = some 0#8 := by
  decide +kernel

theorem test_witness_ResetReleaseReadsStraps :
    (State.reset.before (.resetRelease 5 [])).pld.load = .loading ∧
      (State.reset.before (.resetRelease 5 [])).pld.begun = false ∧ ([] : List Byte).length ≤ Config.wearBase ∧
      (1 ≤ 1 ∧ 1 ≤ 30) ∧ (1 ≤ 30 ∧ 30 ≤ 30) ∧ (0 = 0 ∨ 0 = 31) ∧ (31 = 0 ∨ 31 = 31) := by decide +kernel

/-- The plan the bytes above spell, as the Plan Loader reads it. -/
def loadedPlan : RawPlan :=
  { period := 400, window := 8, quiet := 20, single := 0, pulse := 50,
    switches := [{ index := 14, kind := 2, step := 0, maxCode := 0, sensed := 1, settle := 3, partner := 255, life := 0 }],
    detectors := List.replicate 8 (-300, 20), tables := [],
    routes := [{ id := 210, settings := [(14, 2)], participants := [3, 5], trimNode := 0, target := 65535, frequency := 3500,
                 table := 255, detectors := [1], inhibits := [2], ready := 0, flags := 0, attenuator := 255 }] }

/-- Whether a plan read gives the plan above. -/
def readsLoadedPlan : Except PlanFault RawPlan → Bool
  | .ok p => p == loadedPlan
  | .error _ => false

theorem ok_of_readsLoadedPlan {x : Except PlanFault RawPlan} (h : readsLoadedPlan x = true) : x = .ok loadedPlan := by
  cases x with
  | ok p => exact congrArg Except.ok (by simpa [readsLoadedPlan] using h)
  | error _ => cases h

set_option maxRecDepth 20000 in
theorem test_plan_read : readsLoadedPlan loadingNode.planRead = true := by decide +kernel

theorem test_witness_PlanAcceptedFillsBlocks :
    loadingNode.pld.load = .loading ∧ loadingNode.pld.begun = true ∧ loadingNode.planRead = .ok loadedPlan :=
  ⟨rfl, rfl, ok_of_readsLoadedPlan test_plan_read⟩

set_option maxRecDepth 20000 in
theorem test_plan_read_worn : readsLoadedPlan wornNode.planRead = true := by decide +kernel

set_option maxRecDepth 20000 in
theorem test_wear_read : readWear wornNode.mem = some (List.replicate 48 0) := by decide +kernel

set_option maxRecDepth 20000 in
theorem test_wear_absent : readWear loadingNode.mem = none := by decide +kernel

/-- The plan with a life limit of 5 on switch 14, and a VALID wear area that counts 7 there. -/
def agedNode : State :=
  let plan := planBytes.take 19 ++ [0, 0, 0, 5] ++ (planBytes.drop 23).take 45
  let counts := (List.replicate 14 0 ++ [7] ++ List.replicate 33 0).flatMap (bytesOf 4)
  { loadingNode with
    mem := Memory.cellsFrom 0 (plan ++ bytesOf 2 (crcBytes plan).toNat) ++
      Memory.cellsFrom Config.wearBase (1#8 :: (counts ++ bytesOf 2 (crcBytes counts).toNat)) }

set_option maxRecDepth 20000 in
theorem test_worn_at_load : after (.planAccepted [(14, 2)]) agedNode (fun t =>
    ((t.sbc.filter Switch.worn).map (fun w => w.plan.index), (t.event? .worn).map EventStatus.source))
    = some ([14], some (some (.switch 14))) := by decide +kernel

theorem test_witness_WearAreaJudgedAtLoad :
    (wornNode.pld.load = .loading ∧ wornNode.pld.begun = true ∧ wornNode.planRead = .ok loadedPlan ∧
        wornNode.pld.wearValid = none ∧ readWear wornNode.mem = some (List.replicate 48 0)) ∧
      (loadingNode.planRead = .ok loadedPlan ∧ loadingNode.pld.wearValid = none ∧ readWear loadingNode.mem = none) ∧
      (let lost : State := { loadingNode with pld := { loadingNode.pld with wearValid := some false } }
       lost.pld.load = .loading ∧ lost.pld.begun = true ∧ lost.planRead = .ok loadedPlan ∧ lost.pld.wearValid = some false) ∧
      ∃ t w, outcomeState (exec (.planAccepted [(14, 2)]) agedNode) = some t ∧ t.sbc.filter Switch.worn = [] ++ [w] := by
  refine ⟨⟨rfl, rfl, ok_of_readsLoadedPlan test_plan_read_worn, rfl, test_wear_read⟩,
    ⟨ok_of_readsLoadedPlan test_plan_read, rfl, test_wear_absent⟩,
    ⟨rfl, rfl, ok_of_readsLoadedPlan test_plan_read, rfl⟩, ?_⟩
  have h := test_worn_at_load
  unfold after at h
  obtain ⟨t, ht, hw⟩ := Option.map_eq_some_iff.mp h
  obtain ⟨w, hs, -⟩ := List.map_eq_singleton_iff.mp (Prod.mk.inj hw).1
  exact ⟨t, w, ht, hs⟩

theorem test_witness_LoadRefusedOutcomes :
    (∃ fault, ({ loadingNode with mem := [] } : State).pld.load = .loading ∧
      ({ loadingNode with mem := [] } : State).pld.begun = true ∧
      ({ loadingNode with mem := [] } : State).planRead = .error fault) ∧
      (loadingNode.pld.load = .loading ∧ loadingNode.pld.begun = true ∧ loadingNode.pld.wearValid = none ∧
        loadingNode.planRead = .ok loadedPlan) ∧
      ((writing .check).pld.save = .writing (List.replicate 48 7) .check ∧ SaveWrite.check ≠ .openMark ∧
        Memory.read (writing .check).mem Config.wearBase = some 0#8) ∧ bench.pld.load ≠ .loading :=
  ⟨⟨_, rfl, rfl, rfl⟩, ⟨rfl, rfl, rfl, ok_of_readsLoadedPlan test_plan_read⟩, ⟨rfl, by decide, rfl⟩, fun h => by cases h⟩

theorem test_witness_SaveWearTakenAndWritten :
    (bench.ctp.sending = none ∧ bench.biu.busState.planless = false ∧ bench.pld.save = .idle) ∧
      ((writing .openMark).ctp.sending = none ∧ (writing .openMark).biu.busState.planless = false ∧
        (writing .openMark).pld.save ≠ .idle) ∧
      (writing .openMark).pld.save = .writing (List.replicate 48 7) .openMark ∧ SaveWrite.openMark ≠ .closeMark ∧
      (writing .closeMark).pld.save = .writing (List.replicate 48 7) .closeMark ∧ SaveWrite.closeMark ≠ .openMark ∧
      Memory.read (writing .closeMark).mem Config.wearBase = some 0#8 := by decide +kernel

theorem test_witness_WearAreaOpenUntilClosed :
    (List.replicate 48 7).length = 48 ∧ (∀ n ∈ List.replicate 48 7, n < 4294967296) ∧ (1 ≤ 1 ∧ 1 ≤ 50) ∧ (1 ≤ 50 ∧ 50 ≤ 50) ∧
      saveWrites[1]? = some (.count 0) ∧ saveWrites[50]? = some .closeMark ∧
      (let u := writing .closeMark
       u.pld.save = .writing (List.replicate 48 7) .closeMark ∧ Memory.read u.mem Config.wearBase = some 0#8 ∧
        (outcomeState (step (u.queued [.restart 1 []]))).isSome = true) := by
  decide +kernel

theorem test_witness_RequestTestsInOrder :
    (requestOf? (.requestUnknownKind 1 99) = some { id := 1, body := .unknownKind 99 } ∧ bench.ctp.sending = none) ∧
      (requestOf? (.takeNotice 1) = some { id := 1, body := .takeNotice } ∧ (∀ k, RequestBody.takeNotice ≠ .unknownKind k) ∧
        (bus bench .planFault).ctp.sending = none ∧ (bus bench .planFault).biu.busState = .planFault ∧
        RequestBody.takeNotice ≠ .queryNode) ∧
      (requestOf? (.clearEvents 1 0#16) = some { id := 1, body := .clearEvents 0#16 } ∧
        (∀ k, RequestBody.clearEvents 0#16 ≠ .unknownKind k) ∧ bench.biu.busState ≠ .loading ∧ bench.biu.busState ≠ .planFault ∧
        (RequestBody.clearEvents 0#16).formOk = false) :=
  ⟨⟨rfl, rfl⟩, ⟨rfl, (fun _ h => by cases h), rfl, rfl, (fun h => by cases h)⟩, rfl, (fun _ h => by cases h), by decide +kernel,
    by decide +kernel, rfl⟩

theorem test_witness_PortHoldsOneFrame :
    let held : Request := { id := 4, body := .takeNotice }
    (requestOf? (.takeNotice 4) = some held ∧ (answering bench).ctp.sending ≠ none ∧ (answering bench).ctp.rxBuffer = none) ∧
      ((holding bench held).ctp.sending ≠ none ∧ (holding bench held).ctp.rxBuffer = some held ∧
        ((holding bench held).sensed []).before (.takeNotice 4) = (holding bench held).sensed []) ∧
      (∀ b ∈ [BusState.planFault, .onBus], ∀ k ∈ [6, 9],
        let u := holding (bus bench b) { id := 4, body := .wrongForm k }
        u.ctp.sending ≠ none ∧ u.ctp.rxBuffer = some { id := 4, body := .wrongForm k } ∧ u.biu.busState = b) ∧
      bench.ctp.sending = none := by
  refine ⟨⟨rfl, (fun h => by cases h), rfl⟩, ⟨fun h => (by cases h), rfl, rfl⟩, by decide +kernel, rfl⟩

theorem test_witness_FrameReceivedJudged :
    (requestOf? (.takeNotice 4) = some { id := 4, body := .takeNotice } ∧ 4 < 65536 ∧ RequestBody.takeNotice.fits = true ∧
        ∃ u, u = bench.before (.frameReceived (Request.frame { id := 4, body := .takeNotice }) []) ∧
          u.before (.takeNotice 4) = u) ∧
      (∀ r ∈ [({ id := 7, body := .unknownKind 0 } : Request), { id := 7, body := .unknownKind 17 },
          { id := 7, body := .wrongForm 6 }, { id := 7, body := .wrongForm 9 }],
        Request.ofFrame ([0, 6, 0, 7, BitVec.ofNat 8 r.body.kind, 1] ++
          bytesOf 2 (crcBytes [0, 6, 0, 7, BitVec.ofNat 8 r.body.kind, 1]).toNat) = some r) ∧
      (bench.ctp.sending = none ∧ ¬(bench.biu.busState = .loading ∨ bench.biu.busState = .planFault) ∧
        (bus bench .planFault).biu.busState = .planFault) ∧
      ((answering bench).ctp.sending ≠ none ∧ (answering bench).ctp.rxBuffer = none ∧
        (holding bench { id := 4, body := .takeNotice }).ctp.rxBuffer ≠ none) ∧
      Request.ofFrame [0, 5, 0, 7, 16, 38, 238] = none ∧ ([0, 7, 16, 38, 239] : List Byte).length ≠ (0#8).toNat * 256 + (6#8).toNat :=
  ⟨⟨rfl, by decide, rfl, _, rfl, rfl⟩, by decide +kernel, by decide +kernel, by decide +kernel, test_frame_bad_check,
    by decide +kernel⟩

theorem test_witness_ChangeoverRequestTests :
    let r : Request := { id := 40, body := .make 220 none none }
    let j := jobOf 40 .make 220 none
    requestOf? (.make 40 220 none none) = some r ∧ r.body.job? r.id = some j ∧ bench.ctp.sending = none ∧
      bench.biu.busState.planless = false ∧ (bus bench .draining).biu.busState ≠ .onBus ∧ bench.biu.busState = .onBus ∧
      ¬(∀ x ∈ (jobOf 40 .make 999 none).routes, (bench.route? x).isSome = true) ∧
      (∀ x ∈ j.routes, (bench.route? x).isSome = true) ∧ j.id ≠ 0 ∧ (j.target = none ∧ j.frequency = none) ∧
      j.second ≠ some j.route ∧ (jobOf 0 .make 220 none).id = 0 ∧ bench.recheck (jobOf 40 .make 210 none) = some .routeBusy ∧
      bench.recheck j = none ∧
      16 ≤ ({ bench with ctp := { bench.ctp with queue := List.replicate 16 j } } : State).ctp.queue.length := by
  decide +kernel

theorem test_witness_ChangeoverRequestTests_checks :
    bench.route? 210 = some (heldRoute 210 2) ∧ (heldRoute 210 2).state = .established ∧
      (heldRoute 210 2).holder = some bench.me ∧ bench.route? 220 = some (routePlan 220 3).record ∧
      (jobOf 40 .exchange 210 (some 220)).second = some 220 ∧ (routePlan 220 3).record.state = .idle ∧
      (heldRoute 330 2).state ≠ .idle := by decide +kernel

theorem test_witness_PassedRequestJoinsQueue :
    let r : Request := { id := 40, body := .make 220 none none }
    let j := jobOf 40 .make 220 none
    requestOf? (.make 40 220 none none) = some r ∧ r.body.job? r.id = some j ∧ busySlots.ctp.sending = none ∧
      busySlots.biu.busState = .onBus ∧ (∀ x ∈ j.routes, (busySlots.route? x).isSome = true) ∧ j.id ≠ 0 ∧ j.target = none ∧
      j.frequency = none ∧ j.second ≠ some j.route ∧ busySlots.recheck j = none ∧ busySlots.ctp.queue.length < 16 ∧
      busySlots.spu.slotA.state = .sending ∧ busySlots.spu.slotB.state = .free ∧ busySlots.spu.single = true := by
  decide +kernel

/-- A MAKE of route 220, a BREAK of route 330 and a RETRIM of route 210 at a FREE slot: `busy` holds a busy tag on route 210,
`crowded` no free place. -/
theorem test_witness_PassedRequestJoinsQueue_idle :
    let busy : State := { bench with rtb := { bench.rtb with routes := [{ heldRoute 210 2 with busy := some tag88 }] } }
    let crowded : State := { bench with cxe := { bench.cxe with reservations := List.replicate 6 .a } }
    (∀ s ∈ [bench, crowded], ∀ j ∈ [jobOf 40 .make 220 none, jobOf 40 .breakRoute 330 none],
      s.recheck j = none ∧ s.slot .a = .empty ∧ s.spu.slotB = .empty ∧ s.ctp.queue = [] ∧ (s.slot .b).job = none ∧
        (∀ x ∈ j.routes, ∀ r ∈ s.route? x, r.busy = none)) ∧
      bench.cxe.contexts.length + bench.cxe.reservations.length < 6 ∧
      6 ≤ crowded.cxe.contexts.length + crowded.cxe.reservations.length ∧
      (busy.recheck (jobOf 40 .retrim 210 none) = none ∧ ∃ r ∈ busy.route? 210, r.busy ≠ none) ∧
      (let s := slotA bench (slotOf .sending (jobOf 30 .breakRoute 330 none) none)
       s.slot .b = .empty ∧ s.spu.slotA.state = .sending ∧ s.spu.single = false ∧ s.recheck (jobOf 40 .make 220 none) = none) := by
  decide +kernel

theorem test_witness_TakeNoticeAndQueriesAnswer :
    (bench.ctp.sending = none ∧ bench.biu.busState.planless = false ∧ bench.ctp.notices = [] ∧
        (bench.notice (orphanNotice 120 none)).ctp.notices = orphanNotice 120 none :: []) ∧
      bench = bench.caughtUp ∧ bench.route? 210 = some (heldRoute 210 2) ∧ bench.route? 999 = none ∧
      (bench.switch? 14).isSome = true ∧ bench.switch? 15 = none := by decide +kernel

theorem test_witness_CancelByWhereItStands :
    let j := jobOf 30 .make 220 none
    let queuedState : State := { bench with ctp := { bench.ctp with queue := [jobOf 29 .make 220 none, j] } }
    (queuedState.ctp.sending = none ∧ queuedState.biu.busState.planless = false ∧ (∀ k ∈ queuedState.spu.slotA.job, k.id ≠ 30) ∧
        (∀ k ∈ queuedState.spu.slotB.job, k.id ≠ 30) ∧ queuedState.ctp.queue = [jobOf 29 .make 220 none] ++ j :: [] ∧
        (∀ p ∈ [jobOf 29 .make 220 none], p.id ≠ 30) ∧ (∀ q ∈ bench.ctp.queue, q.id ≠ 30)) ∧
      ∀ name ∈ [SlotName.a, .b],
        let inSlot (x : SponsorSlot) : State := bench.setSlot name x
        (name = .b → ∀ k ∈ (inSlot .empty).spu.slotA.job, k.id ≠ 30) ∧ bench.ctp.queue = [] ∧
        ((inSlot .empty).slot (otherSlot name)).state ≠ .backoff ∧
        (∀ x ∈ [CancelState.none, .waiting, .taken, .late],
          ((inSlot { slotOf .sending j (some tag44) with cancel := x }).slot name).cancel = x) ∧
        ((inSlot (slotOf .backoff j none)).slot name).state = .backoff ∧
        ((inSlot (slotOf .sending j (some tag44))).slot name).job = some j ∧
        ((inSlot (slotOf .sending j (some tag44))).slot name).state = .sending ∧
        (∃ o ∈ (bench.place name (.release 220 false)).biu.outbound, o.slot = name) ∧
        (∀ o ∈ (inSlot .empty).biu.outbound, o.slot ≠ name) ∧ ((inSlot (slotOf .sending j none)).slot name).tag = none ∧
        ∀ c ∈ [contextOf tag44 .move none, contextOf tag44 .cold (some .quiet), contextOf tag44 .answer (some (.object .held)),
            { contextOf tag44 .cold (some .withdraw) with withdrawal := .pending },
            { contextOf tag44 .failed none with close := some (.at .noAnswer (some 3)) },
            { contextOf tag44 .failed none with close := some (.at .hot (some 3)) }],
          let opened := withContext (inSlot (slotOf .opened j (some tag44))) c
          (opened.slot name).state = .opened ∧ (opened.slot name).tag = some tag44 ∧ opened.context? tag44 = some c ∧
            (∀ r ∈ c.close, opened.mayRetry j c.passedCommit r ↔ r.reason = .noAnswer) := by decide +kernel

theorem test_witness_QueryNodeGathersBlocks :
    bench.ctp.sending = none ∧ (bus bench .duplicate).biu.busState = .duplicate ∧ (bus bench .silent).biu.busState = .silent ∧
      (bus bench .listen).biu.busState = .listen ∧ 0 < bench.rfg.pulseWidth ∧
      ∀ r ∈ (bench.rfg.pulse 0).ready, r.pulsing = true → r.timeLeft = bench.rfg.pulseWidth := by decide +kernel

theorem test_witness_ClearFaultReadsSense :
    faulty.ctp.sending = none ∧ faulty.biu.busState.planless = false ∧ faulty.switch? 15 = none ∧
      faulty.switchLawful ∧
      (∃ w, bench.switch? 14 = some w ∧ w.state ≠ .fault) ∧
      (∃ w, faulty.switch? 14 = some w ∧ w.state = .fault ∧ w.commanded = some 2 ∧ w.reading [(14, 2)] = some 2 ∧
        w.reading [] = none ∧ w.reading [(14, 3)] ≠ w.commanded) :=
  ⟨rfl, rfl, rfl, by decide +kernel, ⟨_, rfl, by decide +kernel⟩, _, rfl, rfl, rfl, rfl, rfl, by decide +kernel⟩

theorem test_witness_EventRequestsAct :
    bench.ctp.sending = none ∧ bench.biu.busState.planless = false ∧ ((8#16).toNat % 1024 ≠ 0 ∧ (8#16).toNat < 1024) ∧
      (∀ i, i < 3 → (8#16).getLsbD i = false) ∧ ((9#16).toNat % 1024 ≠ 0 ∧ (9#16).toNat < 1024) ∧
      (∃ i, i < 3 ∧ (9#16).getLsbD i = true) ∧ (List.replicate 10 2#8).length = 10 ∧
      ∀ b ∈ List.replicate 10 2#8, b.toNat ≤ 2 :=
  ⟨rfl, rfl, by decide, by decide, by decide, ⟨0, by decide⟩, by decide, by decide +kernel⟩

theorem test_witness_BusRequestsByState :
    bench = bench.caughtUp ∧ bench.ctp.sending = none ∧ bench.biu.busState = .onBus ∧
      (∀ b ∈ [BusState.listen, .silent, .draining, .offBus, .duplicate],
        (bus bench b).ctp.sending = none ∧ (bus bench b).biu.busState = b ∧ bus bench b = (bus bench b).caughtUp) ∧
      (bus bench .offBus).biu.silence ≠ 12 ∧
      ({ bus bench .offBus with biu := { (bus bench .offBus).biu with silence := 12 } } : State).biu.silence = 12 := by
  decide +kernel

theorem test_witness_RestartResetsBlocks :
    bench.ctp.sending = none ∧ bench.biu.busState.planless = false := by decide +kernel

theorem test_witness_ProposeCarriesRequest :
    (∃ r, bench.route? (jobOf 1 .make 220 none).makeRoute = some r ∧ r.plan.trimNode = none) ∧
      (∃ r, bench.route? (jobOf 1 .exchange 210 (some 220)).makeRoute = some r) ∧
      (∃ b, bench.route? (jobOf 1 .exchange 210 (some 220)).route = some b) ∧ (jobOf 1 .retrim 210 none).second = none ∧
      (∃ r : Route, ({ bench with rtb := { bench.rtb with routes := [{ heldRoute 210 2 with
        plan := { routePlan 210 2 with trimNode := some 5, defaultTarget := some 6000 } }] } } : State).route?
          (jobOf 1 .retrim 210 none).makeRoute = some r ∧ r.plan.trimNode ≠ none) :=
  ⟨⟨_, rfl, rfl⟩, ⟨_, rfl⟩, ⟨_, rfl⟩, rfl, _, rfl, by decide +kernel⟩

/-- A queue whose first request waits on a busy route. -/
def waitingQueue (j : Job) : State :=
  { owes bench .takeUp with
    rtb := { bench.rtb with routes := [heldRoute 210 2, (routePlan 220 3).record, { heldRoute 330 2 with busy := some tag88 }] }
    ctp := { bench.ctp with queue := [jobOf 29 .retrim 330 none, j] }
    spu := { bench.spu with single := true } }

theorem test_witness_TakeUpPlacesFirstMessage :
    (∀ j ∈ [jobOf 30 .make 220 none, jobOf 30 .breakRoute 210 none, jobOf 30 .make 210 none],
      let s := waitingQueue j
      let u := s.taking .takeUp
      Work.takeUp ∈ s.agenda ∧ u.biu.busState = .onBus ∧ u.slot .a = .empty ∧ u.spu.single = true ∧
        u.ctp.queue = [jobOf 29 .retrim 330 none] ++ j :: [] ∧
        (∀ p ∈ [jobOf 29 .retrim 330 none], ∃ x ∈ p.routes, ∃ r ∈ u.route? x, r.busy ≠ none) ∧
        u.recheck j = (if j.route = 210 ∧ j.kind = .make then some .routeBusy else none) ∧
        (∀ x ∈ j.routes, ∀ r ∈ u.route? x, r.busy = none) ∧ (∀ k ∈ (u.slot .b).job, ∀ x ∈ j.routes, x ∉ k.routes) ∧
        u.cxe.contexts.length + u.cxe.reservations.length < 6) ∧
      (let j := jobOf 30 .make 220 none
       let s0 := waitingQueue j
       let s : State := { s0 with
         spu := { s0.spu with single := false, slotA := slotOf .opened (jobOf 28 .retrim 330 none) (some tag44) }
         ctp := { s0.ctp with queue := [j, jobOf 31 .breakRoute 210 none] }
         cxe := { s0.cxe with reservations := List.replicate 6 .a } }
       let u := s.taking .takeUp
       u.slot .b = .empty ∧ u.spu.single = false ∧ (u.slot .a).state ≠ .free ∧ u.recheck j = none ∧
         6 ≤ u.cxe.contexts.length + u.cxe.reservations.length ∧ u.ctp.queue = [] ++ j :: ([] ++ jobOf 31 .breakRoute 210 none :: []) ∧
         u.recheck (jobOf 31 .breakRoute 210 none) = none ∧
         (∀ k ∈ (u.slot .a).job, ∀ x ∈ [220, 210], x ∉ k.routes)) := by decide +kernel

theorem test_witness_BackoffExpiryRetries :
    let j := jobOf 30 .make 220 none
    let s := owes (slotA bench (slotOf .backoff j (some tag44))) (.backoff .a)
    let full := { s with cxe := { s.cxe with reservations := List.replicate 6 .b } }
    let taken := owes (slotA bench (slotOf .backoff (jobOf 30 .make 210 none) (some tag44))) (.backoff .a)
    let busy := owes (slotA (waitingQueue j) (slotOf .backoff (jobOf 30 .retrim 330 none) (some tag44))) (.backoff .a)
    let u := s.taking (.backoff .a)
    Work.backoff .a ∈ s.agenda ∧ (u.slot .a).state = .backoff ∧ (u.slot .a).backoff = 0 ∧ (u.slot .a).job = some j ∧
      j.kind ≠ .breakRoute ∧ u.biu.busState = .onBus ∧ (∀ x ∈ j.routes, ∀ r ∈ u.route? x, r.busy = none) ∧ u.recheck j = none ∧
      u.cxe.contexts.length + u.cxe.reservations.length < 6 ∧
      6 ≤ (full.taking (.backoff .a)).cxe.contexts.length + (full.taking (.backoff .a)).cxe.reservations.length ∧
      ((taken.taking (.backoff .a)).recheck (jobOf 30 .make 210 none) = some .routeBusy ∧ taken.ctp.queue = [] ∧
        (taken.slot (otherSlot .a)).state ≠ .backoff) ∧
      (∃ r ∈ (busy.taking (.backoff .a)).route? 330, r.busy ≠ none) ∧ (bus u .listen).biu.busState = .listen := by
  decide +kernel

def closedNoAnswer : HandOff :=
  { tag := tag44, record := .at .noAnswer (some 3), done := false, passedCommit := false, achieved := none, flag := .none,
    hotMade := false, target := none, withdrawalSent := false }

theorem test_witness_CloseDecidesRetry :
    let j := jobOf 30 .make 220 none
    let x := slotOf .opened j (some tag44)
    let s := slotA bench x
    let never : State := { s with rtb := { s.rtb with routes := s.rtb.routes.map (fun r =>
      { r with plan := { r.plan with noRetry := true } }) } }
    s.slot .a = x ∧ x.job = some j ∧ s.ctp.queue = [] ∧ (s.slot (otherSlot .a)).state ≠ .backoff ∧ x.cancel = .none ∧
      (closedNoAnswer.done = false ∧ closedNoAnswer.passedCommit = false ∧ s.mayRetry j false closedNoAnswer.record ∧
        x.attempts < 16 ∧ 16 ≤ ({ x with attempts := 16 } : SponsorSlot).attempts) ∧
      (∀ why ∈ [ObjectReason.held, .full, .routeBusy],
        s.mayRetry j false { reason := .objected, node := some 3, objection := some why }) ∧
      ¬s.mayRetry j false { reason := .objected, node := some 3, objection := some .faulty } ∧
      ¬s.mayRetry j false (.at .hot (some 3)) ∧ ¬never.mayRetry j false closedNoAnswer.record ∧
      ({ closedNoAnswer with done := true } : HandOff).done = true ∧
      ({ x with cancel := .taken } : SponsorSlot).cancel = .taken ∧ ({ x with cancel := .late } : SponsorSlot).cancel = .late ∧
      ({ closedNoAnswer with passedCommit := true } : HandOff).passedCommit = true := by decide +kernel

theorem test_witness_SyncBeginsFrame :
    let unsynced : State := { bench with biu := { bench.biu with synced := false } }
    let still : State := { bench with biu := { bench.biu with timerRunning := false } }
    bench = bench.caughtUp ∧ bench.biu.timerRunning = true ∧ bench.biu.synced = true ∧ bench.biu.place = .idle ∧
      bench.biu.busState ≠ .duplicate ∧ (bus bench .duplicate).biu.busState = .duplicate ∧ unsynced.biu.synced = false ∧
      unsynced.biu.timerRunning = true ∧ unsynced.biu.busState ≠ .duplicate ∧ still.biu.timerRunning = false ∧ (inSlot bench 4).biu.place ≠ .idle := by
  decide +kernel

theorem test_witness_OwnSlotFormsRecord :
    (inSlot bench 5).biu.busState = .onBus ∧ (inSlot bench 5).biu.synced = true ∧
      (inSlot bench 5).biu.place = .slots (inSlot bench 5).me ∧ (inSlot bench 5).biu.ownCopy = none ∧
      (inSlot bench 5).biu.outbound = [] ∧
      ((inSlot bench 5).place .a (.release 330 false)).biu.outbound = { slot := .a, message := .release 330 false } :: [] ∧
      (bus bench .listen).biu.busState ≠ .onBus ∧ (bus bench .listen).biu.busState ≠ .draining := by decide +kernel

theorem test_witness_PeerSlotJudged :
    let r : SlotRecord := { sender := 7, draining := false, entries := [], message := none }
    let u := inSlot bench 7
    u.biu.timerRunning = true ∧ u.biu.synced = true ∧ u.biu.place = .slots 7 ∧ 7 ≠ u.me ∧ u.cxe.contexts = [] ∧
      ([] : Bits).take 8 ≠ startPattern ∧ startPattern.take 8 = startPattern ∧
      SlotRecord.decode (startPattern.drop 8) = none ∧ r.inCodes = true ∧ r.message = none ∧
      (∀ p ∈ u.biu.peers, p.node = 7 → p.presence ≠ .present) ∧
      (∃ p ∈ (peerAt u 7 .present 0).biu.peers, p.node = 7 ∧ p.presence = .present) ∧
      (u.biu.busState = .onBus ∧ (bus u .silent).biu.busState ≠ .onBus ∧ (bus u .silent).biu.busState ≠ .draining) := by
  decide +kernel

theorem test_witness_OwnSlotJudged :
    (let u := droveRecord (inSlot bench 5)
     u.biu.timerRunning = true ∧ u.biu.synced = true ∧ u.biu.place = .slots u.me ∧ u.me ≤ 30 ∧ u.biu.ownCopy = some driven ∧
      u.biu.busState = .onBus ∧ u.cxe.lawful ∧ driven.bits.take 8 = startPattern ∧
      SlotRecord.decode (driven.bits.drop 8) = some driven ∧ driven.sender = u.me ∧
      SlotRecord.decode (startPattern.drop 8) = none ∧ ([] : Bits).take 8 ≠ startPattern ∧ releaseWord.take 8 = startPattern ∧
      SlotRecord.decode (releaseWord.drop 8)
        = some { sender := 5, draining := true, entries := [], message := some (.release 330 true) }) ∧
    (let u := bus (inSlot bench 5) .listen
     let begun : State := { u with biu := { u.biu with begunInListen := true } }
     u.biu.timerRunning = true ∧ u.biu.synced = true ∧ u.biu.place = .slots u.me ∧ u.me ≤ 30 ∧ u.biu.busState = .listen ∧
      startPattern.take 8 = startPattern ∧ begun.biu.begunInListen = true ∧ ([] : Bits).take 8 ≠ startPattern ∧
      u.biu.begunInListen = false) ∧
    (∀ b ∈ [BusState.offBus, .silent, .duplicate],
      let u := bus (inSlot bench 5) b
      u.biu.timerRunning = true ∧ u.biu.synced = true ∧ u.biu.place = .slots u.me ∧ u.me ≤ 30 ∧ u.biu.busState = b) ∧
    ∀ name ∈ [SlotName.a, .b],
      let s := bench.setSlot name { slotOf .sending (jobOf 30 .breakRoute 330 none) none with sent := true }
      (s.slot name).state = .sending ∧ (s.slot name).sent = true ∧ (s.slot name).job = some (jobOf 30 .breakRoute 330 none) ∧
        (name = .b → ¬(s.spu.slotA.state = .sending ∧ s.spu.slotA.sent = true)) ∧ s.ctp.queue = [] ∧
        (s.slot (otherSlot name)).state ≠ .backoff := by decide +kernel

theorem test_witness_FrameEndCounts :
    (inSlot bench 31).biu.timerRunning = true ∧ (inSlot bench 31).biu.synced = true ∧ (inSlot bench 31).biu.place = .slots 31 ∧
      (inSlot bench 31).biu.busState ≠ .draining ∧ (bus (inSlot bench 31) .draining).biu.busState = .draining ∧
      bench.cxe.contexts = [] ∧ bench.spu.slotA.state = .free ∧ bench.spu.slotB.state = .free ∧
      bench.biu.place ≠ .slots 31 ∧ bench.biu.place ≠ .unjudged := by decide +kernel

theorem test_witness_SettleEndJudgesSwitch :
    let w (sensed : Bool) : Switch := { moving sensed 0 with waiters := [tag88] }
    let s (sensed : Bool) := owes { bench with sbc := [w sensed], sense := [(14, 3)] } (.settle 14)
    let bad := owes { bench with sbc := [w true], sense := [(14, 1)] } (.settle 14)
    (∀ b, Work.settle 14 ∈ (s b).agenda ∧ (s b).switch? 14 = some (w b) ∧ (w b).plan.partner = none ∧
      (w b).state = .moving ∧ (w b).settleLeft = 0 ∧ (s b).switchLawful) ∧
      (w false).plan.sensed = false ∧ (w true).commanded ≠ none ∧
      (w true).reading (s true).sense = (w true).commanded ∧ (w true).plan.sensed = true ∧
      (w true).reading [] = none ∧ bad.switch? 14 = some (w true) ∧
      (w true).reading bad.sense ≠ (w true).commanded := by decide +kernel

/-- A MOVING member of a partner pair, its settle ended. -/
def member (index other : Nat) : Switch :=
  { moving true 0 with plan := { (moving true 0).plan with index := index, partner := some other } }

theorem test_witness_SettleEndJudgesSwitch_pair :
    ∀ w ∈ [member 15 14, { member 15 14 with state := .still }],
      let s : State := owes { bench with sbc := [member 14 15, w], sense := [(14, 3), (15, 1)] } (.settle 14)
      Work.settle 14 ∈ s.agenda ∧ s.switch? 14 = some (member 14 15) ∧ s.switch? 15 = some w ∧ w.plan.partner = some 14 ∧
        (member 14 15).plan.partner = some 15 ∧ s.switchLawful ∧ (member 14 15).state = .moving ∧ (member 14 15).settleLeft = 0 ∧
        (w.state = .moving → w.settleLeft = 0) := by decide +kernel

theorem test_pair_skew :
    let s : State := owes { bench with sbc := [member 14 15, member 15 14], sense := [(14, 3), (15, 1)] } (.settle 14)
    after (.settleEnd 15) s (fun t => t.sbc.map (fun w => (w.state, w.current))) = some [(.still, some 3), (.fault, some 1)] := by
  decide +kernel

theorem test_witness_PairJudgedTogether :
    let s : State := { bench with sbc := [member 14 15, member 15 14], sense := [(14, 3), (15, 1)] }
    14 ≠ 15 ∧ s.switch? 14 = some (member 14 15) ∧ s.switch? 15 = some (member 15 14) ∧ (member 14 15).plan.partner = some 15 ∧
      (member 15 14).plan.partner = some 14 ∧ s.switchLawful ∧ (member 14 15).state = .moving ∧
      (member 14 15).reading s.sense = (member 14 15).commanded ∧ (member 15 14).reading s.sense ≠ (member 15 14).commanded := by
  decide +kernel

theorem test_witness_WindowExpiryClosesContext : ∀ n ∈ [0, 1],
    let c := { contextOf tag88 .answer none with window := n }
    let s := owes (withContext bench c) (.window tag88)
    let u := s.taking (.window tag88)
    Work.window tag88 ∈ s.agenda ∧ u.context? tag88 = some c ∧ c.phase = .answer ∧ c.window ≤ 1 ∧ tag88.sponsor ≠ u.me := by
  decide +kernel

theorem test_witness_QuietAndLingerRunOut :
    (∀ c ∈ [{ contextOf tag88 .cold (some (.accept 434)) with quietWait := true, quietLeft := 1 },
        { contextOf tag88 .cold (some .withdraw) with quietWait := true, kept := some (.accept 434) }],
     let s := owes (withContext bench c) (.quiet tag88)
     let u := s.taking (.quiet tag88)
     Work.quiet tag88 ∈ s.agenda ∧ u.context? tag88 = some c ∧ c.phase = .cold ∧ c.quietWait = true ∧ c.quietLeft ≤ 1 ∧
       (c.report = some (.accept 434) ∨ (c.report = some .withdraw ∧ c.kept = some (.accept 434)))) ∧
    (let c := contextOf tag88 .done none
     let s := owes (withContext bench c) (.linger tag88)
     let u := s.taking (.linger tag88)
     Work.linger tag88 ∈ s.agenda ∧ u.context? tag88 = some c ∧ c.phase = .done ∧ c.linger = 0 ∧ c.driven = [] ∧
       ¬u.biu.busState = .draining) ∧
    (let c := contextOf tag88 .done none
     let s := owes (withContext (bus bench .draining) c) (.linger tag88)
     let u := s.taking (.linger tag88)
     Work.linger tag88 ∈ s.agenda ∧ u.context? tag88 = some c ∧ u.biu.busState = .draining ∧
       (∀ x ∈ u.cxe.contexts, x.tag = tag88) ∧ u.spu.slotA.state = .free ∧ u.spu.slotB.state = .free) := by decide +kernel

theorem test_witness_SilenceThenClearJoinsBus :
    (let s := owes { bench with biu := { bench.biu with busState := .silent, silence := 12 } } .silence
     let u := s.taking .silence
     Work.silence ∈ s.agenda ∧ u.biu.busState = .silent ∧ u.biu.silence = 12) ∧
    (let s := owes { bench with biu := { bench.biu with busState := .listen, clear := 2 } } .clear
     let u := s.taking .clear
     Work.clear ∈ s.agenda ∧ u.biu.busState = .listen ∧ u.biu.clear = 2) := by decide +kernel

theorem test_witness_PeerAbsentTakesEverythingDown :
    let s := owes (peerAt (withContext bench (contextOf tag88 .cold (some .quiet))) 3 .present 8) .absence
    let u := s.taking .absence
    Work.absence ∈ s.agenda ∧ u.cxe.lawful ∧ u.routesLawful ∧
      (∃ p ∈ u.biu.peers, p.node = 3 ∧ p.presence = .present ∧ p.missed = 8) ∧
      (∃ c ∈ u.cxe.contexts, c.isOpen = true ∧ 3 ∈ c.participants ∧ c.tag.sponsor ≠ u.me) ∧
      (u.rtb.routes.filter (fun r => r.state == .established && r.established.contains 3))
        = [heldRoute 210 2] ++ [heldRoute 330 2] := by decide +kernel

theorem test_witness_InstrumentLineEvents :
    let e : GuardEntry := { tag := tag88, lines := [2, 5], detectors := [1, 3], hotTolerant := false, watch := true }
    let c := { contextOf tag88 .cold (some (.accept 0)) with quietWait := true }
    let s : State := withContext { bench with rfg := { bench.rfg with guards := [e] } } c
    e ∈ s.rfg.guards ∧ 1 ∈ e.detectors ∧ e.watch = true ∧ s.rfg.inputHot 1 = true ∧
      (e.detectors.all (fun i => !({ bench.rfg with detectors := [detector 1 false, detector 3 false] } : Rfg).inputHot i)) = true ∧
      c ∈ s.cxe.contexts ∧ c.phase = .cold ∧ c.quietWait = true ∧
      (bench.rfg.openGuard tag88 [2, 5] [1, 3] false).entry? tag88 = some { e with watch := false } ∧
      after (.detectorSample 1 (-402)) s (fun t => (t.cxe.contexts.map Context.report, t.rfg.guards.map GuardEntry.watch))
        = some ([some .quiet], [false]) := by decide +kernel

theorem test_witness_RouteCheckAnswers :
    let trimmed : State := { bench with rtb := { bench.rtb with routes := [{ (routePlan 220 3).record with
      plan := { routePlan 220 3 with trimNode := some 5 } }] } }
    let busy330 := waitingQueue (jobOf 30 .make 220 none)
    (bench.route? 999 = none ∧ (∃ r ∈ bench.route? 210, r.busy = none ∧ r.state ≠ .idle)) ∧
      (bench.routeCheck tag88 999 none true false).1 = .refuse .unknown ∧
      (bench.routeCheck tag88 210 none true false).1 = .refuse .routeBusy ∧
      (bench.routeCheck tag88 220 (some 210) true false).1 = .refuse .notHolder ∧
      (busy330.routeCheck tag44 220 (some 330) true false).1 = .refuse .routeBusy ∧
      (trimmed.routeCheck tag44 220 none true true).1 = .refuse .noTrim ∧
      (bench.routeCheck tag44 220 (some 210) true false).1 = .marked ∧
      (bench.routeCheck tag44 999 (some 210) true false).1 = .breakOnly := by decide +kernel

/-! Clauses of the claim check: 5/44's check of route 220 against route 210 fails at switch 14 while route 330 stands, and is
granted once it is gone. -/

theorem test_witness_ClaimCheckTakenWhole :
    (bench.coveredSet 220 false = [] ++ (14, some 3) :: [] ∧ bench.testSwitch (some 210) 14 (some 3) = some .held) ∧
      (let s := bench.dropRouteClaims 330
       (∀ q ∈ s.coveredSet 220 false, s.testSwitch (some 210) q.1 q.2 = none) ∧
        ((s.coveredSet 220 false).map Prod.fst).Nodup ∧ 3 ∉ (s.coveredSet 220 false).map Prod.fst ∧
        (14, some 3) ∈ s.coveredSet 220 false ∧ (s.switch? 14).isSome = true) ∧
      faulty.testSwitch none 14 (some 2) = some .faulty ∧
      ({ bench with sbc := [{ sp4t 14 2 with claims := [claimOf 1 2, claimOf 3 2, claimOf 4 2, claimOf 5 2] }] } : State).testSwitch
        (some 210) 14 (some 2) = some .full ∧
      ({ bench with sbc := [{ sp4t 14 2 with claims := [{ claimOf 210 2 with
        successor := some { tag := tag88, position := some 2 } }] }] } : State).testSwitch (some 210) 14 (some 2) = some .held := by
  decide +kernel

/-- Switch 14 with 5/44's pending claim at position 3. -/
def claimed (w : Switch) : State :=
  { bench with sbc := [{ w with claims := [{ holder := .pending tag44, position := some 3, successor := none }] }] }

theorem test_witness_ClaimRequestsKeepLaw :
    let s := bench.dropRouteClaims 330
    let trim : State := { bench with sbc := [{ sp4t 14 2 with
      claims := [{ holder := .pending tag44, position := none, successor := none }] }] }
    (s.switchLawful ∧ s.claimsLawful ∧ (∀ w ∈ s.sbc, ∀ c ∈ w.claims, tag44 ∉ c.tags) ∧
        ((s.coveredSet 220 false).map Prod.fst).Nodup ∧ (s.claimCheck tag44 220 (some 210) false).1 = none) ∧
      (trim.claimsLawful ∧ (∃ w ∈ trim.switch? 14, ∃ c ∈ w.claims, tag44 ∈ c.tags) ∧
        (∀ w ∈ trim.sbc, ∀ c ∈ w.claims, c.position = none ∧ c.successor = none)) ∧
      ((claimed (sp4t 14 3)).claimsLawful ∧ (∃ w ∈ (claimed (sp4t 14 3)).sbc, ∃ c ∈ w.claims, c.holder = .pending tag44) ∧
        (∀ w ∈ (claimed (sp4t 14 3)).sbc, ∀ c ∈ w.claims, c.holder ≠ .established 220)) ∧ bench.claimsLawful :=
  ⟨⟨by decide +kernel, by decide +kernel, by decide +kernel, by decide +kernel, by decide +kernel⟩,
    ⟨by decide +kernel, by decide +kernel, by decide +kernel⟩, ⟨by decide +kernel, by decide +kernel, by decide +kernel⟩,
    by decide +kernel⟩

theorem test_witness_DriveAnswersByState :
    (∀ w ∈ [sp4t 14 2, sp4t 14 3, moving true 2, { sp4t 14 2 with state := .fault, faultReason := some .sense }],
      ∃ v ∈ (claimed w).switch? 14, ∃ c ∈ v.claims, c.holder = .pending tag44 ∧ c.position = some 3) ∧
      (∃ v ∈ (claimed { sp4t 14 2 with state := .fault }).members 14, v.state = .fault) ∧
      (∀ v ∈ (claimed (sp4t 14 3)).members 14, v.state = .still ∧ v.current = some 3) ∧
      (∀ v ∈ (claimed (moving true 2)).members 14, v.state = .moving ∧ v.commanded = some 3) ∧
      (∃ v ∈ (claimed (sp4t 14 2)).members 14, v.state ≠ .fault ∧ ¬(v.state = .still ∧ v.current = some 3) ∧
        ¬(v.state = .moving ∧ v.commanded = some 3)) := by decide +kernel

theorem test_witness_TrimWithinHalfStep :
    0 < 25 ∧ 99 < 100 ∧ (4599 ≤ 6000 ∧ (2 * (6000 - 4599) + 25) / (2 * 25) ≤ 255) ∧
      (0 ≤ 25000 ∧ 255 < (2 * (25000 - 0) + 25) / (2 * 25)) ∧ (trimFor 6000 4599 25 255).flag = .none := by decide +kernel

theorem test_witness_TableLossInterpolates :
    let t := pts [(3300, 412), (3800, 466)]
    (t.map CalPoint.frequency).Pairwise (· < ·) ∧ 3300 ≤ 3300 ∧ 3800 ≤ 3800 ∧ (3300 < 3500 ∧ 3500 < 3800) := by decide +kernel

theorem test_witness_ReleaseHonouredOrStray :
    bench.route? 999 = none ∧ bench.route? 330 = some (heldRoute 330 2) ∧
      ((heldRoute 330 2).state = .established ∧ (heldRoute 330 2).holder = some 5) ∧
      ¬(((heldRoute 330 2).state = .established ∧ (heldRoute 330 2).holder = some 3) ∨
        ((heldRoute 330 2).state = .orphaned ∧ true = true)) := by decide +kernel

theorem test_witness_ProposeHeardOpensOrCounts :
    let p := proposeOf 88
    let twice := { p with participants := [3, 3, 5] }
    let own := slotA bench { slotOf .sending (jobOf 30 .exchange 210 (some 220)) (some { tag44 with seq := 88 }) with sent := true }
    (bench.me ∉ [3, 7] ∧ 3 ≠ bench.me) ∧ bench.me ∈ p.participants ∧ ¬twice.participants.Nodup ∧ p.participants.Nodup ∧
      (p.trimNode = none ∧ p.target = none) ∧ (∀ c ∈ bench.cxe.contexts, c.tag ≠ tag88) ∧
      6 ≤ ({ bench with cxe := { bench.cxe with reservations := List.replicate 6 .a } } : State).cxe.reservations.length ∧
      bench.cxe.contexts.length + bench.cxe.reservations.length < 6 ∧ 5 = own.me ∧ own.spu.slotA.state = .sending ∧
      own.spu.slotA.sent = true ∧ own.spu.slotA.cancel = .none ∧
      ((own.withCancel .a .waiting).slot .a).cancel = .waiting ∧ ((own.withCancel .a .waiting).slot .a).tag = some { tag44 with seq := 88 } ∧
      own.cxe.contexts.length + (own.cxe.reservations.filter (fun n => n != .a)).length < 6 := by decide +kernel

/-- A context whose two participants stand at given ranks. -/
def standingAt (phase : Phase) (first second : Rank) : Context :=
  { contextOf tag88 phase none with
    standing := [{ node := 3, rank := first, accept := some 1, settled := none }, { node := 5, rank := second, accept := some 1, settled := none }] }

theorem test_witness_StageEntriesMoveContexts :
    let heard (sender : Nat) (report : Report) (c : Context) : List (Phase × Option CloseReason) :=
      ((withContext bench c).takeEntry sender { tag := tag88, make := 220, report := report }).cxe.contexts.map
        (fun x => (x.phase, x.close.map CloseRecord.reason))
    heard 3 (.accept 9) (standingAt .answer .none .accept) = [(.cold, none)] ∧
      heard 3 (.accept 9) (standingAt .answer .none .none) = [(.answer, none)] ∧
      heard 3 .quiet (standingAt .answer .none .quiet) = [(.move, none)] ∧
      heard 3 (.settled .none false 9) (standingAt .move .quiet .settled) = [(.done, some .ok)] ∧
      heard 3 (.object .held) (standingAt .cold .accept .accept) = [(.failed, some .objected)] ∧
      heard 5 (.fail .sense) (standingAt .move .quiet .quiet) = [(.failed, some .sense)] ∧
      heard 3 .withdraw (standingAt .cold .accept .accept) = [(.failed, some .withdrawn)] ∧
      heard 7 (.object .held) (standingAt .cold .accept .accept) = [(.cold, none)] ∧
      (let s := withContext bench (standingAt .cold .accept .accept)
       s.cxe.lawful ∧ (s.participantFreed 3 []).cxe.contexts.map (fun x => x.close.map CloseRecord.reason) = [some .noAnswer]) := by
  decide +kernel

theorem test_witness_EntryToColdOpensWindow :
    let trimmer : State := { bench with
      sbc := [{ sp4t 14 2 with plan := { (sp4t 14 2).plan with kind := .stepatt, step := 25, maxCode := 255 } }]
      rtb := { bench.rtb with routes := [{ (routePlan 220 3).record with
        plan := { routePlan 220 3 with trimNode := some 5, trimAttenuator := some 14 } }] } }
    let c := { standingAt .answer .accept .accept with report := some (.accept 0) }
    let cTrim := { c with trimNode := some 5, target := some 6000 }
    let missing := { cTrim with standing := [{ node := 3, rank := .accept, accept := none, settled := none }] }
    (withContext bench { c with role := .sponsorOnly }).context? tag88 = some { c with role := .sponsorOnly } ∧
      ((withContext bench c).context? tag88 = some c ∧ c.role ≠ .sponsorOnly ∧ bench.rfg.entry? tag88 = none ∧
        bench.rfg.inputHot 1 = true ∧ bench.rfg.inputHot 3 = false ∧ c.report = some (.accept 0)) ∧
      ((withContext trimmer cTrim).enterCold cTrim).cxe.contexts.map (fun x => x.trim.map TrimOutcome.code) = [some 240] ∧
      ((withContext trimmer missing).enterCold missing).cxe.contexts.map Context.report = [some (.fail .noAnswer)] := by
  decide +kernel

theorem test_witness_EntryToMoveCommits :
    let c := { contextOf tag88 .cold (some .quiet) with role := .breakOnly }
    let own := { contextOf tag44 .cold (some .quiet) with brk := none }
    let s := withContext (claimed (sp4t 14 2)) own
    ((withContext bench c).context? c.tag = some c ∧ c.role ≠ .participant ∧ c.report = some .quiet ∧ c.waitSet = [] ∧
      c.brk = some 210 ∧ (withContext bench c).route? 210 = some (heldRoute 210 2) ∧ (heldRoute 210 2).state ≠ .idle) ∧
      (s.context? own.tag = some own ∧ own.role = .participant ∧ own.report = some .quiet ∧ s.driveList own = [(14, 3)] ∧
        (∃ r ∈ s.route? own.make, (r.plan.settings.map Setting.switch).Nodup) ∧
        (State.driveAll tag44 [(14, 3)] s).1 = [(14, .driven false)]) := by decide +kernel

theorem test_witness_EntryToDoneEstablishes :
    let c := contextOf tag88 .move (some .quiet)
    let s := withContext { bench with rfg := bench.rfg.openGuard tag88 [2, 5] [1, 3] false } c
    let own := { contextOf tag44 .move (some .quiet) with
      standing := [{ node := 3, rank := .settled, accept := some 434, settled := some { flag := .short, hot := true, achieved := 500 } }] }
    let t := withContext (slotA bench (slotOf .opened (jobOf 30 .exchange 210 (some 220)) (some tag44))) own
    (s.context? c.tag = some c ∧ s.route? c.make = some (routePlan 220 3).record ∧
        (routePlan 220 3).record.plan.ready = some 0 ∧ (s.rfg.entry? c.tag).isSome = true ∧ c.tag.sponsor ≠ s.me) ∧
      (t.context? own.tag = some own ∧ own.tag.sponsor = t.me ∧ own.trimNode = none ∧ (∀ x ∈ own.standing, x.accept ≠ none) ∧
        (∃ x ∈ own.standing, ∃ r, x.settled = some r ∧ r.hot = true) ∧
        (t.slot .a).state = .opened ∧ (t.slot .a).tag = some own.tag ∧ (t.slot .a).job = some (jobOf 30 .exchange 210 (some 220)) ∧
        (∃ x, ({ own with trimNode := some 3 } : Context).standing.find? (fun y => y.node == 3) = some x ∧
          x.settled = some { flag := .short, hot := true, achieved := 500 })) :=
  ⟨by decide +kernel, rfl, by decide +kernel, rfl, by decide +kernel, ⟨_, List.mem_singleton.mpr rfl, _, rfl, rfl⟩, rfl, rfl, rfl,
    _, rfl, rfl⟩

theorem test_witness_ClosesAndOutcomesTakeDown :
    let right : SettleReport := { outcome := .right, switches := [14], waiters := [tag88] }
    let moving := { contextOf tag88 .move (some .quiet) with waitSet := [14], driven := [14] }
    let kept := { moving with phase := .failed, linger := 0, close := some (.at .sense (some 3)) }
    let guarded (c : Context) : State := withContext { bench with rfg := bench.rfg.openGuard tag88 [2, 5] [1, 3] false } c
    ((guarded moving).context? tag88 = some moving ∧ moving.phase = .move ∧ moving.driven ≠ []) ∧
      (let own := { contextOf tag44 .cold (some .quiet) with withdrawal := .sent }
       let s := withContext (slotA bench (slotOf .opened (jobOf 30 .exchange 210 (some 220)) (some tag44))) own
       s.context? own.tag = some own ∧ own.phase = .cold ∧ own.tag.sponsor = s.me ∧ (s.slot .a).state = .opened ∧
         (s.slot .a).tag = some own.tag) ∧
      bench.context? tag88 = none ∧
      ((guarded moving).tellOutcome right tag88).cxe.contexts.map Context.report = [some (.settled .none false 0)] ∧
      ((guarded moving).tellOutcome { right with outcome := .skew } tag88).cxe.contexts.map Context.report = [some (.fail .skew)] ∧
      ((guarded kept).tellOutcome right tag88).cxe.contexts = [] ∧ ((guarded kept).tellOutcome right tag88).rfg.guards = [] ∧
      ((guarded { kept with linger := 2 }).tellOutcome right tag88).cxe.contexts.map Context.driven = [[]] := by decide +kernel

theorem test_witness_NoticesAndFirings :
    bench.ctp.notices.length ≤ 15 ∧ (List.replicate 15 (orphanNotice 1 none)).length = 15 := by decide +kernel

theorem test_witness_laws : Memory.wf bench.mem = true ∧ bench.rfg.lawful ∧ bench.cxe.lawful ∧ bench.switchLawful ∧
    bench.routesLawful ∧ bench.claimsLawful ∧ bench.guardFollows ∧
    bench.routeLawful ∧ bench.loadLawful ∧ bench.sponsorLawful ∧ bench.flagsLawful ∧ bench.countsLawful ∧ (outcomeState (step bench)).isSome = true :=
  ⟨by decide +kernel, by decide +kernel, by decide +kernel, by decide +kernel, by decide +kernel, by decide +kernel,
    by decide +kernel, by decide +kernel⟩

theorem test_witness_GuardEntriesFollowContexts :
    let s := withContext { bench with rfg := bench.rfg.openGuard tag88 [2, 5] [1, 3] false } (contextOf tag88 .cold (some (.accept 0)))
    s.cxe.lawful ∧ s.rfg.lawful ∧ s.guardFollows ∧ s.rfg.guards ≠ [] ∧
      (outcomeState (step (s.queued [.frameEnd []]))).isSome = true := by decide +kernel

/-- 5/44 in MOVE with its pending claim on switch 14, its make route 220 marked busy. -/
def movingClaim : State :=
  { withContext (claimed (sp4t 14 3)) { contextOf tag44 .move (some .quiet) with brk := none } with
    rtb := { routes := [{ (routePlan 220 3).record with busy := some tag44 }], stray := 0 } }

theorem test_witness_ClaimLawKept :
    movingClaim.loadLawful ∧ movingClaim.switchLawful ∧ movingClaim.routesLawful ∧ movingClaim.cxe.lawful ∧
      movingClaim.routeLawful ∧ movingClaim.claimsFollow ∧
      (outcomeState (step (movingClaim.queued [.takeNotice 1]))).isSome = true := by
  refine ⟨by decide +kernel, by decide +kernel, by decide +kernel, by decide +kernel, by decide +kernel,
    ⟨by decide +kernel, by decide +kernel, by decide +kernel, ?_, ?_⟩, by decide +kernel⟩
  · intro w hw c hc route h
    cases List.mem_singleton.mp hw
    cases List.mem_singleton.mp hc
    cases h
  · intro w hw c hc tag ht
    cases List.mem_singleton.mp hw
    cases List.mem_singleton.mp hc
    cases List.mem_singleton.mp ht
    exact ⟨_, List.mem_singleton.mpr rfl, rfl, rfl, ⟨_, rfl, rfl, by decide, fun h => by cases h⟩, (fun _ h => by cases h),
      fun _ => by decide +kernel⟩

theorem test_witness_LatchedStatesHold :
    let dup := bus bench .duplicate
    (bus { bench with pld := { bench.pld with load := .fault } } .planFault).loadLawful ∧ dup.loadLawful ∧
      dup.biu.busState = .duplicate ∧
      (∀ c ∈ [Instr.takeNotice 1, .frameReceived (Request.frame { id := 7, body := .takeNotice }) [], .responseSendComplete []],
        (outcomeState (step ((holding dup { id := 4, body := .takeNotice }).queued [c]))).isSome = true) ∧
      Request.ofFrame (Request.frame { id := 7, body := .takeNotice }) = some { id := 7, body := .takeNotice } := by decide +kernel

theorem test_witness_SlotRecordRoundTrip :
    ({ sender := 3, draining := false, entries := [{ tag := tag88, make := 220, report := .accept 434 }],
       message := some (.propose (proposeOf 88)) } : SlotRecord).inCodes = true := by decide +kernel

theorem test_witness_RequestFrameRoundTrip : 300 < 65536 ∧ (RequestBody.make 620 (some 6000) none).fits = true := by
  decide +kernel

end Sys2Proof.Tests
end

section
/-! SUPPORT. Claims: what each request of the Changeover Engine to the bank leaves of a switch's claim entries, and that each
keeps the claim law (R4 to R12). -/

namespace Sys2Proof.Machine

/-! ### One update for each of several switches -/

/-- The update that a list of keyed updates gives one switch: that of the first key equal to its index. -/
def Switch.updateBy {α : Type} (key : α → Nat) (f : α → Switch → Switch) (l : List α) (w : Switch) : Switch :=
  match l.find? (fun a => key a == w.plan.index) with
  | some a => f a w
  | none => w

theorem Switch.updateBy_of_notMem {α : Type} {key : α → Nat} {f : α → Switch → Switch} {l : List α} {w : Switch}
    (h : w.plan.index ∉ l.map key) : w.updateBy key f l = w := by
  have : l.find? (fun a => key a == w.plan.index) = none := by
    rw [List.find?_eq_none]
    intro a ha he
    exact h (List.mem_map.mpr ⟨a, ha, by simpa using he⟩)
  simp [Switch.updateBy, this]

theorem Switch.updateBy_of_mem {α : Type} {key : α → Nat} {f : α → Switch → Switch} {l : List α} {w : Switch} {a : α}
    (hn : (l.map key).Nodup) (ha : a ∈ l) (hk : key a = w.plan.index) : w.updateBy key f l = f a w := by
  have : l.find? (fun a => key a == w.plan.index) = some a := by
    induction l with
    | nil => cases ha
    | cons b l ih =>
      rw [List.map_cons, List.nodup_cons] at hn
      rcases List.mem_cons.mp ha with rfl | ha
      · simp [hk]
      · have hb : key b ≠ w.plan.index := fun e => hn.1 (List.mem_map.mpr ⟨a, ha, by rw [hk, e]⟩)
        rw [List.find?_cons_of_neg (by simpa using hb)]
        exact ih hn.2 ha
  simp [Switch.updateBy, this]

/-- Updates at different indices, one after another, are one update of the bank. -/
theorem State.foldl_onSwitch {α : Type} (key : α → Nat) (f : α → Switch → Switch)
    (hf : ∀ a w, (f a w).plan.index = w.plan.index) :
    ∀ (l : List α) (s : State), (l.map key).Nodup →
      l.foldl (fun s a => s.onSwitch (key a) (f a)) s = s.onSwitches (Switch.updateBy key f l)
  | [], s, _ => by
    have : (Switch.updateBy key f [] : Switch → Switch) = id := rfl
    simp [State.onSwitches, this]
  | a :: l, s, hn => by
    rw [List.map_cons, List.nodup_cons] at hn
    rw [List.foldl_cons, State.foldl_onSwitch key f hf l _ hn.2]
    simp only [State.onSwitches, State.onSwitch, List.map_map]
    congr 1
    apply List.map_congr_left
    intro w _
    by_cases hw : w.plan.index = key a
    · have h : (f a w).plan.index ∉ l.map key := by rw [hf, hw]; exact hn.1
      have e := Switch.updateBy_of_notMem (f := f) h
      simp only [Function.comp_apply, hw, if_true, e]
      simp [Switch.updateBy, hw]
    · have h : ¬key a = w.plan.index := fun e => hw e.symm
      simp [hw, Switch.updateBy, h]

/-! ### The test of a switch -/

/-- What the test of R6 leaves of a switch that passes it, its FAULT states aside: with a position given, every entry but the
break route's and every successor names it; with none, every entry is the break route's; a place is free; and the break route's
entry carries no successor yet (R8). -/
structure Switch.Accepts (w : Switch) (brk : Option Nat) (want : Option Nat) : Prop where
  entries : ∀ p, want = some p → ∀ c ∈ w.claims, c.excluded brk = false → c.position = some p
  successors : ∀ p, want = some p → ∀ c ∈ w.claims, ∀ u ∈ c.successor, u.position = some p
  onlyBreak : want = none → ∀ c ∈ w.claims, c.excluded brk = true
  room : (w.claims.filter (fun c => !c.excluded brk)).length < Config.claimsFull
  free : ∀ c ∈ w.claims, c.excluded brk = true → c.successor = none

theorem Claim.excluded_iff (brk : Option Nat) (c : Claim) :
    c.excluded brk = true ↔ ∃ b, brk = some b ∧ c.holder = .established b := by
  cases brk <;> simp [Claim.excluded]

/-- Some position named on a switch differs from `p`. -/
theorem Switch.namedPositions_any (w : Switch) (brk : Option Nat) (p : Nat) :
    (w.namedPositions brk).any (fun q => q != some p) = true ↔
      ∃ c ∈ w.claims, (c.excluded brk = false ∧ c.position ≠ some p) ∨ ∃ u ∈ c.successor, u.position ≠ some p := by
  simp only [Switch.namedPositions, List.any_append, Bool.or_eq_true, List.any_eq_true, List.mem_map, List.mem_filter,
    List.mem_filterMap, bne_iff_ne, Bool.not_eq_true', Option.mem_def]
  constructor
  · rintro (⟨_, ⟨c, ⟨hc, he⟩, rfl⟩, hp⟩ | ⟨_, ⟨u, ⟨c, hc, hu⟩, rfl⟩, hp⟩)
    · exact ⟨c, hc, .inl ⟨he, hp⟩⟩
    · exact ⟨c, hc, .inr ⟨u, hu, hp⟩⟩
  · rintro ⟨c, hc, ⟨he, hp⟩ | ⟨u, hu, hp⟩⟩
    · exact .inl ⟨_, ⟨c, ⟨hc, he⟩, rfl⟩, hp⟩
    · exact .inr ⟨_, ⟨u, ⟨c, hc, hu⟩, rfl⟩, hp⟩

/-- A switch in FAULT, or whose partner is (R6 step 1). -/
def State.faultyAt (s : State) (w : Switch) : Prop :=
  w.state = .fault ∨ ∃ p x, w.plan.partner = some p ∧ s.switch? p = some x ∧ x.state = .fault

/-- Another position named on a switch, or, with no position given, an entry that is not the break route's (R6 step 2). -/
def Switch.heldFor (w : Switch) (brk : Option Nat) (want : Option Nat) : Prop :=
  (∃ p, want = some p ∧ ∃ c ∈ w.claims,
      (c.excluded brk = false ∧ c.position ≠ some p) ∨ ∃ u ∈ c.successor, u.position ≠ some p) ∨
    (want = none ∧ ∃ c ∈ w.claims, c.excluded brk = false)

theorem State.inFault_iff (s : State) (i : Nat) : s.inFault i = true ↔ ∃ x, s.switch? i = some x ∧ x.state = .fault := by
  unfold State.inFault
  cases s.switch? i <;> simp

open Classical in
/-- The steps of the test of one switch in their order (R6, R8). -/
theorem State.testSwitch_eq {s : State} {i : Nat} {w : Switch} (h : s.switch? i = some w) (brk want : Option Nat) :
    s.testSwitch brk i want =
      if s.faultyAt w then some .faulty
      else if w.heldFor brk want then some .held
      else if Config.claimsFull ≤ (w.claims.filter (fun c => !c.excluded brk)).length then some .full
      else if ∃ c ∈ w.claims, c.excluded brk = true ∧ c.successor ≠ none then some .held
      else none := by
  have hf : (w.state == .fault || (match w.plan.partner with
      | some p => s.inFault p
      | none => false)) = true ↔ s.faultyAt w := by
    unfold State.faultyAt
    cases w.plan.partner <;> simp [State.inFault_iff]
  have hh : (match want with
      | some p => (w.namedPositions brk).any (fun q => q != some p)
      | none => !(w.claims.filter (fun c => !c.excluded brk)).isEmpty) = true ↔ w.heldFor brk want := by
    unfold Switch.heldFor
    cases want with
    | none => simp [List.filter_eq_nil_iff]
    | some p => simp only [Switch.namedPositions_any]; simp
  have ht : w.claims.any (fun c => c.excluded brk && c.successor.isSome) = true ↔
      ∃ c ∈ w.claims, c.excluded brk = true ∧ c.successor ≠ none := by
    simp [Option.isSome_iff_ne_none]
  unfold State.testSwitch
  simp only [h]
  simp only [← hf, ← hh, ← ht] <;> rfl

/-- A switch that passes the test is not in FAULT and accepts the claim. -/
theorem State.testSwitch_none {s : State} {i : Nat} {w : Switch} {brk want : Option Nat} (h : s.switch? i = some w)
    (ht : s.testSwitch brk i want = none) : w.state ≠ .fault ∧ w.Accepts brk want := by
  rw [State.testSwitch_eq h] at ht
  split at ht <;> [cases ht; rename_i hf]
  split at ht <;> [cases ht; rename_i hh]
  split at ht <;> [cases ht; rename_i hr]
  split at ht <;> [cases ht; rename_i hs]
  refine ⟨fun e => hf (.inl e), ?_, ?_, ?_, Nat.lt_of_not_le hr, ?_⟩
  · intro p hp c hc he
    by_contra hn
    exact hh (.inl ⟨p, hp, c, hc, .inl ⟨he, hn⟩⟩)
  · intro p hp c hc u hu
    by_contra hn
    exact hh (.inl ⟨p, hp, c, hc, .inr ⟨u, hu, hn⟩⟩)
  · intro hw c hc
    by_contra hn
    exact hh (.inr ⟨hw, c, hc, by simpa using hn⟩)
  · intro c hc he
    by_contra hn
    exact hs ⟨c, hc, he, hn⟩

end Sys2Proof.Machine
end

section
/-! SUPPORT. One switch under the requests on claims, each keeping the law of R4 (R8 to R12). -/

namespace Sys2Proof.Machine

/-! ### The claim law of one switch -/

theorem Claim.mem_tags {c : Claim} {g : Tag} :
    g ∈ c.tags ↔ c.holder = .pending g ∨ ∃ u ∈ c.successor, u.tag = g := by
  unfold Claim.tags
  rcases c with ⟨holder, position, successor⟩
  cases holder <;> cases successor <;> simp [eq_comm]

theorem Claim.mem_route? {c : Claim} {r : Nat} : r ∈ c.route? ↔ c.holder = .established r := by
  unfold Claim.route?
  cases c.holder <;> simp

/-- Two claim entries name no tag both and no route both (R4). -/
def Claim.Apart (c d : Claim) : Prop :=
  (∀ g ∈ c.tags, g ∉ d.tags) ∧ ∀ r, c.holder = .established r → d.holder ≠ .established r

/-- Two or more entries all at one position, their successors included (R4). -/
def agreeing (claims : List Claim) : Prop :=
  2 ≤ claims.length → ∀ c ∈ claims, ∀ d ∈ claims,
    c.position ≠ none ∧ d.position = c.position ∧ ∀ u ∈ d.successor, u.position = c.position

/-- The claim law of a switch, entry by entry. -/
theorem Switch.claimsLawful_iff (w : Switch) : w.claimsLawful ↔
    w.claims.length ≤ Config.claimsFull ∧ agreeing w.claims ∧ (∀ c ∈ w.claims, c.tags.Nodup) ∧
      w.claims.Pairwise Claim.Apart := by
  have hr : (w.claims.filterMap Claim.route?).Nodup ↔
      w.claims.Pairwise (fun c d => ∀ r, c.holder = .established r → d.holder ≠ .established r) := by
    rw [List.Nodup, List.pairwise_filterMap]
    refine List.Pairwise.iff fun c d => ?_
    simp only [← Option.mem_def, Claim.mem_route?]
    exact ⟨fun h r hc hd => h r hc r hd rfl, fun h r hc q hd e => h r hc (e ▸ hd)⟩
  have ht : (w.claims.flatMap Claim.tags).Nodup ↔
      (∀ c ∈ w.claims, c.tags.Nodup) ∧ w.claims.Pairwise (fun c d => ∀ g ∈ c.tags, g ∉ d.tags) := by
    rw [List.nodup_flatMap]; rfl
  have ha : w.claims.Pairwise Claim.Apart ↔ w.claims.Pairwise (fun c d => ∀ g ∈ c.tags, g ∉ d.tags) ∧
      w.claims.Pairwise (fun c d => ∀ r, c.holder = .established r → d.holder ≠ .established r) := List.pairwise_and_iff
  unfold Switch.claimsLawful
  rw [hr, ht, ha, agreeing]
  tauto

/-- Entries that come each from one entry that stood, at its position or its successor's, with no new successor, tag or route,
keep the claim law. -/
theorem Switch.claimsLawful_of_filterMap {v w : Switch} (f : Claim → Option Claim) (hv : v.claims = w.claims.filterMap f)
    (hpos : ∀ c d, f c = some d → d.position = c.position ∨ ∃ u ∈ c.successor, d.position = u.position)
    (hsuc : ∀ c d, f c = some d → ∀ u ∈ d.successor, u ∈ c.successor)
    (htags : ∀ c d, f c = some d → d.tags.Sublist c.tags)
    (hroute : ∀ c d, f c = some d → ∀ r, d.holder = .established r → c.holder = .established r)
    (h : w.claimsLawful) : v.claimsLawful := by
  rw [Switch.claimsLawful_iff] at h ⊢
  obtain ⟨hlen, hsame, hnodup, hapart⟩ := h
  have hl : v.claims.length ≤ w.claims.length := by rw [hv]; exact List.length_filterMap_le _ _
  rw [hv] at hl ⊢
  refine ⟨hl.trans hlen, fun h2 d hd e he => ?_, fun d hd => ?_, ?_⟩
  · have hw := hsame (h2.trans hl)
    have stays : ∀ c ∈ w.claims, ∀ d, f c = some d → d.position = c.position := by
      intro c hc d hd
      rcases hpos c d hd with e | ⟨u, hu, e⟩
      · exact e
      · rw [e]; exact (hw c hc c hc).2.2 u hu
    obtain ⟨c, hc, hcd⟩ := List.mem_filterMap.mp hd
    obtain ⟨b, hb, hbe⟩ := List.mem_filterMap.mp he
    obtain ⟨hne, hsm, hsu⟩ := hw c hc b hb
    rw [stays c hc d hcd, stays b hb e hbe]
    exact ⟨hne, hsm, fun u hu => hsu u (hsuc b e hbe u hu)⟩
  · obtain ⟨c, hc, hcd⟩ := List.mem_filterMap.mp hd
    exact (hnodup c hc).sublist (htags c d hcd)
  · rw [List.pairwise_filterMap]
    refine hapart.imp fun {a b} hab c hc d hd => ⟨fun g hg hg' => ?_, fun r hr hr' => ?_⟩
    · exact hab.1 g ((htags a c hc).subset hg) ((htags b d hd).subset hg')
    · exact hab.2 r (hroute a c hc r hr) (hroute b d hd r hr')

/-- Entries changed one by one keep the claim law where the positions still agree and no tag or route comes in twice. -/
theorem Switch.claimsLawful_of_map {v w : Switch} (f : Claim → Claim) (hv : v.claims = w.claims.map f)
    (hpos : agreeing w.claims → agreeing (w.claims.map f)) (htags : ∀ c ∈ w.claims, c.tags.Nodup → (f c).tags.Nodup)
    (hapart : ∀ c ∈ w.claims, ∀ d ∈ w.claims, c.Apart d → (f c).Apart (f d)) (h : w.claimsLawful) : v.claimsLawful := by
  rw [Switch.claimsLawful_iff] at h ⊢
  obtain ⟨hlen, hsame, hnodup, hp⟩ := h
  rw [hv]
  refine ⟨by rw [List.length_map]; exact hlen, hpos hsame, fun d hd => ?_, ?_⟩
  · obtain ⟨c, hc, rfl⟩ := List.mem_map.mp hd
    exact htags c hc (hnodup c hc)
  · rw [List.pairwise_map]
    exact hp.imp_of_mem fun hc hd hcd => hapart _ hc _ hd hcd

/-- The tags of an entry are those of its holder and its successor. -/
theorem Claim.tags_congr {c d : Claim} (hh : d.holder = c.holder)
    (hs : d.successor.map Successor.tag = c.successor.map Successor.tag) : d.tags = c.tags := by
  unfold Claim.tags; rw [hh, hs]

theorem Claim.Apart.congr {a b c d : Claim} (h : a.Apart b) (hc : c.tags = a.tags) (hd : d.tags = b.tags)
    (hca : c.holder = a.holder) (hdb : d.holder = b.holder) : c.Apart d := by
  unfold Claim.Apart
  rw [hc, hd, hca, hdb]; exact h

/-! #### Dropping a tag's claims (R11) -/

/-- What dropping a tag's claims leaves of one entry (R11). -/
def Claim.withoutTag (g : Tag) (c : Claim) : Option Claim :=
  if c.holder = .pending g then none
  else some (match c.successor with
    | some u => if u.tag = g then { c with successor := none } else c
    | none => c)

theorem Switch.dropTag_claims (g : Tag) (w : Switch) : (w.dropTag g).claims = w.claims.filterMap (Claim.withoutTag g) := by
  unfold Switch.dropTag
  dsimp only
  induction w.claims with
  | nil => rfl
  | cons c l ih =>
    by_cases h : c.holder = .pending g
    · simp [h, Claim.withoutTag, ih]
    · simp only [Claim.withoutTag, h, List.filterMap_cons, if_false]
      rw [List.filter_cons_of_pos (by simpa using h), List.map_cons, ih] <;> rfl

/-- An entry left when a tag's claims are dropped is the entry that stood, less a successor of the tag. -/
theorem Claim.withoutTag_spec {g : Tag} {c d : Claim} (h : c.withoutTag g = some d) :
    c.holder ≠ .pending g ∧ d.holder = c.holder ∧ d.position = c.position ∧
      ∀ u, u ∈ d.successor ↔ u ∈ c.successor ∧ u.tag ≠ g := by
  unfold Claim.withoutTag at h
  split at h
  · cases h
  · rename_i hn
    obtain rfl := Option.some.inj h
    refine ⟨hn, ?_⟩
    split
    · rename_i u hu
      split
      · rename_i ht; simp [hu, ht]
      · rename_i ht
        refine ⟨rfl, rfl, fun v => ⟨fun hv => ⟨hv, ?_⟩, fun hv => hv.1⟩⟩
        rw [hu] at hv; obtain rfl := Option.some.inj hv; exact ht
    · rename_i hu; simp [hu]

theorem Switch.dropTag_claimsLawful (g : Tag) {w : Switch} (h : w.claimsLawful) : (w.dropTag g).claimsLawful := by
  refine Switch.claimsLawful_of_filterMap _ (w.dropTag_claims g) ?_ ?_ ?_ ?_ h <;> intro c d hd <;>
    obtain ⟨_, hh, hp, hs⟩ := Claim.withoutTag_spec hd
  · exact .inl hp
  · exact fun u hu => ((hs u).mp hu).1
  · unfold Claim.tags
    rw [hh]
    refine (List.Sublist.refl _).append ?_
    cases he : d.successor with
    | none => simp
    | some u => rw [Option.mem_def.mp ((hs u).mp he).1]
  · exact fun r hr => hh ▸ hr

/-! #### Dropping a route's claims (R12) -/

/-- What dropping a route's claims leaves of one entry (R12). -/
def Claim.withoutRoute (r : Nat) (c : Claim) : Option Claim :=
  if c.holder = .established r then
    match c.successor with
    | some u => some { holder := .pending u.tag, position := u.position, successor := none }
    | none => none
  else some c

theorem Switch.dropRoute_claims (r : Nat) (w : Switch) :
    (w.dropRoute r).claims = w.claims.filterMap (Claim.withoutRoute r) := rfl

/-- An entry left when a route's claims are dropped is an entry of another holder, or the pending claim of a successor of the
route's (R12). -/
theorem Claim.withoutRoute_spec {r : Nat} {c d : Claim} (h : c.withoutRoute r = some d) :
    (c.holder ≠ .established r ∧ d = c) ∨
      (c.holder = .established r ∧ ∃ u ∈ c.successor, d = { holder := .pending u.tag, position := u.position, successor := none }) := by
  unfold Claim.withoutRoute at h
  split at h
  · split at h
    · obtain rfl := Option.some.inj h
      exact .inr ⟨‹_›, _, ‹_›, rfl⟩
    · cases h
  · obtain rfl := Option.some.inj h
    exact .inl ⟨‹_›, rfl⟩

theorem Switch.dropRoute_claimsLawful (r : Nat) {w : Switch} (h : w.claimsLawful) : (w.dropRoute r).claimsLawful := by
  refine Switch.claimsLawful_of_filterMap _ (w.dropRoute_claims r) ?_ ?_ ?_ ?_ h <;> intro c d hd <;>
    rcases Claim.withoutRoute_spec hd with ⟨_, rfl⟩ | ⟨hh, u, hu, rfl⟩
  · exact .inl rfl
  · exact .inr ⟨u, hu, rfl⟩
  · exact fun u hu => hu
  · exact fun u hu => by cases hu
  · exact .refl _
  · simp [Claim.tags, hh, Option.mem_def.mp hu]
  · exact fun x hx => hx
  · exact fun x hx => by cases hx

/-! #### Fixing a trim position (R9) -/

/-- One entry with the tag's claim in it given a position (R9). -/
def Claim.fixed (g : Tag) (code : Nat) (c : Claim) : Claim :=
  { c with
    position := if c.holder = .pending g then some code else c.position
    successor := c.successor.map (fun u => if u.tag = g then { u with position := some code } else u) }

theorem Switch.fixPosition_claims (g : Tag) (code : Nat) (w : Switch) :
    (w.fixPosition g code).claims = w.claims.map (Claim.fixed g code) := by
  unfold Switch.fixPosition Claim.fixed
  refine List.map_congr_left fun c _ => ?_
  split <;> rfl

@[simp] theorem Claim.fixed_holder (g : Tag) (code : Nat) (c : Claim) : (c.fixed g code).holder = c.holder := rfl

@[simp] theorem Claim.fixed_tags (g : Tag) (code : Nat) (c : Claim) : (c.fixed g code).tags = c.tags := by
  refine Claim.tags_congr rfl ?_
  unfold Claim.fixed
  cases c.successor with
  | none => rfl
  | some u => simp only [Option.map_some]; split <;> rfl

/-- A claim that names no position of the tag's is left as it is. -/
theorem Claim.fixed_of_notMem {g : Tag} {c : Claim} (h : g ∉ c.tags) (code : Nat) : c.fixed g code = c := by
  rw [Claim.mem_tags, not_or] at h
  obtain ⟨hh, hs⟩ := h
  have e : c.successor.map (fun u => if u.tag = g then { u with position := some code } else u) = c.successor := by
    cases hc : c.successor with
    | none => rfl
    | some u => simp only [Option.map_some]; rw [if_neg (fun e => hs ⟨u, hc, e⟩)]
  unfold Claim.fixed
  rw [if_neg hh, e]

/-- A trim position fixed where it was absent keeps the claim law (R9): the tag's entry then stands alone. -/
theorem Switch.fixPosition_claimsLawful (g : Tag) (code : Nat) {w : Switch} (h : w.claimsLawful)
    (habsent : ∀ c ∈ w.claims, (c.holder = .pending g → c.position = none) ∧ ∀ u ∈ c.successor, u.tag = g → u.position = none) :
    (w.fixPosition g code).claimsLawful := by
  refine Switch.claimsLawful_of_map _ (w.fixPosition_claims g code) (fun hs => ?_) (fun c _ hn => by simpa using hn)
    (fun c _ d _ hcd => hcd.congr (by simp) (by simp) rfl rfl) h
  by_cases h2 : 2 ≤ w.claims.length
  · have hpos := hs h2
    have same : ∀ c ∈ w.claims, c.fixed g code = c := by
      intro c hc
      refine Claim.fixed_of_notMem (fun hg => ?_) code
      obtain ⟨hne, _, hsu⟩ := hpos c hc c hc
      rcases Claim.mem_tags.mp hg with hh | ⟨u, hu, ht⟩
      · exact hne ((habsent c hc).1 hh)
      · exact hne ((hsu u hu).symm.trans ((habsent c hc).2 u hu ht))
    rw [List.map_congr_left same, List.map_id']
    exact hs
  · intro hl
    rw [List.length_map] at hl
    exact absurd hl h2

/-! #### Conversion (R10) -/

/-- One entry after the conversion of a tag's claims on a switch that stands at `now` (R10). -/
def Claim.converted (g : Tag) (r : Nat) (now : Option Nat) (c : Claim) : Claim :=
  if c.holder = .pending g then
    { c with holder := .established r, position := if c.position = none then now else c.position }
  else c

theorem Switch.convert_claims (g : Tag) (r : Nat) (w : Switch) :
    (w.convert g r).claims = w.claims.map (Claim.converted g r w.current) := by
  unfold Switch.convert Claim.converted
  refine List.map_congr_left fun c _ => ?_
  split
  · cases c.position <;> rfl
  · rfl

@[simp] theorem Claim.converted_successor (g : Tag) (r : Nat) (now : Option Nat) (c : Claim) :
    (c.converted g r now).successor = c.successor := by
  unfold Claim.converted; split <;> rfl

/-- A conversion takes the tag's entry, and no more, out of the tags. -/
theorem Claim.converted_tags_sublist (g : Tag) (r : Nat) (now : Option Nat) (c : Claim) :
    (c.converted g r now).tags.Sublist c.tags := by
  unfold Claim.converted; split
  · exact List.sublist_append_right _ _
  · exact .refl _

theorem Claim.converted_established {g : Tag} {r q : Nat} {now : Option Nat} {c : Claim} :
    (c.converted g r now).holder = .established q ↔ (c.holder = .pending g ∧ q = r) ∨ c.holder = .established q := by
  unfold Claim.converted; split <;> rename_i h
  · simp [h, eq_comm]
  · simp [h]

theorem Claim.converted_pending {g x : Tag} {r : Nat} {now : Option Nat} {c : Claim} :
    (c.converted g r now).holder = .pending x ↔ c.holder = .pending x ∧ x ≠ g := by
  unfold Claim.converted; split <;> rename_i h
  · simp [h, eq_comm]
  · refine ⟨fun e => ⟨e, fun hx => h (hx ▸ e)⟩, fun e => e.1⟩

theorem Claim.converted_position_some {g : Tag} {r : Nat} {now : Option Nat} {c : Claim} (h : c.position ≠ none) :
    (c.converted g r now).position = c.position := by
  by_cases hg : c.holder = .pending g <;> simp [Claim.converted, hg, h]

/-- Conversion keeps the claim law where the route claims none of the tag's switches (R10). -/
theorem Switch.convert_claimsLawful (g : Tag) (r : Nat) {w : Switch} (h : w.claimsLawful)
    (hfree : (∃ c ∈ w.claims, c.holder = .pending g) → ∀ c ∈ w.claims, c.holder ≠ .established r) :
    (w.convert g r).claimsLawful := by
  refine Switch.claimsLawful_of_map _ (w.convert_claims g r) (fun hs h2 => ?_)
    (fun c _ hn => hn.sublist (c.converted_tags_sublist g r _)) (fun c hc d hd hcd => ⟨fun t ht ht' => ?_, fun q hq hq' => ?_⟩) h
  · rw [List.length_map] at h2
    rintro _ hc' _ hd'
    obtain ⟨c, hc, rfl⟩ := List.mem_map.mp hc'
    obtain ⟨d, hd, rfl⟩ := List.mem_map.mp hd'
    obtain ⟨hne, hsm, hsu⟩ := hs h2 c hc d hd
    rw [Claim.converted_position_some hne, Claim.converted_position_some (hsm ▸ hne), Claim.converted_successor]
    exact ⟨hne, hsm, hsu⟩
  · exact hcd.1 t ((c.converted_tags_sublist g r _).subset ht) ((d.converted_tags_sublist g r _).subset ht')
  · rcases Claim.converted_established.mp hq with ⟨hc', rfl⟩ | hc' <;> rcases Claim.converted_established.mp hq' with ⟨hd', e⟩ | hd'
    · exact hcd.1 g (Claim.mem_tags.mpr (.inl hc')) (Claim.mem_tags.mpr (.inl hd'))
    · exact hfree ⟨c, hc, hc'⟩ d hd hd'
    · exact hfree ⟨d, hd, hd'⟩ c hc (e ▸ hc')
    · exact hcd.2 q hc' hd'

/-! #### A grant (R8) -/

/-- One entry after a grant to a tag: the break route's takes the tag as its successor (R8). -/
def Claim.succeeded (g : Tag) (brk want : Option Nat) (c : Claim) : Claim :=
  if c.excluded brk then { c with successor := some { tag := g, position := want } } else c

/-- The claims a grant leaves: a successor on the break route's entry where it stands, else a new entry last (R8). -/
theorem Switch.grant_claims (g : Tag) (brk want : Option Nat) (w : Switch) :
    (w.grant g brk want).claims =
      if w.claims.any (Claim.excluded brk) then w.claims.map (Claim.succeeded g brk want)
      else w.claims ++ [{ holder := .pending g, position := want, successor := none }] := by
  unfold Switch.grant; split <;> rfl

@[simp] theorem Claim.succeeded_holder (g : Tag) (brk want : Option Nat) (c : Claim) :
    (c.succeeded g brk want).holder = c.holder := by
  unfold Claim.succeeded; split <;> rfl
@[simp] theorem Claim.succeeded_position (g : Tag) (brk want : Option Nat) (c : Claim) :
    (c.succeeded g brk want).position = c.position := by
  unfold Claim.succeeded; split <;> rfl

/-- A successor after a grant is one that stood, or the tag's on the break route's entry. -/
theorem Claim.mem_succeeded_successor {g : Tag} {brk want : Option Nat} {c : Claim} {u : Successor}
    (h : u ∈ (c.succeeded g brk want).successor) :
    u ∈ c.successor ∨ (c.excluded brk = true ∧ u = { tag := g, position := want }) := by
  unfold Claim.succeeded at h
  split at h
  · exact .inr ⟨‹_›, (Option.some.inj h).symm⟩
  · exact .inl h

theorem Claim.mem_succeeded_tags {g t : Tag} {brk want : Option Nat} {c : Claim} (h : t ∈ (c.succeeded g brk want).tags) :
    t ∈ c.tags ∨ (c.excluded brk = true ∧ t = g) := by
  rcases Claim.mem_tags.mp h with hh | ⟨u, hu, rfl⟩
  · rw [Claim.succeeded_holder] at hh
    exact .inl (Claim.mem_tags.mpr (.inl hh))
  · rcases Claim.mem_succeeded_successor hu with hu | ⟨he, rfl⟩
    · exact .inl (Claim.mem_tags.mpr (.inr ⟨u, hu, rfl⟩))
    · exact .inr ⟨he, rfl⟩

/-- Two entries of the break route are not apart. -/
theorem Claim.Apart.not_both_excluded {c d : Claim} (h : c.Apart d) {brk : Option Nat} (hc : c.excluded brk = true)
    (hd : d.excluded brk = true) : False := by
  obtain ⟨b, hb, hcb⟩ := (Claim.excluded_iff brk c).mp hc
  obtain ⟨b', hb', hdb⟩ := (Claim.excluded_iff brk d).mp hd
  obtain rfl := Option.some.inj (hb.symm.trans hb')
  exact h.2 b hcb hdb

/-- Of two entries on a lawful switch one is not the break route's. -/
theorem Switch.claimsLawful.exists_not_excluded {w : Switch} (h : w.claimsLawful) (h2 : 2 ≤ w.claims.length) (brk : Option Nat) :
    ∃ c ∈ w.claims, c.excluded brk = false := by
  obtain ⟨_, _, _, hp⟩ := (w.claimsLawful_iff).mp h
  by_contra hno
  push Not at hno
  match w.claims, h2, hp, hno with
  | a :: b :: l, _, hp, hno =>
    exact (List.rel_of_pairwise_cons hp (List.mem_cons_self ..)).not_both_excluded (brk := brk)
      (by simpa using hno a (by simp)) (by simpa using hno b (by simp))

/-- On a switch that accepts a claim beside an entry that is not the break route's, that entry gives the claim's position. -/
theorem Switch.Accepts.position_eq {w : Switch} {brk want : Option Nat} (ha : w.Accepts brk want) {c : Claim} (hc : c ∈ w.claims)
    (he : c.excluded brk = false) : c.position = want := by
  cases want with
  | none => simp [ha.onlyBreak rfl c hc] at he
  | some p => exact ha.entries p rfl c hc he

/-- A grant to a tag that holds no claim on a switch that accepts it keeps the claim law (R8). -/
theorem Switch.grant_claimsLawful (g : Tag) {brk want : Option Nat} {w : Switch} (h : w.claimsLawful)
    (hnew : ∀ c ∈ w.claims, g ∉ c.tags) (ha : w.Accepts brk want) : (w.grant g brk want).claimsLawful := by
  have hg := w.grant_claims g brk want
  split at hg
  case isTrue hany =>
    refine Switch.claimsLawful_of_map _ hg (fun hs h2 => ?_) (fun c hc hn => ?_) (fun c hc d hd hcd => ⟨fun t ht ht' => ?_, ?_⟩) h
    · rw [List.length_map] at h2
      obtain ⟨o, ho, hoe⟩ := h.exists_not_excluded h2 brk
      rintro _ hc' _ hd'
      obtain ⟨c, hc, rfl⟩ := List.mem_map.mp hc'
      obtain ⟨d, hd, rfl⟩ := List.mem_map.mp hd'
      obtain ⟨hne, hsm, hsu⟩ := hs h2 c hc d hd
      rw [Claim.succeeded_position, Claim.succeeded_position]
      refine ⟨hne, hsm, fun u hu => ?_⟩
      rcases Claim.mem_succeeded_successor hu with hu | ⟨_, rfl⟩
      · exact hsu u hu
      · exact (ha.position_eq ho hoe).symm.trans (hs h2 c hc o ho).2.1
    · by_cases he : c.excluded brk = true
      · obtain ⟨b, _, hb⟩ := (Claim.excluded_iff brk c).mp he
        simp [Claim.succeeded, he, Claim.tags, hb]
      · rw [Claim.succeeded, if_neg he]; exact hn
    · rcases Claim.mem_succeeded_tags ht with hct | ⟨hce, rfl⟩ <;> rcases Claim.mem_succeeded_tags ht' with hdt | ⟨hde, e⟩
      · exact hcd.1 t hct hdt
      · exact hnew c hc (e ▸ hct)
      · exact hnew d hd hdt
      · exact hcd.not_both_excluded hce hde
    · simpa using hcd.2
  case isFalse hany =>
    have hno : ∀ c ∈ w.claims, c.excluded brk = false := by simpa using hany
    rw [Switch.claimsLawful_iff] at h ⊢
    obtain ⟨hlen, hsame, hnodup, hp⟩ := h
    rw [hg]
    refine ⟨?_, ?_, ?_, ?_⟩
    · have hr := ha.room
      rw [List.filter_eq_self.mpr (by simpa using hno)] at hr
      rw [List.length_append]; exact hr
    · intro h2
      rw [List.length_append] at h2
      have hpos : ∀ c ∈ w.claims, c.position = want := fun c hc => ha.position_eq hc (hno c hc)
      have hwant : ∃ p, want = some p := by
        cases want with
        | some p => exact ⟨p, rfl⟩
        | none =>
          have : w.claims = [] := List.eq_nil_iff_forall_not_mem.mpr fun c hc => by
            simpa [ha.onlyBreak rfl c hc] using hno c hc
          simp [this] at h2
      obtain ⟨p, rfl⟩ := hwant
      have all : ∀ c ∈ w.claims ++ [{ holder := .pending g, position := some p, successor := none }],
          c.position = some p ∧ ∀ u ∈ c.successor, u.position = some p := by
        intro c hc
        rcases List.mem_append.mp hc with hc | hc
        · exact ⟨hpos c hc, ha.successors p rfl c hc⟩
        · obtain rfl := List.mem_singleton.mp hc
          exact ⟨rfl, fun u hu => by cases hu⟩
      intro c hc d hd
      rw [(all c hc).1, (all d hd).1]
      exact ⟨Option.some_ne_none p, rfl, (all d hd).2⟩
    · intro c hc
      rcases List.mem_append.mp hc with hc | hc
      · exact hnodup c hc
      · obtain rfl := List.mem_singleton.mp hc
        simp [Claim.tags]
    · refine List.pairwise_append.mpr ⟨hp, List.pairwise_singleton _ _, fun c hc d hd => ?_⟩
      obtain rfl := List.mem_singleton.mp hd
      refine ⟨fun t ht ht' => ?_, fun r _ e => by cases e⟩
      obtain rfl : t = g := by simpa [Claim.tags] using ht'
      exact hnew c hc ht

end Sys2Proof.Machine
end

section
/-! SUPPORT. The requests of the Changeover Engine to the bank (R7 to R12), switch by switch, and the law of R4 under each. -/

namespace Sys2Proof.Machine

@[simp] theorem Switch.grant_plan (g : Tag) (b p : Option Nat) (w : Switch) : (w.grant g b p).plan = w.plan :=
  Switch.plan_of_bare (w.grant_bare g b p)
@[simp] theorem Switch.fixPosition_plan (g : Tag) (c : Nat) (w : Switch) : (w.fixPosition g c).plan = w.plan := rfl
@[simp] theorem Switch.convert_plan (g : Tag) (r : Nat) (w : Switch) : (w.convert g r).plan = w.plan := rfl
@[simp] theorem Switch.dropTag_plan (g : Tag) (w : Switch) : (w.dropTag g).plan = w.plan := rfl
@[simp] theorem Switch.dropRoute_plan (r : Nat) (w : Switch) : (w.dropRoute r).plan = w.plan := rfl

/-- With one record for each index, a switch of the bank is the one found at its index. -/
theorem State.switch_of_mem {s : State} (h : s.switchLawful) {w : Switch} (hw : w ∈ s.sbc) : s.switch? w.plan.index = some w := by
  unfold State.switch?
  have hl : ∀ l : List Switch, (l.map (fun w => w.plan.index)).Nodup → w ∈ l →
      l.find? (fun v => v.plan.index == w.plan.index) = some w := by
    intro l
    induction l with
    | nil => intro _ hw; cases hw
    | cons v l ih =>
      intro hn hw
      rw [List.map_cons, List.nodup_cons] at hn
      rcases List.mem_cons.mp hw with rfl | hw
      · simp
      · have hv : v.plan.index ≠ w.plan.index := fun e => hn.1 (List.mem_map.mpr ⟨w, hw, e.symm⟩)
        rw [List.find?_cons_of_neg (by simpa using hv)]
        exact ih hn.2 hw
  exact hl s.sbc h hw

/-! ### The claim check (R7) -/

/-- The grants of a claim check on one switch (R7): that of the covered place at its index. -/
def Switch.grantBy (g : Tag) (brk : Option Nat) (covered : List (Nat × Option Nat)) : Switch → Switch :=
  Switch.updateBy Prod.fst (fun q => Switch.grant g brk q.2) covered

/-- A claim check in which some switch fails: the first failing one's reason, and nothing recorded (R7). -/
theorem State.claimCheck_fails {s : State} {g : Tag} {make : Nat} {brk : Option Nat} {trimHere : Bool} {why : ObjectReason}
    (h : (s.coveredSet make trimHere).findSome? (fun q => s.testSwitch brk q.1 q.2) = some why) :
    s.claimCheck g make brk trimHere = (some why, s) := by
  unfold State.claimCheck; dsimp only; rw [h]

/-- A claim check that every covered switch passes: every grant, each on its own switch (R7). -/
theorem State.claimCheck_passes {s : State} {g : Tag} {make : Nat} {brk : Option Nat} {trimHere : Bool}
    (h : ∀ q ∈ s.coveredSet make trimHere, s.testSwitch brk q.1 q.2 = none)
    (hn : ((s.coveredSet make trimHere).map Prod.fst).Nodup) :
    s.claimCheck g make brk trimHere = (none, s.onSwitches (Switch.grantBy g brk (s.coveredSet make trimHere))) := by
  have hf : (s.coveredSet make trimHere).findSome? (fun q => s.testSwitch brk q.1 q.2) = none := by
    rw [List.findSome?_eq_none_iff]; exact h
  unfold State.claimCheck; dsimp only; rw [hf]
  dsimp only
  rw [State.foldl_onSwitch Prod.fst (fun q => Switch.grant g brk q.2) (fun q w => by simp) _ s hn]
  rfl

/-- Everything a claim check can do (R7): one reason and nothing recorded, or every switch tested and every grant made. -/
theorem State.claimCheck_cases (s : State) (g : Tag) (make : Nat) (brk : Option Nat) (trimHere : Bool)
    (hn : ((s.coveredSet make trimHere).map Prod.fst).Nodup) :
    (∃ why, s.claimCheck g make brk trimHere = (some why, s)) ∨
      ((∀ q ∈ s.coveredSet make trimHere, s.testSwitch brk q.1 q.2 = none) ∧
        s.claimCheck g make brk trimHere = (none, s.onSwitches (Switch.grantBy g brk (s.coveredSet make trimHere)))) := by
  cases hf : (s.coveredSet make trimHere).findSome? (fun q => s.testSwitch brk q.1 q.2) with
  | some why => exact .inl ⟨why, State.claimCheck_fails hf⟩
  | none =>
    have h := List.findSome?_eq_none_iff.mp hf
    exact .inr ⟨h, State.claimCheck_passes h hn⟩

/-- The grants leave a switch as it is, or give it the claim of the one covered place at its index, which it accepts. -/
theorem Switch.grantBy_cases {s : State} {brk : Option Nat} {covered : List (Nat × Option Nat)} (hs : s.switchLawful)
    (hn : (covered.map Prod.fst).Nodup) (ht : ∀ q ∈ covered, s.testSwitch brk q.1 q.2 = none) (g : Tag) {w : Switch}
    (hw : w ∈ s.sbc) :
    (w.grantBy g brk covered = w) ∨
      ∃ want, (w.plan.index, want) ∈ covered ∧ w.Accepts brk want ∧ w.grantBy g brk covered = w.grant g brk want := by
  by_cases hc : w.plan.index ∈ covered.map Prod.fst
  · obtain ⟨⟨i, want⟩, hq, hi⟩ := List.mem_map.mp hc
    obtain rfl : i = w.plan.index := hi
    exact .inr ⟨want, hq, (State.testSwitch_none (State.switch_of_mem hs hw) (ht _ hq)).2,
      Switch.updateBy_of_mem hn hq rfl⟩
  · exact .inl (Switch.updateBy_of_notMem hc)

/-- A claim check of a tag that holds no claim keeps the claim law (R4, R7). -/
theorem State.claimCheck_claimsLawful {s : State} {g : Tag} {make : Nat} {brk : Option Nat} {trimHere : Bool}
    (hs : s.switchLawful) (hl : s.claimsLawful) (hnew : ∀ w ∈ s.sbc, ∀ c ∈ w.claims, g ∉ c.tags)
    (hn : ((s.coveredSet make trimHere).map Prod.fst).Nodup) : (s.claimCheck g make brk trimHere).2.claimsLawful := by
  rcases s.claimCheck_cases g make brk trimHere hn with ⟨why, h⟩ | ⟨ht, h⟩ <;> rw [h]
  · exact hl
  · intro v hv
    obtain ⟨w, hw, rfl⟩ := List.mem_map.mp hv
    rcases Switch.grantBy_cases hs hn ht g hw with e | ⟨want, _, ha, e⟩ <;> rw [e]
    · exact hl w hw
    · exact Switch.grant_claimsLawful g (hl w hw) (hnew w hw) ha

/-! ### Trim fixing, conversion and drops -/

/-- A tag claims a switch where one of its entries names the tag. -/
theorem Switch.claimedBy_iff_tags (g : Tag) (w : Switch) : w.claimedBy g = true ↔ ∃ c ∈ w.claims, g ∈ c.tags := by
  rw [Switch.claimedBy_iff]
  refine exists_congr fun c => and_congr_right fun _ => ?_
  rw [Claim.mem_tags]
  cases c.successor <;> simp

/-- A trim position fixed where the tag's claims have none keeps the claim law (R4, R9). -/
theorem State.fixTrim_claimsLawful {s : State} {g : Tag} {a : Nat} (code : Nat) (hl : s.claimsLawful)
    (habsent : ∀ w ∈ s.sbc, w.plan.index = a → ∀ c ∈ w.claims, (c.holder = .pending g → c.position = none) ∧
      ∀ u ∈ c.successor, u.tag = g → u.position = none) : (s.fixTrim g a code).2.claimsLawful := by
  rcases s.fixTrim_cases g a code with h | ⟨_, _, _, h⟩ <;> rw [h]
  · exact hl
  · intro v hv
    obtain ⟨w, hw, rfl⟩ := List.mem_map.mp hv
    split
    · exact Switch.fixPosition_claimsLawful g code (hl w hw) (habsent w hw ‹_›)
    · exact hl w hw

/-- A switch after the trim position of a tag's claim on it is fixed (R9). -/
theorem Switch.fixPosition_eq (g : Tag) (code : Nat) (w : Switch) :
    w.fixPosition g code = { w with claims := w.claims.map (Claim.fixed g code) } := by
  rw [← Switch.fixPosition_claims]; rfl

theorem Switch.convert_eq (g : Tag) (r : Nat) (w : Switch) :
    w.convert g r = { w with claims := w.claims.map (Claim.converted g r w.current) } := by
  rw [← Switch.convert_claims]; rfl

theorem State.convertClaims_claimsLawful {s : State} {g : Tag} {r : Nat} (hl : s.claimsLawful)
    (hfree : ∀ w ∈ s.sbc, (∃ c ∈ w.claims, c.holder = .pending g) → ∀ c ∈ w.claims, c.holder ≠ .established r) :
    (s.convertClaims g r).2.claimsLawful := by
  intro v hv
  obtain ⟨w, hw, rfl⟩ := List.mem_map.mp hv
  exact Switch.convert_claimsLawful g r (hl w hw) (hfree w hw)

theorem State.dropTagClaims_claimsLawful {s : State} (g : Tag) (hl : s.claimsLawful) : (s.dropTagClaims g).claimsLawful := by
  intro v hv
  obtain ⟨w, hw, rfl⟩ := List.mem_map.mp hv
  exact Switch.dropTag_claimsLawful g (hl w hw)

theorem State.dropRouteClaims_claimsLawful {s : State} (r : Nat) (hl : s.claimsLawful) : (s.dropRouteClaims r).claimsLawful := by
  intro v hv
  obtain ⟨w, hw, rfl⟩ := List.mem_map.mp hv
  exact Switch.dropRoute_claimsLawful r (hl w hw)

/-- Settles O40: each request of the Changeover Engine to the bank, by its effect on one switch. -/
theorem claimRequestsKeepLaw : Obligations.ClaimRequestsKeepLaw := by
  refine ⟨fun s g make brk trimHere hs hl hnew hn => State.claimCheck_claimsLawful hs hl hnew hn, fun s g a code => ?_,
    fun s g r => ⟨?_, ?_, State.convertClaims_claimsLawful⟩, fun s g => State.dropTagClaims_claimsLawful g,
    fun s r => State.dropRouteClaims_claimsLawful r⟩
  · refine ⟨State.fixTrim_claimsLawful code, fun hno => ?_, fun w hw hc => ?_⟩
    · rcases s.fixTrim_cases g a code with h | ⟨w, hw, hc, _⟩
      · exact h
      · obtain ⟨c, hc, hg⟩ := (w.claimedBy_iff_tags g).mp hc
        exact absurd hg (hno w hw c hc)
    · have hf : s.fixTrim g a code = (.fixed, s.onSwitch a (Switch.fixPosition g code)) := by
        unfold State.fixTrim; simp only [hw]; rw [if_pos ((w.claimedBy_iff_tags g).mpr hc)]
      have hi : ∀ i, (s.onSwitch a (Switch.fixPosition g code)).switch? i = _ := fun i =>
        s.switch_onSwitch a i _ (fun w => by simp)
      rw [hf]
      dsimp only
      refine ⟨rfl, fun i hne => by rw [hi, if_neg hne], rfl, ?_⟩
      rw [hi, if_pos rfl, hw, Option.map_some, Switch.fixPosition_eq]
      rfl
  · rw [List.length_flatMap]
    simp only [State.convertClaims]
    rfl
  · unfold State.convertClaims State.onSwitches
    dsimp only
    congr 1
    exact List.map_congr_left fun w _ => Switch.convert_eq g r w

end Sys2Proof.Machine
end

section
/-! SUPPORT. The claim law across the Switch Bank Controller, the Changeover Engine and the Route Table, and the changes of one
block that keep it (R4, R29, R30). -/

namespace Sys2Proof.Machine

/-! ### The law in named parts -/

/-- The tag's claim in an entry, as holder or as successor, gives no position (R5). -/
def Claim.Unplaced (g : Tag) (c : Claim) : Prop :=
  (c.holder = .pending g → c.position = none) ∧ ∀ u ∈ c.successor, u.tag = g → u.position = none

/-- What a tag's entry rests on, part by part. -/
structure State.Rests (s : State) (w : Switch) (c : Claim) (g : Tag) (x : Context) : Prop where
  tag : x.tag = g
  isOpen : x.isOpen = true
  route : ∃ r, s.route? x.make = some r ∧ r.busy = some g ∧ s.me ∈ r.plan.participants ∧
    (x.phase = .answer → x.trimNode = some s.me → r.plan.trimAttenuator = some w.plan.index → c.Unplaced g)
  successor : ∀ u ∈ c.successor, u.tag = g → x.phase ≠ .move ∧ ∃ b, x.brk = some b ∧ c.holder = .established b
  alone : x.brk ≠ some x.make ∨ x.phase = .move → ∀ d ∈ w.claims, d.holder ≠ .established x.make

theorem State.claimStands_iff (s : State) (w : Switch) (c : Claim) (g : Tag) (x : Context) :
    s.claimStands w c g x ↔ s.Rests w c g x :=
  ⟨fun ⟨h1, h2, h3, h4, h5⟩ => ⟨h1, h2, h3, h4, h5⟩, fun ⟨h1, h2, h3, h4, h5⟩ => ⟨h1, h2, h3, h4, h5⟩⟩

/-- The claim law across the blocks, with the laws it needs of each. -/
structure State.ClaimSafe (s : State) : Prop where
  load : s.loadLawful
  switches : s.switchLawful
  routes : s.routesLawful
  tags : (s.cxe.contexts.map Context.tag).Nodup
  idle : s.routeLawful
  bank : s.claimsLawful
  cover : s.coverLawful
  loading : s.biu.busState = .loading → s.sbc = [] ∧ s.rtb.routes = []
  recorded : ∀ w ∈ s.sbc, ∀ c ∈ w.claims, ∀ r, c.holder = .established r → (s.route? r).isSome = true
  rests : ∀ w ∈ s.sbc, ∀ c ∈ w.claims, ∀ g ∈ c.tags, ∃ x ∈ s.cxe.contexts, s.Rests w c g x

theorem State.ClaimSafe.intro {s : State} (hl : s.loadLawful) (hs : s.switchLawful) (hr : s.routesLawful) (hc : s.cxe.lawful)
    (hi : s.routeLawful) (h : s.claimsFollow) : s.ClaimSafe := by
  obtain ⟨hbank, hcover, hloading, hrec, hrest⟩ := h
  refine ⟨hl, hs, hr, hc.1, hi, hbank, hcover, hloading, hrec, fun w hw c hc g hg => ?_⟩
  obtain ⟨x, hx, hstands⟩ := hrest w hw c hc g hg
  exact ⟨x, hx, (s.claimStands_iff w c g x).mp hstands⟩

theorem State.ClaimSafe.follows {s : State} (h : s.ClaimSafe) : s.claimsFollow := by
  refine ⟨h.bank, h.cover, h.loading, h.recorded, fun w hw c hc g hg => ?_⟩
  obtain ⟨x, hx, hr⟩ := h.rests w hw c hc g hg
  exact ⟨x, hx, (s.claimStands_iff w c g x).mpr hr⟩

/-- No entry of the bank names a tag. -/
def State.Unclaimed (s : State) (g : Tag) : Prop := ∀ w ∈ s.sbc, ∀ c ∈ w.claims, g ∉ c.tags

/-! ### Records found by key -/

/-- With one record for each id, a route record of the table is the one found at its id. -/
theorem State.route_of_mem {s : State} (h : s.routesLawful) {r : Route} (hr : r ∈ s.rtb.routes) :
    s.route? r.plan.id = some r := by
  unfold State.route?
  rw [List.find?_eq_some_iff_append]
  obtain ⟨pre, post, he⟩ := List.append_of_mem hr
  refine ⟨by simp, pre, post, he, fun q hq => ?_⟩
  have hn : (s.rtb.routes.map (fun r => r.plan.id)).Nodup := h
  rw [he, List.map_append, List.map_cons, List.nodup_append] at hn
  simpa using hn.2.2 q.plan.id (List.mem_map.mpr ⟨q, hq, rfl⟩) r.plan.id (by simp)

/-- With one context for each tag, two contexts of one tag are one. -/
theorem context_unique {l : List Context} (h : (l.map Context.tag).Nodup) {x y : Context} (hx : x ∈ l) (hy : y ∈ l)
    (e : x.tag = y.tag) : x = y := List.inj_on_of_nodup_map h hx hy e

/-! ### Changes of the switch bank -/

/-- An entry of a tag rests on what it rested on, after a change of its switch's claims that brings no established claim of its
make route in. -/
theorem State.Rests.of_claims {s : State} {w v : Switch} {c d : Claim} {g : Tag} {x : Context} (h : s.Rests w c g x)
    (hp : v.plan = w.plan)
    (hv : ∀ e ∈ v.claims, e.holder = .established x.make → ∃ a ∈ w.claims, a.holder = .established x.make)
    (hu : x.phase = .answer → c.Unplaced g → d.Unplaced g)
    (hs : ∀ u ∈ d.successor, u.tag = g → d.holder = c.holder ∧ ∃ y ∈ c.successor, y.tag = g) : s.Rests v d g x := by
  obtain ⟨r, hr, hb, hm, ha⟩ := h.route
  refine ⟨h.tag, h.isOpen, ⟨r, hr, hb, hm, fun h1 h2 h3 => hu h1 (ha h1 h2 (hp ▸ h3))⟩, fun u hu ht => ?_, fun hb e he heq => ?_⟩
  · obtain ⟨hh, y, hy, hyt⟩ := hs u hu ht
    rw [hh]; exact h.successor y hy hyt
  · obtain ⟨a, haw, hae⟩ := hv e he heq
    exact h.alone hb a haw hae

/-- A change of the claims alone keeps the law where each switch keeps its own law, established claims have a record that is not
IDLE, and every tag's entry still rests on its context. -/
theorem State.ClaimSafe.onSwitches {s : State} (h : s.ClaimSafe) (f : Switch → Switch) (hplan : ∀ w, (f w).plan = w.plan)
    (hlaw : ∀ w ∈ s.sbc, (f w).claimsLawful)
    (hest : ∀ w ∈ s.sbc, ∀ d ∈ (f w).claims, ∀ r, d.holder = .established r →
      (∃ c ∈ w.claims, c.holder = .established r) ∨ ∃ q, s.route? r = some q ∧ q.state ≠ .idle)
    (hrest : ∀ w ∈ s.sbc, ∀ d ∈ (f w).claims, ∀ g ∈ d.tags, ∃ x ∈ s.cxe.contexts, s.Rests (f w) d g x) :
    (s.onSwitches f).ClaimSafe := by
  have hpart : ∀ i, (s.onSwitches f).partner? i = s.partner? i := by
    intro i
    unfold State.partner?
    rw [s.switch_onSwitches i f (fun w => by rw [hplan])]
    cases s.switch? i with
    | none => rfl
    | some w => simp [hplan]
  have hcov : ∀ i b, (s.onSwitches f).coveredSet i b = s.coveredSet i b := by
    intro i b
    unfold State.coveredSet
    simp only [hpart, State.onSwitches_route]
  refine ⟨h.load, ?_, h.routes, h.tags, ?_, ?_, ?_, ?_, ?_, ?_⟩
  · have := h.switches
    simpa [State.switchLawful, State.onSwitches, Function.comp_def, hplan] using this
  · intro r hr hidle v hv d hd he
    obtain ⟨w, hw, rfl⟩ := List.mem_map.mp hv
    rcases hest w hw d hd _ he with ⟨c, hc, hce⟩ | ⟨q, hq, hne⟩
    · exact h.idle r hr hidle w hw c hc hce
    · rw [State.route_of_mem h.routes hr] at hq
      exact hne (Option.some.inj hq ▸ hidle)
  · intro v hv
    obtain ⟨w, hw, rfl⟩ := List.mem_map.mp hv
    exact hlaw w hw
  · intro r hr
    simp only [hcov]
    exact h.cover r hr
  · intro hb
    obtain ⟨h1, h2⟩ := h.loading hb
    exact ⟨by simp [State.onSwitches, h1], h2⟩
  · intro v hv d hd r he
    obtain ⟨w, hw, rfl⟩ := List.mem_map.mp hv
    rcases hest w hw d hd r he with ⟨c, hc, hce⟩ | ⟨q, hq, _⟩
    · exact h.recorded w hw c hc r hce
    · rw [State.onSwitches_route, hq]; rfl
  · intro v hv d hd g hg
    obtain ⟨w, hw, rfl⟩ := List.mem_map.mp hv
    obtain ⟨x, hx, hr⟩ := hrest w hw d hd g hg
    exact ⟨x, hx, ⟨hr.tag, hr.isOpen, hr.route, hr.successor, hr.alone⟩⟩

/-! ### Changes of the changeover table -/

/-- A change of the contexts alone keeps the law where tags stay apart and every tag's entry still rests on a context. -/
theorem State.ClaimSafe.withContexts {s : State} (h : s.ClaimSafe) (l : List Context) (hn : (l.map Context.tag).Nodup)
    (hrest : ∀ w ∈ s.sbc, ∀ c ∈ w.claims, ∀ g ∈ c.tags, ∀ x ∈ s.cxe.contexts, s.Rests w c g x → ∃ y ∈ l, s.Rests w c g y) :
    ({ s with cxe := { s.cxe with contexts := l } } : State).ClaimSafe := by
  refine ⟨h.load, h.switches, h.routes, hn, h.idle, h.bank, h.cover, h.loading, h.recorded, fun w hw c hc g hg => ?_⟩
  obtain ⟨x, hx, hr⟩ := h.rests w hw c hc g hg
  obtain ⟨y, hy, hry⟩ := hrest w hw c hc g hg x hx hr
  exact ⟨y, hy, ⟨hry.tag, hry.isOpen, hry.route, hry.successor, hry.alone⟩⟩

theorem map_tag_onContext (s : State) (g : Tag) (f : Context → Context) (hf : ∀ x, (f x).tag = x.tag) :
    (s.onContext g f).cxe.contexts.map Context.tag = s.cxe.contexts.map Context.tag := by
  simp only [State.onContext, List.map_map]
  refine List.map_congr_left fun x _ => ?_
  simp only [Function.comp]
  split
  · exact hf x
  · rfl

/-- A change of one tag's context keeps the law where every entry of the tag still rests on it. -/
theorem State.ClaimSafe.onContext {s : State} (h : s.ClaimSafe) (g : Tag) (f : Context → Context) (hf : ∀ x, (f x).tag = x.tag)
    (hrest : ∀ w ∈ s.sbc, ∀ c ∈ w.claims, ∀ x ∈ s.cxe.contexts, g ∈ c.tags → s.Rests w c g x → s.Rests w c g (f x)) :
    (s.onContext g f).ClaimSafe := by
  have hn : ((s.onContext g f).cxe.contexts.map Context.tag).Nodup := by rw [map_tag_onContext s g f hf]; exact h.tags
  refine h.withContexts _ hn ?_
  intro w hw c hc t ht x hx hr
  refine ⟨_, List.mem_map.mpr ⟨x, hx, rfl⟩, ?_⟩
  split
  · rename_i e
    obtain rfl : t = g := hr.tag.symm.trans e
    exact hrest w hw c hc x hx ht hr
  · exact hr

/-- A context whose tag claims nothing may change as it likes. -/
theorem State.ClaimSafe.onContext_unclaimed {s : State} (h : s.ClaimSafe) {g : Tag} (hg : s.Unclaimed g) (f : Context → Context)
    (hf : ∀ x, (f x).tag = x.tag) : (s.onContext g f).ClaimSafe :=
  h.onContext g f hf fun w hw c hc _ _ hgc => absurd hgc (hg w hw c hc)

/-! ### Changes of the route table -/

/-- A change of the route records that keeps their plans keeps the law where a record goes IDLE only with no established claim,
and loses its busy tag only where that tag claims nothing or this node has no part in the route. -/
theorem State.ClaimSafe.onRoutes {s : State} (h : s.ClaimSafe) (f : Route → Route) (hplan : ∀ r, (f r).plan = r.plan)
    (hidle : ∀ r ∈ s.rtb.routes, (f r).state = .idle → r.state = .idle ∨
      ∀ w ∈ s.sbc, ∀ c ∈ w.claims, c.holder ≠ .established r.plan.id)
    (hbusy : ∀ r ∈ s.rtb.routes, ∀ g, r.busy = some g → s.me ∈ r.plan.participants → ¬s.Unclaimed g → (f r).busy = some g) :
    (s.onRoutes f).ClaimSafe := by
  have hroute : ∀ i, (s.onRoutes f).route? i = (s.route? i).map f := fun i => s.route_onRoutes i f (fun r => by rw [hplan])
  have hcov : ∀ i b, (s.onRoutes f).coveredSet i b = s.coveredSet i b := by
    intro i b
    unfold State.coveredSet
    rw [hroute]
    cases s.route? i with
    | none => rfl
    | some r => simp only [Option.map_some, hplan]; rfl
  refine ⟨h.load, h.switches, ?_, h.tags, ?_, h.bank, ?_, ?_, ?_, ?_⟩
  · have := h.routes
    simpa [State.routesLawful, State.onRoutes, Function.comp_def, hplan] using this
  · intro q hq hi w hw c hc
    obtain ⟨r, hr, rfl⟩ := List.mem_map.mp hq
    rw [hplan]
    rcases hidle r hr hi with hi | hno
    · exact h.idle r hr hi w hw c hc
    · exact hno w hw c hc
  · intro q hq
    obtain ⟨r, hr, rfl⟩ := List.mem_map.mp hq
    simp only [hcov, hplan]
    exact h.cover r hr
  · intro hb
    obtain ⟨h1, h2⟩ := h.loading hb
    exact ⟨h1, by simp [State.onRoutes, h2]⟩
  · intro w hw c hc r he
    rw [hroute, Option.isSome_map]
    exact h.recorded w hw c hc r he
  · intro w hw c hc g hg
    obtain ⟨x, hx, hr⟩ := h.rests w hw c hc g hg
    obtain ⟨r, hr1, hr2, hr3, hr4⟩ := hr.route
    refine ⟨x, hx, ⟨hr.tag, hr.isOpen, ⟨f r, ?_, ?_, ?_, ?_⟩, hr.successor, hr.alone⟩⟩
    · rw [hroute, hr1]; rfl
    · exact hbusy r (State.route_spec hr1).1 g hr2 hr3 (fun hno => hno w hw c hc hg)
    · rw [hplan]; exact hr3
    · rw [hplan]; exact hr4

/-- A change of one route's record is a change of every record that leaves the others. -/
theorem State.onRoute_eq (s : State) (i : Nat) (f : Route → Route) :
    s.onRoute i f = s.onRoutes (fun r => if r.plan.id = i then f r else r) := rfl

end Sys2Proof.Machine
end

section
/-! SUPPORT. The part of the node that the claim law speaks of, and the operations that leave it alone. -/

namespace Sys2Proof.Machine

/-! ### The part the claim law speaks of -/

/-- What the claim law reads of a switch. -/
def Switch.claimPart (w : Switch) : SwitchPlan × List Claim := (w.plan, w.claims)
/-- What the claim law reads of a route record. -/
def Route.claimPart (r : Route) : RoutePlan × RouteState × Option Tag := (r.plan, r.state, r.busy)
/-- What the claim law reads of a context. -/
def Context.claimPart (c : Context) : Tag × Phase × Nat × Option Nat × Option Nat := (c.tag, c.phase, c.make, c.brk, c.trimNode)

/-- What the claim law reads of the node. -/
def State.claimPart (s : State) : List (SwitchPlan × List Claim) × List (RoutePlan × RouteState × Option Tag) ×
    List (Tag × Phase × Nat × Option Nat × Option Nat) × Option Nat × Bool × LoadState :=
  (s.sbc.map Switch.claimPart, s.rtb.routes.map Route.claimPart, s.cxe.contexts.map Context.claimPart, s.biu.node,
    s.biu.busState == .loading, s.pld.load)

theorem exists_of_map_eq {α β : Type} {f : α → β} {l l' : List α} (h : l.map f = l'.map f) {a : α} (ha : a ∈ l) :
    ∃ b ∈ l', f b = f a := by
  have : f a ∈ l'.map f := h ▸ List.mem_map.mpr ⟨a, ha, rfl⟩
  simpa using this

/-- Records found by a key that a part of them gives have equal parts where the lists of parts are equal. -/
theorem find_part_eq {α β : Type} (part : α → β) (p : β → Bool) {l l' : List α} (h : l.map part = l'.map part) :
    (l.find? (fun a => p (part a))).map part = (l'.find? (fun a => p (part a))).map part := by
  have := congrArg (List.find? p) h
  rwa [List.find?_map, List.find?_map] at this

/-- An equal part is a part of each field. -/
theorem map_of_map {α β γ : Type} {part : α → β} {l l' : List α} (h : l.map part = l'.map part) (q : β → γ) :
    l.map (fun a => q (part a)) = l'.map (fun a => q (part a)) := by
  have := congrArg (List.map q) h
  simpa [List.map_map, Function.comp_def] using this

/-- The claim law holds of any state that agrees with a lawful one in the part it reads. -/
theorem State.ClaimSafe.congr {s t : State} (h : s.ClaimSafe) (e : t.claimPart = s.claimPart) : t.ClaimSafe := by
  simp only [State.claimPart, Prod.mk.injEq] at e
  obtain ⟨hsbc, hrts, hctx, hnode, hbus, hpld⟩ := e
  have hbus' : t.biu.busState = .loading ↔ s.biu.busState = .loading := by
    rw [← beq_iff_eq, hbus, beq_iff_eq]
  have hme : t.me = s.me := by unfold State.me; rw [hnode]
  have hroute : ∀ i, (t.route? i).map Route.claimPart = (s.route? i).map Route.claimPart := fun i =>
    find_part_eq Route.claimPart (fun q => q.1.id == i) hrts
  have hpartner : ∀ i, t.partner? i = s.partner? i := by
    intro i
    have h1 : ∀ u : State, u.partner? i = ((u.switch? i).map Switch.claimPart).bind (fun q => q.1.partner) := by
      intro u; unfold State.partner?; cases u.switch? i <;> rfl
    rw [h1, h1]
    exact congrArg (fun x => Option.bind x _) (find_part_eq Switch.claimPart (fun q => q.1.index == i) hsbc)
  have hroute' : ∀ i r, s.route? i = some r → ∃ q, t.route? i = some q ∧ q.claimPart = r.claimPart := by
    intro i r hr
    have := hroute i
    rw [hr] at this
    simpa using this
  have hcov : ∀ i b, t.coveredSet i b = s.coveredSet i b := by
    intro i b
    have := hroute i
    unfold State.coveredSet
    simp only [hpartner]
    cases hs : s.route? i with
    | none => rw [hs] at this; simp at this; rw [this]
    | some r =>
      obtain ⟨q, hq, hqr⟩ := hroute' i r hs
      rw [hq]
      simp only [Route.claimPart, Prod.mk.injEq] at hqr
      simp only [hqr.1]
  refine ⟨?_, ?_, ?_, ?_, ?_, ?_, ?_, ?_, ?_, ?_⟩
  · unfold State.loadLawful
    rw [hpld, hbus']; exact h.load
  · have := h.switches
    unfold State.switchLawful at this ⊢
    rwa [show (fun w : Switch => w.plan.index) = (fun w => (Switch.claimPart w).1.index) from rfl,
      map_of_map hsbc (fun q => q.1.index)]
  · have := h.routes
    unfold State.routesLawful at this ⊢
    rwa [show (fun r : Route => r.plan.id) = (fun r => (Route.claimPart r).1.id) from rfl, map_of_map hrts (fun q => q.1.id)]
  · have := h.tags
    rwa [show Context.tag = (fun c => (Context.claimPart c).1) from rfl, map_of_map hctx (fun q => q.1)]
  · intro q hq hi v hv d hd
    obtain ⟨r, hr, hrq⟩ := exists_of_map_eq hrts hq
    obtain ⟨w, hw, hwv⟩ := exists_of_map_eq hsbc hv
    simp only [Route.claimPart, Switch.claimPart, Prod.mk.injEq] at hrq hwv
    rw [← hrq.1]
    exact h.idle r hr (hrq.2.1.trans hi) w hw d (hwv.2 ▸ hd)
  · intro v hv
    obtain ⟨w, hw, hwv⟩ := exists_of_map_eq hsbc hv
    simp only [Switch.claimPart, Prod.mk.injEq] at hwv
    have := h.bank w hw
    unfold Switch.claimsLawful at this ⊢
    rwa [← hwv.2]
  · intro q hq
    obtain ⟨r, hr, hrq⟩ := exists_of_map_eq hrts hq
    simp only [Route.claimPart, Prod.mk.injEq] at hrq
    simp only [hcov, hme, ← hrq.1]
    exact h.cover r hr
  · intro hb
    obtain ⟨h1, h2⟩ := h.loading (hbus'.mp hb)
    rw [h1] at hsbc; rw [h2] at hrts
    exact ⟨List.map_eq_nil_iff.mp hsbc, List.map_eq_nil_iff.mp hrts⟩
  · intro v hv d hd r he
    obtain ⟨w, hw, hwv⟩ := exists_of_map_eq hsbc hv
    simp only [Switch.claimPart, Prod.mk.injEq] at hwv
    have := h.recorded w hw d (hwv.2 ▸ hd) r he
    rw [← Option.isSome_map (f := Route.claimPart)] at this ⊢
    rwa [hroute r]
  · intro v hv d hd g hg
    obtain ⟨w, hw, hwv⟩ := exists_of_map_eq hsbc hv
    simp only [Switch.claimPart, Prod.mk.injEq] at hwv
    obtain ⟨x, hx, hrest⟩ := h.rests w hw d (hwv.2 ▸ hd) g hg
    obtain ⟨y, hy, hxy⟩ := exists_of_map_eq hctx.symm hx
    simp only [Context.claimPart, Prod.mk.injEq] at hxy
    obtain ⟨htag, hphase, hmake, hbrk, htrim⟩ := hxy
    obtain ⟨r, hr1, hr2, hr3, hr4⟩ := hrest.route
    obtain ⟨q, hq, hqr⟩ := hroute' _ r hr1
    simp only [Route.claimPart, Prod.mk.injEq] at hqr
    refine ⟨y, hy, ⟨htag.trans hrest.tag, ?_, ⟨q, ?_, ?_, ?_, ?_⟩, ?_, ?_⟩⟩
    · have := hrest.isOpen; unfold Context.isOpen at this ⊢; rwa [hphase]
    · rw [hmake]; exact hq
    · rw [hqr.2.2]; exact hr2
    · rw [hme, hqr.1]; exact hr3
    · rw [hphase, htrim, hme, hqr.1, ← hwv.1]; exact hr4
    · rw [hphase, hbrk]; exact hrest.successor
    · rw [hphase, hbrk, hmake, ← hwv.2]; exact hrest.alone

/-! ### Updates that leave it alone -/

@[simp] theorem State.place_claimPart (s : State) (name : SlotName) (m : Message) :
    (s.place name m).claimPart = s.claimPart := rfl
@[simp] theorem State.reserve_claimPart (s : State) (name : SlotName) : (s.reserve name).claimPart = s.claimPart := rfl
@[simp] theorem State.unreserve_claimPart (s : State) (name : SlotName) : (s.unreserve name).claimPart = s.claimPart := rfl
@[simp] theorem State.dequeue_claimPart (s : State) (j : Job) : (s.dequeue j).claimPart = s.claimPart := rfl
@[simp] theorem State.fire_claimPart (s : State) (e : EventName) (x : EventSource) : (s.fire e x).claimPart = s.claimPart := rfl
@[simp] theorem State.notice_claimPart (s : State) (n : Notice) : (s.notice n).claimPart = s.claimPart := rfl
@[simp] theorem State.closeGuard_claimPart (s : State) (g : Tag) : (s.closeGuard g).claimPart = s.claimPart := rfl
@[simp] theorem State.complete_claimPart (s : State) : s.complete.claimPart = s.claimPart := rfl
@[simp] theorem State.onPeer_claimPart (s : State) (n : Nat) (f : Peer → Peer) : (s.onPeer n f).claimPart = s.claimPart := rfl
@[simp] theorem State.setSlot_claimPart (s : State) (name : SlotName) (x : SponsorSlot) :
    (s.setSlot name x).claimPart = s.claimPart := by cases name <;> rfl

/-- An update of the bank that leaves plans and claims leaves the part alone. -/
theorem State.onSwitch_claimPart (s : State) (i : Nat) (f : Switch → Switch) (hf : ∀ w, (f w).claimPart = w.claimPart) :
    (s.onSwitch i f).claimPart = s.claimPart := by
  have : (s.onSwitch i f).sbc.map Switch.claimPart = s.sbc.map Switch.claimPart := by
    simp only [State.onSwitch, List.map_map]
    refine List.map_congr_left fun w _ => ?_
    simp only [Function.comp]
    split
    · exact hf w
    · rfl
  unfold State.claimPart
  rw [this]; rfl

/-- An update of a context that leaves its tag, phase, routes and trim node leaves the part alone. -/
theorem State.onContext_claimPart (s : State) (g : Tag) (f : Context → Context) (hf : ∀ x, (f x).claimPart = x.claimPart) :
    (s.onContext g f).claimPart = s.claimPart := by
  have : (s.onContext g f).cxe.contexts.map Context.claimPart = s.cxe.contexts.map Context.claimPart := by
    simp only [State.onContext, List.map_map]
    refine List.map_congr_left fun w _ => ?_
    simp only [Function.comp]
    split
    · exact hf w
    · rfl
  unfold State.claimPart
  rw [this]; rfl

/-! ### The Sponsor Unit -/

@[simp] theorem State.drainTest_claimPart (s : State) : s.drainTest.claimPart = s.claimPart := by
  rcases s.drainTest_cases with ⟨h, hb⟩ | h <;> rw [h]
  simp [State.claimPart, hb]

@[simp] theorem State.placePropose_claimPart (s : State) (name : SlotName) (j : Job) :
    (s.placePropose name j).claimPart = s.claimPart := by cases name <;> rfl
@[simp] theorem State.placeRelease_claimPart (s : State) (name : SlotName) (j : Job) :
    (s.placeRelease name j).claimPart = s.claimPart := by cases name <;> rfl

@[simp] theorem State.takeUpSlot_claimPart (name : SlotName) :
    ∀ (fuel : Nat) (b : Bool) (s : State), (State.takeUpSlot name fuel b s).claimPart = s.claimPart
  | 0, _, _ => rfl
  | fuel + 1, b, s => by
    rcases State.takeUpSlot_cases name fuel b s with h | ⟨j, _, _, ⟨_, _, h⟩ | ⟨_, _, h⟩ | ⟨_, _, _, h⟩ | ⟨_, _, h⟩⟩ <;>
      rw [h] <;> simp [State.takeUpSlot_claimPart name fuel]

@[simp] theorem State.takeUps_claimPart (s : State) : s.takeUps.claimPart = s.claimPart := by
  unfold State.takeUps; dsimp only; split <;> split <;> simp

@[simp] theorem State.retrySlot_claimPart (s : State) (name : SlotName) : (s.retrySlot name).claimPart = s.claimPart := by
  rcases s.retrySlot_cases name with h | ⟨j, _, _, _, _, _, ⟨_, _, h⟩ | ⟨_, _, h⟩⟩ <;> rw [h] <;> simp

@[simp] theorem State.sponsorEvent_claimPart (s : State) : s.sponsorEvent.claimPart = s.claimPart := by
  simp [State.sponsorEvent]
@[simp] theorem State.freeSlot_claimPart (s : State) (name : SlotName) : (s.freeSlot name).claimPart = s.claimPart := by
  simp [State.freeSlot]
@[simp] theorem State.endRequest_claimPart (s : State) (name : SlotName) (n : Notice) :
    (s.endRequest name n).claimPart = s.claimPart := by simp [State.endRequest]

@[simp] theorem State.judgeClose_claimPart (s : State) (name : SlotName) (slot : SponsorSlot) (j : Job) (h : HandOff) :
    (s.judgeClose name slot j h).claimPart = s.claimPart := by
  rcases s.judgeClose_cases name slot j h with ⟨n, _, e⟩ | ⟨_, _, _, e⟩ <;> rw [e] <;> simp

@[simp] theorem State.takeHandOff_claimPart (s : State) (h : HandOff) : (s.takeHandOff h).claimPart = s.claimPart := by
  unfold State.takeHandOff; repeat' split
  all_goals simp
@[simp] theorem State.handOver_claimPart (s : State) (c : Context) (d : Bool) (r : CloseRecord) :
    (s.handOver c d r).claimPart = s.claimPart := by
  unfold State.handOver; split <;> simp
@[simp] theorem State.proposeNotOpened_claimPart (s : State) : s.proposeNotOpened.claimPart = s.claimPart := by
  unfold State.proposeNotOpened; repeat' split
  all_goals simp
@[simp] theorem State.releaseAnswered_claimPart (s : State) (b : Bool) : (s.releaseAnswered b).claimPart = s.claimPart := by
  unfold State.releaseAnswered; repeat' split
  all_goals simp
@[simp] theorem State.endSilent_claimPart (s : State) (name : SlotName) : (s.endSilent name).claimPart = s.claimPart := by
  unfold State.endSilent; split <;> simp

@[simp] theorem State.cxeCancel_claimPart (s : State) (g : Tag) : (s.cxeCancel g).2.claimPart = s.claimPart := by
  have hwithdraw : (s.onContext g Context.withdraw).claimPart = s.claimPart :=
    s.onContext_claimPart g Context.withdraw (fun _ => rfl)
  unfold State.cxeCancel
  split
  · rfl
  · split <;> dsimp only
    all_goals split
    · exact hwithdraw
    · rfl
    · exact hwithdraw
    · rfl

@[simp] theorem State.proposeOpened_claimPart (s : State) : s.proposeOpened.claimPart = s.claimPart := by
  unfold State.proposeOpened; split
  · rfl
  · dsimp only; split <;> simp

@[simp] theorem State.cancelOpen_claimPart (s : State) (name : SlotName) (g : Tag) (j : Job) :
    (s.cancelOpen name g j).2.claimPart = s.claimPart := by
  have h := s.cxeCancel_claimPart g
  unfold State.cancelOpen
  split <;> rename_i heq <;> rw [heq] at h
  · simpa using h
  · exact h
  · split
    · simpa using h
    · exact h

@[simp] theorem State.cancelSlot_claimPart (s : State) (name : SlotName) (j : Job) :
    (s.cancelSlot name j).2.claimPart = s.claimPart := by
  unfold State.cancelSlot
  dsimp only
  split
  iterate 3 rfl
  split
  · simp
  · split
    · simp only [State.endRequest_claimPart, State.unreserve_claimPart]; rfl
    · split
      · simp
      · rfl
  · simp
  · rfl

@[simp] theorem State.cancelRequest_claimPart (s : State) (id : Nat) : (s.cancelRequest id).2.claimPart = s.claimPart := by
  unfold State.cancelRequest; repeat' split
  all_goals simp

@[simp] theorem Context.testWithdrawal_claimPart (c : Context) : c.testWithdrawal.claimPart = c.claimPart := by
  unfold Context.testWithdrawal; split
  · split <;> rfl
  · rfl

@[simp] theorem State.testWithdrawals_claimPart (s : State) : s.testWithdrawals.claimPart = s.claimPart := by
  unfold State.testWithdrawals
  dsimp only
  refine (foldl_keeps _ State.claimPart (by intros; rfl) _ _).trans ?_
  simp [State.claimPart, Function.comp_def]

end Sys2Proof.Machine
end

section
/-! SUPPORT. That the operations of the Switch Bank Controller, the Route Table and the Changeover Engine keep the claim law. -/

namespace Sys2Proof.Machine

/-! ### Drives, settles and reports leave the claim law's part alone -/

@[simp] theorem Switch.driveMember_claimPart (g : Tag) (p : Nat) (h : Bool) (w : Switch) :
    (w.driveMember g p h).claimPart = w.claimPart := by simp [Switch.claimPart]

@[simp] theorem State.fireWorn_claimPart (s : State) (w : Switch) : (s.fireWorn w).claimPart = s.claimPart := by
  unfold State.fireWorn; repeat' split
  all_goals simp
@[simp] theorem State.fireFault_claimPart (s : State) (w : Switch) : (s.fireFault w).claimPart = s.claimPart := by
  unfold State.fireFault; repeat' split
  all_goals simp

@[simp] theorem State.drive_claimPart (s : State) (g : Tag) (b : Bool) (i p : Nat) :
    (s.drive g b i p).2.claimPart = s.claimPart := by
  have hd : ∀ hot, ((s.members i).foldl (fun s w => s.onSwitch w.plan.index (Switch.driveMember g p hot)) s).claimPart =
      s.claimPart := fun hot =>
    foldl_keeps _ State.claimPart (fun u w => u.onSwitch_claimPart _ _ (fun _ => by simp)) _ s
  rcases State.drive_cases s g b i p with e | ⟨_, e, _⟩ | ⟨e, _⟩ | ⟨e, _⟩ | ⟨e, _⟩ <;> rw [e]
  · exact hd false
  · dsimp only
    rw [foldl_keeps _ State.claimPart State.fireWorn_claimPart]
    split <;> simp only [State.fire_claimPart, hd]

@[simp] theorem State.endSettle_claimPart (s : State) (i : Nat) : (s.endSettle i).2.claimPart = s.claimPart := by
  unfold State.endSettle; dsimp only
  rw [foldl_keeps _ State.claimPart State.fireFault_claimPart]
  exact foldl_keeps _ State.claimPart (fun u w => u.onSwitch_claimPart _ _ (fun _ => by simp [Switch.claimPart])) _ s

@[simp] theorem Context.setReport_claimPart (c : Context) (r : Report) : (c.setReport r).claimPart = c.claimPart := by
  unfold Context.setReport; split <;> rfl
@[simp] theorem Context.quietPass_claimPart (c : Context) : c.quietPass.claimPart = c.claimPart := by
  unfold Context.quietPass; split
  · exact c.setReport_claimPart .quiet
  · rfl
@[simp] theorem Context.quietFail_claimPart (c : Context) : c.quietFail.claimPart = c.claimPart := by
  unfold Context.quietFail; split
  · exact c.setReport_claimPart (.fail .hot)
  · rfl
@[simp] theorem Context.trimFail_claimPart (c : Context) : c.trimFail.claimPart = c.claimPart := by
  unfold Context.trimFail; split
  · exact c.setReport_claimPart (.fail .noAnswer)
  · rfl
@[simp] theorem Context.settleReport_claimPart (c : Context) : c.settleReport.claimPart = c.claimPart := by
  unfold Context.settleReport; split <;> simp
@[simp] theorem Context.moveFail_claimPart (c : Context) (r : FailReason) : (c.moveFail r).claimPart = c.claimPart := by
  unfold Context.moveFail; split <;> simp
@[simp] theorem Context.takeDriveAnswer_claimPart (c : Context) (i : Nat) (a : DriveAnswer) :
    (c.takeDriveAnswer i a).claimPart = c.claimPart := by
  cases a <;> simp only [Context.takeDriveAnswer, Context.moveFail_claimPart] <;> rfl
@[simp] theorem Context.takeOutcome_claimPart (c : Context) (l : List Nat) (o : SettleOutcome) :
    (c.takeOutcome l o).claimPart = c.claimPart := by
  cases o <;> simp only [Context.takeOutcome, Context.moveFail_claimPart, Context.settleReport_claimPart] <;> rfl
@[simp] theorem Switch.settleTick_claimPart (w : Switch) : w.settleTick.claimPart = w.claimPart := by
  unfold Switch.settleTick; split <;> rfl

@[simp] theorem State.driveFor_claimPart (g : Tag) (s : State) (q : Nat × Nat) :
    (State.driveFor g s q).claimPart = s.claimPart := by
  unfold State.driveFor
  dsimp only
  rw [State.onContext_claimPart _ _ _ (fun _ => by simp), State.drive_claimPart]

/-! ### Closes (R11, R31) -/

theorem State.dropTagClaims_unclaimed (s : State) (g : Tag) : (s.dropTagClaims g).Unclaimed g := by
  intro v hv c hc hg
  obtain ⟨w, _, rfl⟩ := List.mem_map.mp hv
  obtain ⟨hh, hu⟩ := w.dropTag_none g c hc
  rcases Claim.mem_tags.mp hg with h | ⟨u, hu', ht⟩
  · exact hh h
  · exact hu u hu' ht

theorem State.ClaimSafe.dropTagClaims {s : State} (h : s.ClaimSafe) (g : Tag) : (s.dropTagClaims g).ClaimSafe := by
  have entry : ∀ (w : Switch), ∀ d ∈ (w.dropTag g).claims, ∃ c ∈ w.claims, c.withoutTag g = some d := fun w d hd => by
    rw [Switch.dropTag_claims] at hd; exact List.mem_filterMap.mp hd
  have established : ∀ (w : Switch), ∀ d ∈ (w.dropTag g).claims, ∀ r, d.holder = .established r →
      ∃ c ∈ w.claims, c.holder = .established r := fun w d hd r hr => by
    obtain ⟨c, hc, hcd⟩ := entry w d hd
    exact ⟨c, hc, (Claim.withoutTag_spec hcd).2.1 ▸ hr⟩
  refine h.onSwitches (Switch.dropTag g) (fun _ => rfl) (fun w hw => Switch.dropTag_claimsLawful g (h.bank w hw))
    (fun w _ d hd r hr => .inl (established w d hd r hr)) (fun w hw d hd t ht => ?_)
  obtain ⟨c, hc, hcd⟩ := entry w d hd
  obtain ⟨_, hh, hp, hs⟩ := Claim.withoutTag_spec hcd
  have htc : t ∈ c.tags := by
    rw [Claim.mem_tags] at ht ⊢
    rcases ht with ht | ⟨u, hu, hut⟩
    · exact .inl (hh ▸ ht)
    · exact .inr ⟨u, ((hs u).mp hu).1, hut⟩
  obtain ⟨x, hx, hr⟩ := h.rests w hw c hc t htc
  refine ⟨x, hx, hr.of_claims rfl (fun e he => established w e he _) (fun _ hn => ⟨fun e => ?_, fun u hu => hn.2 u ((hs u).mp hu).1⟩)
    (fun u hu hut => ⟨hh, u, ((hs u).mp hu).1, hut⟩)⟩
  rw [hp]; exact hn.1 (hh ▸ e)

theorem State.ClaimSafe.dropBusy {s : State} (h : s.ClaimSafe) {g : Tag} (hg : s.Unclaimed g) : (s.dropBusy g).ClaimSafe := by
  refine h.onRoutes _ (fun r => by split <;> rfl) (fun r _ hi => .inl ?_) (fun r _ t hb _ ht => ?_)
  · split at hi <;> exact hi
  · have hne : r.busy ≠ some g := by
      rw [hb]; rintro ⟨⟩; exact ht hg
    rw [if_neg hne]; exact hb

/-- A context that closes FAILED leaves the claims of its tag, its busy tags and its phase changed, and no more of what the claim
law reads. -/
theorem State.closeFailed_claimPart (s : State) (c : Context) (r : CloseRecord) :
    (s.closeFailed c r).claimPart =
      (((s.dropTagClaims c.tag).dropBusy c.tag).onContext c.tag (Context.closed .failed r)).claimPart := by
  unfold State.closeFailed
  dsimp only
  rw [State.handOver_claimPart]
  split
  · split <;> rfl
  · split <;> rfl

theorem State.ClaimSafe.closeFailed {s : State} (h : s.ClaimSafe) (c : Context) (r : CloseRecord) : (s.closeFailed c r).ClaimSafe :=
  (((h.dropTagClaims c.tag).dropBusy (s.dropTagClaims_unclaimed c.tag)).onContext_unclaimed
    (s.dropTagClaims_unclaimed c.tag) (Context.closed .failed r) (fun _ => rfl)).congr (s.closeFailed_claimPart c r)

theorem State.ClaimSafe.closeOpen {s : State} (h : s.ClaimSafe) (record : Context → CloseRecord) (g : Tag) :
    (State.closeOpen record s g).ClaimSafe := by
  unfold State.closeOpen
  split
  · split
    · exact h.closeFailed _ _
    · exact h
  · exact h

/-- Contexts that an event names close one after another. -/
theorem State.ClaimSafe.closeAll {s : State} (h : s.ClaimSafe) (record : Context → CloseRecord) (l : List Tag) :
    (l.foldl (State.closeOpen record) s).ClaimSafe :=
  List.foldlRecOn l _ h fun _ hs g _ => hs.closeOpen record g

/-! ### Freeing (R85) -/

theorem State.ClaimSafe.freeContext {s : State} (h : s.ClaimSafe) {c : Context} (hc : s.context? c.tag = some c)
    (hopen : c.isOpen = false) : (s.freeContext c.tag).ClaimSafe := by
  have hcm := (State.context_spec hc).1
  have hkeep := h.withContexts (s.cxe.contexts.filter (fun x => x.tag != c.tag))
    ((List.filter_sublist.map Context.tag).nodup h.tags) (fun w hw d hd g hg x hx hr => by
      refine ⟨x, List.mem_filter.mpr ⟨hx, ?_⟩, hr⟩
      rw [bne_iff_ne]
      intro e
      obtain rfl := context_unique h.tags hx hcm e
      rw [hr.isOpen] at hopen; cases hopen)
  refine hkeep.congr ?_
  unfold State.freeContext
  dsimp only
  rw [State.drainTest_claimPart]
  simp only [State.claimPart, State.onSwitches, List.map_map]
  rfl

theorem State.ClaimSafe.freeIfDone {s : State} (h : s.ClaimSafe) (g : Tag) : (s.freeIfDone g).ClaimSafe := by
  unfold State.freeIfDone
  split
  · rename_i c hc
    split
    · rename_i hd
      obtain rfl : c.tag = g := (State.context_spec hc).2
      simp only [Bool.and_eq_true, Bool.not_eq_true'] at hd
      exact h.freeContext hc hd.1.1
    · exact h
  · exact h

theorem State.ClaimSafe.tellOutcome {s : State} (h : s.ClaimSafe) (report : SettleReport) (g : Tag) :
    (State.tellOutcome report s g).ClaimSafe := by
  unfold State.tellOutcome
  split
  · exact h
  · dsimp only
    refine State.ClaimSafe.freeIfDone ?_ g
    refine h.congr ?_
    split
    · rw [State.closeGuard_claimPart]
      exact s.onContext_claimPart _ _ (fun _ => by simp)
    · exact s.onContext_claimPart _ _ (fun _ => by simp)

theorem State.ClaimSafe.settleEnds {s : State} (h : s.ClaimSafe) (i : Nat) : (s.settleEnds i).ClaimSafe := by
  unfold State.settleEnds
  exact List.foldlRecOn _ _ (h.congr (s.endSettle_claimPart i)) fun _ hs g _ => hs.tellOutcome _ g

/-! ### Taking a route down (R12, R32) -/

theorem State.ClaimSafe.dropRouteClaims {s : State} (h : s.ClaimSafe) (b : Nat) : (s.dropRouteClaims b).ClaimSafe := by
  have entry : ∀ (w : Switch), ∀ d ∈ (w.dropRoute b).claims, ∃ c ∈ w.claims, c.withoutRoute b = some d := fun w d hd =>
    List.mem_filterMap.mp hd
  have established : ∀ (w : Switch), ∀ d ∈ (w.dropRoute b).claims, ∀ r, d.holder = .established r →
      ∃ c ∈ w.claims, c.holder = .established r := fun w d hd r hr => by
    obtain ⟨c, hc, hcd⟩ := entry w d hd
    rcases Claim.withoutRoute_spec hcd with ⟨_, rfl⟩ | ⟨_, u, _, rfl⟩
    · exact ⟨_, hc, hr⟩
    · cases hr
  refine h.onSwitches (Switch.dropRoute b) (fun _ => rfl) (fun w hw => Switch.dropRoute_claimsLawful b (h.bank w hw))
    (fun w _ d hd r hr => .inl (established w d hd r hr)) (fun w hw d hd t ht => ?_)
  obtain ⟨c, hc, hcd⟩ := entry w d hd
  rcases Claim.withoutRoute_spec hcd with ⟨_, rfl⟩ | ⟨_, u, hu, rfl⟩
  · obtain ⟨x, hx, hr⟩ := h.rests w hw _ hc t ht
    exact ⟨x, hx, hr.of_claims rfl (fun e he => established w e he _) (fun _ hn => hn) (fun y hy hyt => ⟨rfl, y, hy, hyt⟩)⟩
  · obtain rfl : t = u.tag := by simpa [Claim.tags] using ht
    obtain ⟨x, hx, hr⟩ := h.rests w hw c hc u.tag (Claim.mem_tags.mpr (.inr ⟨u, hu, rfl⟩))
    exact ⟨x, hx, hr.of_claims rfl (fun e he => established w e he _) (fun _ hn => ⟨fun _ => hn.2 u hu rfl, fun y hy => by cases hy⟩)
      (fun y hy => by cases hy)⟩

theorem State.ClaimSafe.takeDown {s : State} (h : s.ClaimSafe) (b : Nat) : (s.takeDown b).ClaimSafe := by
  refine (h.dropRouteClaims b).onRoutes (fun r => if r.plan.id = b then r.clear else r) (fun r => by split <;> rfl)
    (fun r _ hi => ?_) (fun r _ g hb _ _ => ?_)
  · by_cases hid : r.plan.id = b
    · refine .inr fun v hv c hc => ?_
      obtain ⟨w, _, rfl⟩ := List.mem_map.mp hv
      rw [hid]; exact w.dropRoute_none b c hc
    · rw [if_neg hid] at hi; exact .inl hi
  · split <;> exact hb

theorem State.ClaimSafe.breakDown {s : State} (h : s.ClaimSafe) (b : Nat) : (s.breakDown b).ClaimSafe := by
  unfold State.breakDown; repeat' split
  · exact h
  · exact h.takeDown b
  · exact h

theorem State.ClaimSafe.releaseHeard {s : State} (h : s.ClaimSafe) (n r : Nat) (f : Bool) :
    (s.releaseHeard n r f).2.ClaimSafe := by
  unfold State.releaseHeard; repeat' split
  · exact h
  · exact h.takeDown r
  · exact h.congr rfl

/-! ### Orphaning (R149) -/

theorem State.ClaimSafe.orphanRoutes {s : State} (h : s.ClaimSafe) (absent : List Nat) : (s.orphanRoutes absent).ClaimSafe := by
  refine List.foldlRecOn _ _ h fun u hu r _ => ?_
  have ho := hu.onRoutes (fun q => if q.plan.id = r.plan.id then { q with state := .orphaned } else q) (fun q => by split <;> rfl)
    (fun q _ hi => .inl (by split at hi <;> [cases hi; exact hi])) (fun q _ g hb _ _ => by split <;> exact hb)
  exact ho.congr rfl

end Sys2Proof.Machine
end

section
/-! SUPPORT. That the phases of a context and its opening keep the claim law (R9, R10, R32, R65 to R68, R75, R78, R81). -/

namespace Sys2Proof.Machine

/-! ### Entry to COLD (R75) -/

theorem Claim.unplaced_of_notMem {g : Tag} {c : Claim} (h : g ∉ c.tags) : c.Unplaced g := by
  rw [Claim.mem_tags, not_or] at h
  exact ⟨fun e => absurd e h.1, fun u hu e => absurd ⟨u, hu, e⟩ h.2⟩

/-- An entry rests on its context in COLD as it did before. -/
theorem State.Rests.toCold {s : State} {w : Switch} {c : Claim} {g : Tag} {x y : Context} (h : s.Rests w c g x)
    (ht : y.tag = x.tag) (hp : y.phase = .cold) (hm : y.make = x.make) (hb : y.brk = x.brk) : s.Rests w c g y := by
  obtain ⟨r, hr, hbusy, hpart, _⟩ := h.route
  refine ⟨ht.trans h.tag, by simp [Context.isOpen, hp], ⟨r, hm ▸ hr, hbusy, hpart, fun e => ?_⟩, fun u hu e => ?_, fun e => ?_⟩
  · rw [hp] at e; cases e
  · rw [hp, hb]
    exact ⟨nofun, (h.successor u hu e).2⟩
  · rw [hm]
    refine h.alone (.inl ?_)
    rw [hp, hm, hb] at e
    exact e.resolve_right (fun e => by cases e)

/-- In ANSWER the claims of a tag on its trim attenuator have no position yet (R5). -/
theorem State.ClaimSafe.unplaced_of_answer {s : State} (h : s.ClaimSafe) {c : Context} (hc : s.context? c.tag = some c)
    (hp : c.phase = .answer) (ht : c.trimNode = some s.me) {a : Nat}
    (ha : (s.route? c.make).bind (fun r => r.plan.trimAttenuator) = some a) :
    ∀ w ∈ s.sbc, w.plan.index = a → ∀ e ∈ w.claims, e.Unplaced c.tag := by
  intro w hw hi e he
  by_cases hg : c.tag ∈ e.tags
  · obtain ⟨x, hx, hr⟩ := h.rests w hw e he c.tag hg
    obtain rfl := context_unique h.tags hx (State.context_spec hc).1 hr.tag
    obtain ⟨r, hr1, _, _, hu⟩ := hr.route
    rw [hr1] at ha
    exact hu hp ht (by rw [hi]; exact ha)
  · exact Claim.unplaced_of_notMem hg

theorem State.ClaimSafe.fixTrim {s : State} (h : s.ClaimSafe) {g : Tag} {a : Nat} (code : Nat)
    (habsent : ∀ w ∈ s.sbc, w.plan.index = a → ∀ c ∈ w.claims, c.Unplaced g)
    (hphase : ∀ x ∈ s.cxe.contexts, x.tag = g → x.phase ≠ .answer) : (s.fixTrim g a code).2.ClaimSafe := by
  rcases s.fixTrim_cases g a code with e | ⟨_, _, _, e⟩ <;> rw [e]
  · exact h
  have hclaims : ∀ w : Switch, ∀ d ∈ (if w.plan.index = a then w.fixPosition g code else w).claims,
      ∃ c ∈ w.claims, d = c ∨ d = c.fixed g code := by
    intro w d hd
    split at hd
    · rw [Switch.fixPosition_claims] at hd
      obtain ⟨c, hc, rfl⟩ := List.mem_map.mp hd
      exact ⟨c, hc, .inr rfl⟩
    · exact ⟨d, hd, .inl rfl⟩
  have hest : ∀ w : Switch, ∀ d ∈ (if w.plan.index = a then w.fixPosition g code else w).claims, ∀ r,
      d.holder = .established r → ∃ c ∈ w.claims, c.holder = .established r := by
    intro w d hd r hr
    obtain ⟨c, hc, rfl | rfl⟩ := hclaims w d hd
    · exact ⟨_, hc, hr⟩
    · exact ⟨c, hc, hr⟩
  refine h.onSwitches (fun w => if w.plan.index = a then w.fixPosition g code else w) (fun w => by split <;> rfl)
    (fun w hw => ?_) (fun w _ d hd r hr => .inl (hest w d hd r hr)) (fun w hw d hd t ht => ?_)
  · split
    · exact Switch.fixPosition_claimsLawful g code (h.bank w hw) (habsent w hw ‹_›)
    · exact h.bank w hw
  · have hplan : (if w.plan.index = a then w.fixPosition g code else w).plan = w.plan := by split <;> rfl
    obtain ⟨c, hc, rfl | rfl⟩ := hclaims w d hd
    · obtain ⟨x, hx, hr⟩ := h.rests w hw d hc t ht
      exact ⟨x, hx, hr.of_claims hplan (fun e he => hest w e he _) (fun _ hn => hn) (fun y hy hyt => ⟨rfl, y, hy, hyt⟩)⟩
    · rw [Claim.fixed_tags] at ht
      obtain ⟨x, hx, hr⟩ := h.rests w hw c hc t ht
      refine ⟨x, hx, hr.of_claims hplan (fun e he => hest w e he _) (fun hans hn => ?_) (fun y hy hyt => ⟨rfl, ?_⟩)⟩
      · have hne : t ≠ g := fun e => hphase x hx (hr.tag.trans e) hans
        refine ⟨fun e => ?_, fun u hu hut => ?_⟩
        · rw [Claim.fixed_holder] at e
          unfold Claim.fixed
          rw [if_neg (fun e' => hne (by rw [e] at e'; cases e'; rfl))]
          exact hn.1 e
        · obtain ⟨y, hy, rfl⟩ := Option.mem_map.mp hu
          have hyg : y.tag ≠ g := by
            intro e; rw [if_pos e] at hut; exact hne (hut.symm.trans e)
          rw [if_neg hyg] at hut ⊢
          exact hn.2 y hy hut
      · obtain ⟨z, hz, rfl⟩ := Option.mem_map.mp hy
        refine ⟨z, hz, ?_⟩
        split at hyt <;> exact hyt

theorem State.ClaimSafe.trimStep {s : State} (h : s.ClaimSafe) (g : Tag)
    (habsent : ∀ c a, s.context? g = some c → (s.route? c.make).bind (fun r => r.plan.trimAttenuator) = some a →
      ∀ w ∈ s.sbc, w.plan.index = a → ∀ e ∈ w.claims, e.Unplaced g)
    (hphase : ∀ x ∈ s.cxe.contexts, x.tag = g → x.phase ≠ .answer) : (s.trimStep g).ClaimSafe := by
  unfold State.trimStep
  split
  · exact h
  · rename_i c hc
    split
    · exact h
    · rename_i a ha
      split
      · dsimp only
        apply State.ClaimSafe.fixTrim
        · exact h.congr (s.onContext_claimPart g _ (fun _ => rfl))
        · exact habsent c a hc ha
        intro y hy hyt
        obtain ⟨x, hx, rfl⟩ := List.mem_map.mp hy
        split at hyt
        · rw [if_pos ‹_›]; exact hphase x hx hyt
        · rw [if_neg ‹_›]; exact hphase x hx hyt
      · exact h.congr (s.onContext_claimPart g _ Context.trimFail_claimPart)

end Sys2Proof.Machine
end

section
/-! SUPPORT. That the entries to COLD, MOVE and DONE keep the claim law (R75, R78, R81). -/

namespace Sys2Proof.Machine

/-- Every context of a tag after an update of the tag's context is an updated one. -/
theorem State.mem_onContext {s : State} {g : Tag} {f : Context → Context} {y : Context}
    (hy : y ∈ (s.onContext g f).cxe.contexts) (ht : y.tag = g) : ∃ x ∈ s.cxe.contexts, x.tag = g ∧ y = f x := by
  obtain ⟨x, hx, rfl⟩ := List.mem_map.mp hy
  split at ht
  · exact ⟨x, hx, ‹_›, if_pos ‹_›⟩
  · exact absurd ht ‹_›

/-- The context of a tag enters COLD (R75). -/
def Context.toCold (quiet : Nat) (pass : Bool) (x : Context) : Context :=
  let y := { x with phase := .cold, quietLeft := quiet, quietWait := true }
  if pass then y.quietPass else y

theorem Context.toCold_claimPart (q : Nat) (p : Bool) (x : Context) :
    (x.toCold q p).claimPart = ({ x with phase := .cold } : Context).claimPart := by
  unfold Context.toCold
  dsimp only
  split
  · rw [Context.quietPass_claimPart]; rfl
  · rfl

theorem State.ClaimSafe.onContext_toCold {s : State} (h : s.ClaimSafe) (g : Tag) (f : Context → Context)
    (hf : ∀ x, (f x).claimPart = ({ x with phase := .cold } : Context).claimPart) : (s.onContext g f).ClaimSafe := by
  have hp : ∀ x, (f x).tag = x.tag ∧ (f x).phase = .cold ∧ (f x).make = x.make ∧ (f x).brk = x.brk := by
    intro x
    have := hf x
    simp only [Context.claimPart, Prod.mk.injEq] at this
    exact ⟨this.1, this.2.1, this.2.2.1, this.2.2.2.1⟩
  exact h.onContext g f (fun x => (hp x).1) fun w _ c _ x _ _ hr => hr.toCold (hp x).1 (hp x).2.1 (hp x).2.2.1 (hp x).2.2.2

/-- The guard opened for a context, and its quiet test (R75 steps 1 and 2). -/
def State.coldTest (s : State) (c : Context) : Bool × Rfg :=
  (s.rfg.openGuard c.tag (s.named c RoutePlan.inhibits) (s.named c RoutePlan.detectors) c.hotTolerant).quietTest c.tag

/-- The state in which a context has entered COLD, its trim still to be computed (R75 steps 1 and 2). -/
def State.intoCold (s : State) (c : Context) : State :=
  ({ s with rfg := (s.coldTest c).2 } : State).onContext c.tag (Context.toCold s.cxe.quietTimeout (s.coldTest c).1)

theorem State.enterCold_eq (s : State) {c : Context} (h : c.role ≠ .sponsorOnly) :
    s.enterCold c = if s.trimHere c then (s.intoCold c).trimStep c.tag else s.intoCold c := by
  unfold State.enterCold
  rw [if_neg h]
  rfl

/-- What a context that has entered COLD keeps. -/
theorem Context.toCold_kept (q : Nat) (p : Bool) (x : Context) :
    (x.toCold q p).tag = x.tag ∧ (x.toCold q p).phase = .cold ∧ (x.toCold q p).make = x.make := by
  have := x.toCold_claimPart q p
  simp only [Context.claimPart, Prod.mk.injEq] at this
  exact ⟨this.1, this.2.1, this.2.2.1⟩

theorem State.ClaimSafe.enterCold {s : State} (h : s.ClaimSafe) {c : Context} (hc : s.context? c.tag = some c)
    (hp : c.phase = .answer) : (s.enterCold c).ClaimSafe := by
  by_cases hrole : c.role = .sponsorOnly
  · unfold State.enterCold
    rw [if_pos hrole]
    exact h.onContext_toCold c.tag _ (fun _ => rfl)
  rw [State.enterCold_eq s hrole]
  have hguard : ({ s with rfg := (s.coldTest c).2 } : State).ClaimSafe := h.congr rfl
  have hcold : (s.intoCold c).ClaimSafe := hguard.onContext_toCold c.tag _ (Context.toCold_claimPart _ _)
  split
  case isFalse => exact hcold
  case isTrue ht =>
    refine hcold.trimStep c.tag (fun d a hd ha => ?_) (fun y hy hyt => ?_)
    · obtain ⟨hdm, hdt⟩ := State.context_spec hd
      obtain ⟨x, hx, hxt, rfl⟩ := State.mem_onContext hdm hdt
      obtain rfl := context_unique h.tags hx (State.context_spec hc).1 hxt
      rw [(Context.toCold_kept _ _ x).2.2] at ha
      exact h.unplaced_of_answer hc hp (by simpa [State.trimHere] using ht) ha
    · obtain ⟨x, _, _, rfl⟩ := State.mem_onContext hy hyt
      rw [(Context.toCold_kept _ _ x).2.1]
      exact nofun

/-! ### Entry to MOVE (R78) -/

/-- Where the break route was taken down no established claim of it stands (R32). -/
theorem State.ClaimSafe.breakDown_none {s : State} (h : s.ClaimSafe) (b : Nat) :
    ∀ w ∈ (s.breakDown b).sbc, ∀ c ∈ w.claims, c.holder ≠ .established b := by
  unfold State.breakDown
  split
  · rename_i r hr
    split
    · obtain ⟨hrm, hid⟩ := State.route_spec hr
      subst hid
      exact h.idle r hrm ‹_›
    · intro v hv c hc
      obtain ⟨w, _, rfl⟩ := List.mem_map.mp hv
      exact w.dropRoute_none b c hc
  · rename_i hr
    intro w hw c hc e
    have := h.recorded w hw c hc b e
    rw [hr] at this; cases this

theorem State.breakDown_cxe (s : State) (b : Nat) : (s.breakDown b).cxe = s.cxe := by
  unfold State.breakDown; repeat' split
  all_goals rfl

/-- The break route of a context taken down, where it has one (R32, R78 step 1). -/
def State.breakOf (s : State) (c : Context) : State :=
  match c.brk with
  | some b => s.breakDown b
  | none => s

/-- A context past its commit point (R78). -/
def Context.commit (x : Context) : Context := { x with phase := .move, passedCommit := true, quietWait := false }

/-- Taking a route down and a change of a context do not meet. -/
theorem State.breakDown_onContext (s : State) (b : Nat) (g : Tag) (f : Context → Context) :
    (s.onContext g f).breakDown b = (s.breakDown b).onContext g f := by
  unfold State.breakDown
  rw [State.onContext_route]
  split
  · split <;> rfl
  · rfl

/-- The entry to MOVE, its commit last of what changes records: the break route down, the commit, and a participant's drives. -/
theorem State.enterMove_eq (s : State) (c : Context) :
    s.enterMove c =
      (if c.role = .participant then
        (((s.breakOf c).onContext c.tag Context.commit).driveList c).foldl (State.driveFor c.tag)
          ((s.breakOf c).onContext c.tag Context.commit)
      else (s.breakOf c).onContext c.tag Context.commit).onContext c.tag Context.settleReport := by
  unfold State.enterMove State.breakOf
  cases c.brk with
  | none => rfl
  | some b =>
    dsimp only
    rw [State.breakDown_onContext]
    rfl

theorem State.enterMove_claimPart (s : State) (c : Context) :
    (s.enterMove c).claimPart = ((s.breakOf c).onContext c.tag Context.commit).claimPart := by
  rw [State.enterMove_eq, State.onContext_claimPart _ _ _ Context.settleReport_claimPart]
  split
  · exact foldl_keeps _ State.claimPart (State.driveFor_claimPart _) _ _
  · rfl

theorem State.ClaimSafe.breakOf {s : State} (h : s.ClaimSafe) (c : Context) : (s.breakOf c).ClaimSafe := by
  unfold State.breakOf
  split
  · exact h.breakDown _
  · exact h

theorem State.breakOf_cxe (s : State) (c : Context) : (s.breakOf c).cxe = s.cxe := by
  unfold State.breakOf
  split
  · exact s.breakDown_cxe _
  · rfl

theorem State.ClaimSafe.breakOf_none {s : State} (h : s.ClaimSafe) {c : Context} {b : Nat} (hb : c.brk = some b) :
    ∀ w ∈ (s.breakOf c).sbc, ∀ d ∈ w.claims, d.holder ≠ .established b := by
  unfold State.breakOf
  rw [hb]
  exact h.breakDown_none b

theorem State.ClaimSafe.enterMove {s : State} (h : s.ClaimSafe) {c : Context} (hc : s.context? c.tag = some c) :
    (s.enterMove c).ClaimSafe := by
  refine State.ClaimSafe.congr ?_ (s.enterMove_claimPart c)
  refine (h.breakOf c).onContext c.tag Context.commit (fun _ => rfl) fun w hw d hd x hx _ hr => ?_
  rw [s.breakOf_cxe] at hx
  obtain rfl := context_unique h.tags hx (State.context_spec hc).1 hr.tag
  have hnone := fun b hb => h.breakOf_none (c := x) (b := b) hb w hw
  obtain ⟨r, hr1, hr2, hr3, _⟩ := hr.route
  refine ⟨rfl, rfl, ⟨r, hr1, hr2, hr3, nofun⟩, fun u hu hut => ?_, fun _ => ?_⟩
  · obtain ⟨_, b, hb, hest⟩ := hr.successor u hu hut
    exact absurd hest (hnone b hb d hd)
  · by_cases hb : x.brk = some x.make
    · exact hnone _ hb
    · exact hr.alone (.inl hb)

/-! ### Entry to DONE (R10, R33, R81) -/

/-- In MOVE no successor of the tag stands: the break route's claims are gone (R12). -/
theorem State.ClaimSafe.makeEstablished {s : State} (h : s.ClaimSafe) {c : Context} (hc : s.context? c.tag = some c)
    (hp : c.phase = .move) : (s.makeEstablished c).ClaimSafe ∧ (s.makeEstablished c).Unclaimed c.tag := by
  have hrests : ∀ w ∈ s.sbc, ∀ e ∈ w.claims, c.tag ∈ e.tags → s.Rests w e c.tag c := by
    intro w hw e he hg
    obtain ⟨x, hx, hr⟩ := h.rests w hw e he c.tag hg
    obtain rfl := context_unique h.tags hx (State.context_spec hc).1 hr.tag
    exact hr
  unfold State.makeEstablished
  split
  · rename_i r hr
    obtain ⟨hrm, hrid⟩ := State.route_spec hr
    have h1 : (s.onRoute c.make c.establish).ClaimSafe :=
      h.onRoutes (fun r => if r.plan.id = c.make then c.establish r else r) (fun r => by split <;> rfl)
        (fun r _ hi => .inl (by split at hi <;> [cases hi; exact hi])) (fun r _ g hb _ _ => by split <;> exact hb)
    have hest : ∀ q, (s.onRoute c.make c.establish).route? q = if q = c.make then (s.route? q).map c.establish else s.route? q :=
      fun q => s.route_onRoute c.make q c.establish (fun _ => rfl)
    have hcomm : (s.convertClaims c.tag c.make).2.onRoute c.make c.establish =
        (s.onRoute c.make c.establish).onSwitches (Switch.convert c.tag c.make) := rfl
    rw [hcomm]
    have hfrom : ∀ w : Switch, ∀ d ∈ (w.convert c.tag c.make).claims, ∃ e ∈ w.claims, d = e.converted c.tag c.make w.current := by
      intro w d hd
      rw [Switch.convert_claims] at hd
      obtain ⟨e, he, rfl⟩ := List.mem_map.mp hd
      exact ⟨e, he, rfl⟩
    have hno : ∀ w ∈ s.sbc, ∀ d ∈ (w.convert c.tag c.make).claims, c.tag ∉ d.tags := by
      intro w hw d hd hg
      obtain ⟨e, he, rfl⟩ := hfrom w d hd
      have hr := hrests w hw e he ((e.converted_tags_sublist c.tag c.make w.current).subset hg)
      rcases Claim.mem_tags.mp hg with hh | ⟨u, hu, hut⟩
      · exact (Claim.converted_pending.mp hh).2 rfl
      · rw [Claim.converted_successor] at hu
        exact (hr.successor u hu hut).1 hp
    refine ⟨h1.onSwitches (Switch.convert c.tag c.make) (fun _ => rfl) (fun w hw => ?_) (fun w _ d hd q hq => ?_)
      (fun w hw d hd t ht => ?_), fun v hv d hd => ?_⟩
    · refine Switch.convert_claimsLawful c.tag c.make (h.bank w hw) fun ⟨e, he, hh⟩ => ?_
      exact (hrests w hw e he (Claim.mem_tags.mpr (.inl hh))).alone (.inr hp)
    · obtain ⟨e, he, rfl⟩ := hfrom w d hd
      rcases Claim.converted_established.mp hq with ⟨_, rfl⟩ | hh
      · refine .inr ⟨c.establish r, ?_, fun e => by cases e⟩
        rw [hest, if_pos rfl, hr]; rfl
      · exact .inl ⟨e, he, hh⟩
    · have hne : t ≠ c.tag := fun e => hno w hw d hd (e ▸ ht)
      obtain ⟨e, he, rfl⟩ := hfrom w d hd
      have hte := (e.converted_tags_sublist c.tag c.make w.current).subset ht
      obtain ⟨x, hx, hrx⟩ := h1.rests w hw e he t hte
      obtain ⟨q, hq, hqb, _⟩ := hrx.route
      refine ⟨x, hx, hrx.of_claims rfl (fun a ha hae => ?_) (fun _ hn => ⟨fun hh => ?_, fun u hu => ?_⟩) (fun u hu hut => ?_)⟩
      · obtain ⟨b, hb, rfl⟩ := hfrom w a ha
        rcases Claim.converted_established.mp hae with ⟨hbp, hmk⟩ | hh
        · exfalso
          obtain ⟨p, hp1, hp2, _⟩ := (hrests w hw b hb (Claim.mem_tags.mpr (.inl hbp))).route
          rw [hest, if_pos hmk, hmk, hp1] at hq
          obtain rfl := Option.some.inj hq
          exact hne (Option.some.inj (hqb.symm.trans hp2))
        · exact ⟨b, hb, hh⟩
      · have hh' := Claim.converted_pending.mp hh
        have : e.holder ≠ .pending c.tag := fun e' => hh'.2 (by rw [hh'.1] at e'; cases e'; rfl)
        rw [Claim.converted, if_neg this]
        exact hn.1 hh'.1
      · rw [Claim.converted_successor] at hu
        exact hn.2 u hu
      · rw [Claim.converted_successor] at hu
        refine ⟨?_, u, hu, hut⟩
        obtain ⟨_, b, _, hb⟩ := hrx.successor u hu hut
        rw [Claim.converted, if_neg (by rw [hb]; exact fun e => by cases e)]
    · obtain ⟨w, hw, rfl⟩ := List.mem_map.mp hv
      exact hno w hw d hd
  · rename_i hr
    refine ⟨h, fun w hw e he hg => ?_⟩
    obtain ⟨r, hr', _⟩ := (hrests w hw e he hg).route
    rw [hr] at hr'; cases hr'

theorem State.enterDone_claimPart (s : State) (c : Context) :
    (s.enterDone c).claimPart =
      (((s.makeEstablished c).dropBusy c.tag).onContext c.tag (Context.closed .done (.at .ok none))).claimPart := by
  unfold State.enterDone
  dsimp only
  rw [State.handOver_claimPart]
  split <;> rfl

theorem State.ClaimSafe.enterDone {s : State} (h : s.ClaimSafe) {c : Context} (hc : s.context? c.tag = some c)
    (hp : c.phase = .move) : (s.enterDone c).ClaimSafe := by
  obtain ⟨hsafe, hno⟩ := h.makeEstablished hc hp
  exact ((hsafe.dropBusy hno).onContext_unclaimed (g := c.tag) hno (Context.closed .done (.at .ok none)) (fun _ => rfl)).congr
    (s.enterDone_claimPart c)

end Sys2Proof.Machine
end

section
/-! SUPPORT. That the route check's marks and the claim check of a fresh tag keep the claim law (R30, R67, R68). -/

namespace Sys2Proof.Machine

/-! ### The route check (R30) -/

/-- A marking of the make route and the break route is one change of the route records. -/
theorem State.markRoutes_eq (s : State) (make : Nat) (brk : Option Nat) (f : Route → Route) (hf : ∀ r, (f r).plan = r.plan) :
    s.markRoutes make brk f = s.onRoutes (fun r => if r.plan.id = make ∨ brk = some r.plan.id then f r else r) := by
  unfold State.markRoutes
  dsimp only
  cases brk with
  | none => simp [State.onRoute_eq]
  | some b =>
    dsimp only
    split
    · rename_i hb
      subst hb
      simp only [State.onRoute_eq, Option.some.injEq]
      congr 1
      funext r
      by_cases hr : r.plan.id = b
      · simp [hr]
      · simp [hr, Ne.symm hr]
    · rename_i hb
      simp only [State.onRoute_eq, State.onRoutes, List.map_map]
      congr 2
      refine List.map_congr_left fun r _ => ?_
      simp only [Function.comp, Option.some.injEq]
      by_cases hm : r.plan.id = make
      · have : ¬make = b := fun e => hb e.symm
        simp [hm, hf, this]
      · simp [hm, eq_comm]

/-- A marking keeps the claim law where it takes no busy tag from a record of a route this node has part in. -/
theorem State.ClaimSafe.markRoutes {s : State} (h : s.ClaimSafe) (make : Nat) (brk : Option Nat) (f : Route → Route)
    (hplan : ∀ r, (f r).plan = r.plan) (hstate : ∀ r, (f r).state = r.state)
    (hbusy : ∀ r ∈ s.rtb.routes, r.plan.id = make ∨ brk = some r.plan.id → s.me ∈ r.plan.participants →
      ∀ g, r.busy = some g → (f r).busy = some g) : (s.markRoutes make brk f).ClaimSafe := by
  rw [s.markRoutes_eq make brk f hplan]
  refine h.onRoutes _ (fun r => ?_) (fun r _ hi => .inl ?_) (fun r hr g hb hm _ => ?_)
  · split
    · exact hplan r
    · rfl
  · split at hi
    · rw [← hstate]; exact hi
    · exact hi
  · split
    · exact hbusy r hr ‹_› hm g hb
    · exact hb

/-- A chain of five tests that refuses nothing: none of them applied. -/
theorem not_refused {a b c d e : Bool} {x : RouteAnswer} (h : ∀ why, (if a then RouteAnswer.refuse .unknown
    else if b then .refuse .routeBusy else if c then .refuse .notHolder else if d then .refuse .routeBusy
    else if e then .refuse .noTrim else x) ≠ .refuse why) : a = false ∧ b = false ∧ c = false ∧ d = false ∧ e = false := by
  cases a with
  | true => exact absurd rfl (h .unknown)
  | false => cases b with
    | true => exact absurd rfl (h .routeBusy)
    | false => cases c with
      | true => exact absurd rfl (h .notHolder)
      | false => cases d with
        | true => exact absurd rfl (h .routeBusy)
        | false => cases e with
          | true => exact absurd rfl (h .noTrim)
          | false => simp

/-- What a route check that refuses nothing has found at a participant (R30): of the make route it holds no record (BREAK ONLY),
or a free one (MARKED), which for a MAKE or an EXCHANGE is IDLE; and a break route it has part in carries no busy tag. -/
theorem State.routeCheckAnswer_passes {s : State} {sponsor make : Nat} {brk : Option Nat} {trimHere : Bool}
    (h : ∀ why, s.routeCheckAnswer sponsor make brk trimHere ≠ .refuse why) :
    (∀ b r, brk = some b → s.route? b = some r → s.me ∈ r.plan.participants → r.busy = none) ∧
    (∀ r, s.route? make = some r → r.busy = none ∧ (brk ≠ some make → r.state = .idle)) ∧
    (s.routeCheckAnswer sponsor make brk trimHere = .marked → ∃ r, s.route? make = some r) := by
  obtain ⟨_, h2, _, h4, _⟩ := not_refused h
  refine ⟨fun b r hb hr hm => ?_, fun r hr => ?_, fun he => ?_⟩
  · have : (brk.bind s.route?).filter s.participantRecord = some r := by
      simp [hb, hr, State.participantRecord, hm]
    simpa only [this, Option.isSome_eq_false_iff, Option.isNone_iff_eq_none] using h4
  · simp only [hr] at h2
    split at h2
    · rename_i hb
      exact ⟨by simpa using h2, fun hne => absurd (by simpa using hb) hne⟩
    · simp only [Bool.or_eq_false_iff] at h2
      exact ⟨by simpa using h2.2, fun _ => by simpa using h2.1⟩
  · cases hr : s.route? make with
    | some r => exact ⟨r, rfl⟩
    | none =>
      unfold State.routeCheckAnswer at he
      simp only [hr] at he
      repeat' split at he
      all_goals simp at *

theorem State.routeCheck_refuses {s : State} {g : Tag} {make : Nat} {brk : Option Nat} {trimHere : Bool} {why : ObjectReason}
    (h : s.routeCheckAnswer g.sponsor make brk trimHere = .refuse why) :
    s.routeCheck g make brk true trimHere = (.refuse why, s) := by
  simp [State.routeCheck, h]

theorem State.routeCheck_passes {s : State} {g : Tag} {make : Nat} {brk : Option Nat} {trimHere : Bool}
    (h : ∀ why, s.routeCheckAnswer g.sponsor make brk trimHere ≠ .refuse why) :
    s.routeCheck g make brk true trimHere =
      (s.routeCheckAnswer g.sponsor make brk trimHere, s.markRoutes make brk (Route.mark g)) := by
  unfold State.routeCheck
  rw [if_pos rfl]
  split
  · exact absurd ‹_› (h _)
  · rfl

/-! ### A context opens (R65, R67) -/

theorem State.ClaimSafe.unclaimed_of_fresh {s : State} (h : s.ClaimSafe) {g : Tag} (hg : s.context? g = none) :
    s.Unclaimed g := by
  intro w hw c hc ht
  obtain ⟨x, hx, hr⟩ := h.rests w hw c hc g ht
  have := List.find?_eq_none.mp hg x hx
  simp [hr.tag] at this

/-- The state with a context of a new tag at the end of the table (log 49). -/
def State.withContext (s : State) (x : Context) : State :=
  { s with cxe := { s.cxe with contexts := s.cxe.contexts ++ [x] } }

theorem State.ClaimSafe.withContext {s : State} (h : s.ClaimSafe) {x : Context} (hx : s.context? x.tag = none) :
    (s.withContext x).ClaimSafe := by
  refine h.withContexts (s.cxe.contexts ++ [x]) ?_ (fun w _ c _ g _ y hy hr => ⟨y, List.mem_append_left _ hy, hr⟩)
  rw [List.map_append, List.nodup_append]
  refine ⟨h.tags, List.nodup_singleton _, fun t ht t' ht' => ?_⟩
  obtain ⟨y, hy, rfl⟩ := List.mem_map.mp ht
  obtain rfl : t' = x.tag := by simpa using ht'
  have := List.find?_eq_none.mp hx y hy
  simpa using this

/-- A claim check of a new context at a participant keeps the claim law: its make route marked with its tag, and free of
established claims unless it is a RETRIM (R8, R30). -/
theorem State.ClaimSafe.claimCheck {s : State} (h : s.ClaimSafe) {x : Context} (hx : s.context? x.tag = none)
    (hphase : x.phase = .answer) {r : Route} (hr : s.route? x.make = some r) (hbusy : r.busy = some x.tag)
    (hidle : x.brk ≠ some x.make → r.state = .idle) {brk : Option Nat} (hbrk : ∀ b, brk = some b → x.brk = some b)
    {trimHere : Bool} (htrim : x.trimNode = some s.me → trimHere = true) :
    ((s.claimCheck x.tag x.make brk trimHere).2.withContext x).ClaimSafe := by
  obtain ⟨hrm, hrid⟩ := State.route_spec hr
  obtain ⟨hcover, hbare⟩ := h.cover r hrm
  have hn : ((s.coveredSet x.make trimHere).map Prod.fst).Nodup := hrid ▸ hcover trimHere
  have hnew := h.unclaimed_of_fresh hx
  have hwith := h.withContext hx
  rcases s.claimCheck_cases x.tag x.make brk trimHere hn with ⟨why, e⟩ | ⟨ht, e⟩ <;> rw [e]
  · exact hwith
  set covered := s.coveredSet x.make trimHere with hcov
  have hcomm : (s.onSwitches (Switch.grantBy x.tag brk covered)).withContext x =
      (s.withContext x).onSwitches (Switch.grantBy x.tag brk covered) := rfl
  rw [hcomm]
  have hplan : ∀ w : Switch, (w.grantBy x.tag brk covered).plan = w.plan := by
    intro w
    unfold Switch.grantBy Switch.updateBy
    split
    · simp
    · rfl
  have hpart : ∀ i want, (i, want) ∈ covered → s.me ∈ r.plan.participants := by
    intro i want hq
    by_contra hno
    obtain ⟨hset, hatt⟩ := hbare hno
    simp [hcov, State.coveredSet, hr, hset, hatt] at hq
  have hatt : ∀ i want, (i, want) ∈ covered → x.trimNode = some s.me → r.plan.trimAttenuator = some i → want = none := by
    intro i want hq hme ha
    have hlast : (i, none) ∈ covered := by
      rw [hcov]
      unfold State.coveredSet
      simp [hr, htrim hme, ha]
    have := List.inj_on_of_nodup_map hn hq hlast rfl
    exact congrArg Prod.snd this
  have hest : ∀ w ∈ s.sbc, ∀ d ∈ (w.grantBy x.tag brk covered).claims, ∀ q, d.holder = .established q →
      ∃ c ∈ w.claims, c.holder = .established q := by
    intro w hw d hd q hq
    rcases Switch.grantBy_cases h.switches hn ht x.tag hw with e | ⟨want, _, _, e⟩ <;> rw [e] at hd
    · exact ⟨d, hd, hq⟩
    · rw [Switch.grant_claims] at hd
      split at hd
      · obtain ⟨c, hc, rfl⟩ := List.mem_map.mp hd
        exact ⟨c, hc, by simpa using hq⟩
      · rcases List.mem_append.mp hd with hd | hd
        · exact ⟨d, hd, hq⟩
        · obtain rfl := List.mem_singleton.mp hd
          cases hq
  refine hwith.onSwitches (Switch.grantBy x.tag brk covered) hplan (fun w hw => ?_)
    (fun w hw d hd q hq => .inl (hest w hw d hd q hq)) (fun w hw d hd t htd => ?_)
  · rcases Switch.grantBy_cases h.switches hn ht x.tag hw with e | ⟨want, _, ha, e⟩ <;> rw [e]
    · exact h.bank w hw
    · exact Switch.grant_claimsLawful x.tag (h.bank w hw) (hnew w hw) ha
  have hnewRests : ∀ want, (w.plan.index, want) ∈ covered → ∀ d : Claim,
      (d.holder = .pending x.tag → d.position = want) → (∀ u ∈ d.successor, u.tag = x.tag → u.position = want ∧
        ∃ b, brk = some b ∧ d.holder = .established b) → (s.withContext x).Rests (w.grantBy x.tag brk covered) d x.tag x := by
    intro want hq d hpos hsuc
    refine ⟨rfl, by simp [Context.isOpen, hphase], ⟨r, hr, hbusy, hpart _ _ hq, fun _ hme ha => ?_⟩, fun u hu hut => ?_,
      fun hb d' hd' hh => ?_⟩
    · rw [hplan] at ha
      obtain rfl := hatt _ _ hq hme ha
      exact ⟨hpos, fun u hu hut => (hsuc u hu hut).1⟩
    · obtain ⟨_, b, hb, hh⟩ := hsuc u hu hut
      exact ⟨by rw [hphase]; exact nofun, b, hbrk b hb, hh⟩
    · have hne : x.brk ≠ some x.make := hb.resolve_right (by rw [hphase]; exact nofun)
      obtain ⟨c, hc, hch⟩ := hest w hw d' hd' _ hh
      exact h.idle r hrm (hidle hne) w hw c hc (hrid ▸ hch)
  have hold : ∀ c ∈ w.claims, ∀ d : Claim, t ∈ c.tags → t ≠ x.tag → d.holder = c.holder → d.position = c.position →
      (∀ u ∈ d.successor, u.tag = t → u ∈ c.successor) →
      ∃ y ∈ (s.withContext x).cxe.contexts, (s.withContext x).Rests (w.grantBy x.tag brk covered) d t y := by
    intro c hc d htc hne hh hp hs
    obtain ⟨y, hy, hry⟩ := hwith.rests w hw c hc t htc
    refine ⟨y, hy, hry.of_claims (hplan w) (fun e he => hest w hw e he _) (fun _ hn => ⟨fun e => ?_, fun u hu hut => ?_⟩)
      (fun u hu hut => ⟨hh, u, hs u hu hut, hut⟩)⟩
    · rw [hp]; exact hn.1 (hh ▸ e)
    · exact hn.2 u (hs u hu hut) hut
  rcases Switch.grantBy_cases h.switches hn ht x.tag hw with e | ⟨want, hq, _, e⟩
  · rw [e] at hd
    exact hold d hd d htd (fun e => hnew w hw d hd (e ▸ htd)) rfl rfl (fun u hu _ => hu)
  rw [e, Switch.grant_claims] at hd
  split at hd
  · obtain ⟨c, hc, rfl⟩ := List.mem_map.mp hd
    rcases Claim.mem_succeeded_tags htd with htc | ⟨hce, rfl⟩
    · have hne : t ≠ x.tag := fun e => hnew w hw c hc (e ▸ htc)
      refine hold c hc _ htc hne (by simp) (by simp) fun u hu hut => ?_
      rcases Claim.mem_succeeded_successor hu with hu | ⟨_, rfl⟩
      · exact hu
      · exact absurd hut.symm hne
    · obtain ⟨b, hb, hcb⟩ := (Claim.excluded_iff brk c).mp hce
      refine ⟨x, List.mem_append_right _ (by simp), hnewRests want hq _ (fun e => ?_) (fun u hu hut => ?_)⟩
      · rw [Claim.succeeded_holder, hcb] at e; cases e
      · rcases Claim.mem_succeeded_successor hu with hu | ⟨_, rfl⟩
        · exact absurd (Claim.mem_tags.mpr (.inr ⟨u, hu, hut⟩)) (hnew w hw c hc)
        · exact ⟨rfl, b, hb, by simpa using hcb⟩
  · rcases List.mem_append.mp hd with hd | hd
    · exact hold d hd d htd (fun e => hnew w hw d hd (e ▸ htd)) rfl rfl (fun u hu _ => hu)
    · obtain rfl := List.mem_singleton.mp hd
      obtain rfl : t = x.tag := by simpa [Claim.tags] using htd
      exact ⟨x, List.mem_append_right _ (by simp), hnewRests want hq _ (fun _ => rfl) (fun u hu => by cases hu)⟩

end Sys2Proof.Machine
end

section
/-! SUPPORT. That the opening of a context, the messages heard and the work of a frame end keep the claim law. -/

namespace Sys2Proof.Machine

/-! ### The opening of a context (R65 to R68) -/

@[simp] theorem State.markRoutes_me (s : State) (m : Nat) (b : Option Nat) (f : Route → Route) :
    (s.markRoutes m b f).me = s.me := by
  unfold State.markRoutes; repeat' split
  all_goals rfl
@[simp] theorem State.markRoutes_cxe (s : State) (m : Nat) (b : Option Nat) (f : Route → Route) :
    (s.markRoutes m b f).cxe = s.cxe := by
  unfold State.markRoutes; repeat' split
  all_goals rfl

/-- The break route a claim check excludes: that of the PROPOSE, where this node holds its record (R5). -/
def State.knownBreak (s : State) (p : Propose) : Option Nat := p.brk.filter (fun b => (s.route? b).isSome)

/-- Everything the opening of a context can do before the context stands in the table (R67, R68): nothing to claims, on a refused
route check; the routes marked, at a node that is no participant or has no record of the make route; or the routes marked and
the claims checked. -/
theorem State.openContext_cases (s : State) (p : Propose) (n : Nat) :
    ∃ role report t, s.openContext p n = t.withContext { p.context n role with report := report } ∧
      (t = s ∨ t = s.markRoutes p.make p.brk (Route.markFree { sponsor := n, seq := p.seq }) ∨
        ((∀ why, s.routeCheckAnswer n p.make p.brk (p.trimNode == some s.me) ≠ .refuse why) ∧
          let u := s.markRoutes p.make p.brk (Route.mark { sponsor := n, seq := p.seq })
          (t = u ∨ ((∃ r, s.route? p.make = some r) ∧
            t = (u.claimCheck { sponsor := n, seq := p.seq } p.make (u.knownBreak p) (p.trimNode == some s.me)).2)))) := by
  unfold State.openContext State.enterAnswer
  dsimp only
  cases hpart : p.participants.contains s.me
  · exact ⟨_, _, _, rfl, .inr (.inl rfl)⟩
  by_cases hr : ∃ why, s.routeCheckAnswer n p.make p.brk (p.trimNode == some s.me) = .refuse why
  · obtain ⟨why, hr⟩ := hr
    rw [State.routeCheck_refuses (g := { sponsor := n, seq := p.seq }) hr]
    exact ⟨_, _, _, rfl, .inl rfl⟩
  · have hr' := not_exists.mp hr
    rw [State.routeCheck_passes (g := { sponsor := n, seq := p.seq }) hr']
    dsimp only
    cases ha : s.routeCheckAnswer n p.make p.brk (p.trimNode == some s.me) with
    | refuse why => exact absurd ha (hr' why)
    | breakOnly => exact ⟨_, _, _, rfl, .inr (.inr ⟨nofun, .inl rfl⟩)⟩
    | marked =>
      have hrec := (State.routeCheckAnswer_passes hr').2.2 ha
      dsimp only
      generalize hck : State.claimCheck _ _ _ _ _ = check
      obtain ⟨why, v⟩ := check
      have hv : v = (((s.markRoutes p.make p.brk (Route.mark { sponsor := n, seq := p.seq })).claimCheck
        { sponsor := n, seq := p.seq } p.make _ (p.trimNode == some s.me))).2 := (congrArg Prod.snd hck).symm
      cases why with
      | some why => exact ⟨_, _, _, rfl, .inr (.inr ⟨nofun, .inr ⟨hrec, hv⟩⟩)⟩
      | none => exact ⟨_, _, _, rfl, .inr (.inr ⟨nofun, .inr ⟨hrec, hv⟩⟩)⟩

theorem State.ClaimSafe.openContext {s : State} (h : s.ClaimSafe) (p : Propose) (n : Nat)
    (hx : s.context? { sponsor := n, seq := p.seq } = none) : (s.openContext p n).ClaimSafe := by
  obtain ⟨role, report, t, e, ht⟩ := s.openContext_cases p n
  rw [e]
  rcases ht with rfl | rfl | ⟨hpass, ht⟩
  · exact h.withContext hx
  · refine State.ClaimSafe.withContext ?_ ?_
    · refine h.markRoutes _ _ _ (fun r => ?_) (fun r => ?_) (fun r _ _ _ g hb => ?_)
      · unfold Route.markFree; split <;> rfl
      · unfold Route.markFree; split <;> rfl
      · unfold Route.markFree; rw [hb]; exact hb
    · unfold State.context?; rw [State.markRoutes_cxe]; exact hx
  · obtain ⟨hbreak, hmake, _⟩ := State.routeCheckAnswer_passes hpass
    have hu : (s.markRoutes p.make p.brk (Route.mark { sponsor := n, seq := p.seq })).ClaimSafe := by
      refine h.markRoutes _ _ _ (fun _ => rfl) (fun _ => rfl) (fun r hr hid hm g hb => ?_)
      exfalso
      have hfound := State.route_of_mem h.routes hr
      rcases hid with hid | hid
      · rw [hid] at hfound
        rw [(hmake r hfound).1] at hb; cases hb
      · rw [hbreak _ r hid hfound hm] at hb; cases hb
    have hfresh : (s.markRoutes p.make p.brk (Route.mark { sponsor := n, seq := p.seq })).context? { sponsor := n, seq := p.seq } =
        none := by unfold State.context?; rw [State.markRoutes_cxe]; exact hx
    rcases ht with rfl | ⟨⟨r, hr⟩, rfl⟩
    · exact hu.withContext hfresh
    · have hfound : (s.markRoutes p.make p.brk (Route.mark { sponsor := n, seq := p.seq })).route? p.make =
          some (r.mark { sponsor := n, seq := p.seq }) := by
        rw [s.markRoutes_eq _ _ (Route.mark _) (fun _ => rfl), State.route_onRoutes _ _ _ (fun r => by split <;> rfl), hr, Option.map_some,
          if_pos (.inl (State.route_spec hr).2)]
      refine hu.claimCheck (x := { p.context n role with report := report }) hfresh rfl hfound rfl (hmake r hr).2
        (fun b hb => ?_) (fun hme => ?_)
      · exact (Option.filter_eq_some_iff.mp hb).1
      · rw [State.markRoutes_me] at hme
        exact beq_iff_eq.mpr hme

theorem State.ClaimSafe.proposeHeard {s : State} (h : s.ClaimSafe) (n : Nat) (p : Propose) : (s.proposeHeard n p).ClaimSafe := by
  have hend : s.endReservation.claimPart = s.claimPart := by
    unfold State.endReservation; split <;> rfl
  have hctx : s.endReservation.cxe.contexts = s.cxe.contexts := by
    unfold State.endReservation; split <;> rfl
  unfold State.proposeHeard
  dsimp only
  split
  · exact h
  split
  · refine h.congr ?_
    split
    · rw [State.proposeNotOpened_claimPart]
      unfold State.endReservation; split <;> rfl
    · rfl
  rename_i hnew
  have hx : s.context? { sponsor := n, seq := p.seq } = none := by
    simp only [Bool.or_eq_true, not_or] at hnew
    simpa using hnew.2
  generalize ht : (if (n == s.me) = true then s.endReservation else s) = t
  have htsafe : t.ClaimSafe := by
    subst ht; split
    · exact h.congr hend
    · exact h
  have htx : t.context? { sponsor := n, seq := p.seq } = none := by
    subst ht; unfold State.context?; split
    · rw [hctx]; exact hx
    · exact hx
  split
  · have hopen := htsafe.openContext p n htx
    split
    · exact hopen.congr (State.proposeOpened_claimPart _)
    · exact hopen
  · exact htsafe.congr rfl

/-! ### Records heard (R66, R71 to R80) -/

theorem State.ClaimSafe.messageHeard {s : State} (h : s.ClaimSafe) (n : Nat) (b : Bool) (m : Option Message) :
    (s.messageHeard n b m).ClaimSafe := by
  unfold State.messageHeard
  split
  · exact h
  · split
    · exact h.proposeHeard n _
    · exact h
  · have hr := h.releaseHeard n ‹_› ‹_›
    dsimp only
    split
    · exact hr.congr (State.releaseAnswered_claimPart _ _)
    · exact hr

theorem State.ClaimSafe.testPhases (v : Voice) (g : Tag) :
    ∀ (fuel : Nat) {s : State}, s.ClaimSafe → (State.testPhases v g fuel s).ClaimSafe
  | 0, _, h => h
  | fuel + 1, s, h => by
    unfold State.testPhases
    split
    · exact h
    rename_i c hc
    obtain rfl : c.tag = g := (State.context_spec hc).2
    split
    · exact h
    split
    · exact h.closeFailed c _
    split
    · exact State.ClaimSafe.testPhases v c.tag fuel (h.enterCold hc (And.left ‹_›))
    split
    · exact State.ClaimSafe.testPhases v c.tag fuel (h.enterMove hc)
    split
    · exact h.enterDone hc (And.left ‹_›)
    · exact h

theorem State.ClaimSafe.takeEntry {s : State} (h : s.ClaimSafe) (n : Nat) (e : StageEntry) : (State.takeEntry n s e).ClaimSafe := by
  unfold State.takeEntry
  split
  · exact h
  dsimp only
  split
  · refine State.ClaimSafe.testPhases _ _ 4 ?_
    split
    · exact h.congr (s.onContext_claimPart _ _ (fun _ => rfl))
    · exact h
  · exact h

theorem State.ClaimSafe.deliver {s : State} (h : s.ClaimSafe) (r : SlotRecord) : (s.deliver r).ClaimSafe := by
  unfold State.deliver
  split
  · refine State.ClaimSafe.messageHeard ?_ _ _ _
    exact (List.foldlRecOn r.entries _ h fun _ hs e _ => hs.takeEntry _ e).closeAll _ _
  · exact h.messageHeard _ _ _

/-! ### The work of a frame end -/

theorem State.ClaimSafe.windowRunsOut {s : State} (h : s.ClaimSafe) (g : Tag) : (s.windowRunsOut g).ClaimSafe := by
  unfold State.windowRunsOut
  split
  · split
    · apply State.ClaimSafe.closeFailed
      exact h.congr (s.onContext_claimPart g _ (fun _ => rfl))
    · exact h
  · exact h

theorem State.quietRunsOut_claimPart (s : State) (g : Tag) : (s.quietRunsOut g).claimPart = s.claimPart := by
  unfold State.quietRunsOut
  split
  · split
    · exact s.onContext_claimPart g _ (fun _ => by rw [Context.quietFail_claimPart]; rfl)
    · rfl
  · rfl

theorem State.ClaimSafe.peersGoAbsent {s : State} (h : s.ClaimSafe) : s.peersGoAbsent.ClaimSafe := by
  unfold State.peersGoAbsent
  refine State.ClaimSafe.orphanRoutes ?_ _
  refine State.ClaimSafe.closeAll ?_ _ _
  exact h.congr (foldl_keeps _ State.claimPart (by intros; rfl) _ s)

theorem State.silenceComplete_claimPart (s : State) : s.silenceComplete.claimPart = s.claimPart := by
  unfold State.silenceComplete; split
  · rename_i hs; simp [State.claimPart, Biu.enterListen, hs.1]
  · rfl
theorem State.clearComplete_claimPart (s : State) : s.clearComplete.claimPart = s.claimPart := by
  unfold State.clearComplete; split
  · rename_i hs; rw [State.sponsorEvent_claimPart]; simp [State.claimPart, hs.1]
  · rfl
theorem State.backoffRunsOut_claimPart (s : State) (name : SlotName) : (s.backoffRunsOut name).claimPart = s.claimPart := by
  unfold State.backoffRunsOut; dsimp only; split <;> simp

theorem State.ClaimSafe.doWork {s : State} (h : s.ClaimSafe) (w : Work) : (s.doWork w).ClaimSafe := by
  unfold State.doWork
  refine State.ClaimSafe.congr ?_ (State.complete_claimPart _)
  cases w with
  | settle i => dsimp only; split; exacts [h.settleEnds i, h]
  | quiet g => exact h.congr (s.quietRunsOut_claimPart g)
  | window g => exact h.windowRunsOut g
  | absence => exact h.peersGoAbsent
  | linger g => exact h.freeIfDone g
  | silence => exact h.congr s.silenceComplete_claimPart
  | clear => exact h.congr s.clearComplete_claimPart
  | backoff name => exact h.congr (s.backoffRunsOut_claimPart name)
  | takeUp => exact h.congr s.takeUps_claimPart

theorem State.ClaimSafe.caughtUp {s : State} (h : s.ClaimSafe) : s.caughtUp.ClaimSafe := by
  unfold State.caughtUp
  exact List.foldlRecOn s.agenda _ (h.congr rfl : ({ s with agenda := [] } : State).ClaimSafe) fun _ hs w _ => hs.doWork w

theorem State.ClaimSafe.workNow {s : State} (h : s.ClaimSafe) (w : Work) : (s.workNow w).ClaimSafe := by
  unfold State.workNow
  split
  · exact (h.congr rfl : ({ s with agenda := s.agenda.erase w } : State).ClaimSafe).doWork w
  · exact h

/-! ### The bus -/

theorem State.ClaimSafe.enterDuplicate {s : State} (h : s.ClaimSafe) (hb : s.biu.busState ≠ .loading) (c : DuplicateCause) :
    (s.enterDuplicate c).ClaimSafe := by
  unfold State.enterDuplicate State.fallSilent
  dsimp only
  refine State.ClaimSafe.congr ?_ ((State.endSilent_claimPart _ _).trans (State.endSilent_claimPart _ _))
  refine State.ClaimSafe.closeAll ?_ _ _
  exact h.congr (by simp [State.claimPart, State.fire, hb])

end Sys2Proof.Machine
end

section
/-! SUPPORT. That the commands keep the claim law: the bus, the controller port, the resets and the load. -/

namespace Sys2Proof.Machine

/-! ### The bus -/

theorem State.syncSeen_claimPart (s : State) : s.syncSeen.claimPart = s.claimPart := by
  unfold State.syncSeen; split <;> rfl
@[simp] theorem State.timerDrives_claimPart (s : State) : s.timerDrives.claimPart = s.claimPart := by
  rcases s.timerDrives_cases with h | h <;> rw [h] <;> rfl
theorem State.frameTimerExpires_claimPart (s : State) : s.frameTimerExpires.claimPart = s.claimPart := by
  unfold State.frameTimerExpires; split
  · split
    · rfl
    · simp
  · rfl
theorem State.searchSpanExpires_claimPart (s : State) : s.searchSpanExpires.claimPart = s.claimPart := by
  unfold State.searchSpanExpires; split <;> simp
@[simp] theorem State.takeMessage_claimPart (s : State) : s.takeMessage.2.claimPart = s.claimPart := by
  unfold State.takeMessage; split
  · rfl
  · rw [State.setSlot_claimPart]; rfl
theorem State.startOwnSlot_claimPart (s : State) : s.startOwnSlot.claimPart = s.claimPart := by
  unfold State.startOwnSlot; dsimp only; split
  · exact (State.takeMessage_claimPart _).trans s.testWithdrawals_claimPart
  · rfl

/-- The bus state is LOADING in two states alike where the part the claim law reads is the same. -/
theorem State.loading_of_claimPart {s t : State} (h : t.claimPart = s.claimPart) (hb : s.biu.busState ≠ .loading) :
    t.biu.busState ≠ .loading := by
  have : (t.biu.busState == .loading) = (s.biu.busState == .loading) := congrArg (fun q => q.2.2.2.2.1) h
  intro e
  rw [e] at this
  exact hb (by simpa using this.symm)

theorem State.ClaimSafe.peerSlot {s : State} (h : s.ClaimSafe) (n : Nat) (heard : Heard) : (s.peerSlot n heard).ClaimSafe := by
  cases heard with
  | nothing => exact h
  | failed => exact h.congr rfl
  | good r =>
    refine State.ClaimSafe.deliver (h.congr ?_) r
    unfold State.peerHeard; dsimp only; split <;> rfl

/-- In LISTEN a record delivers its message alone (R49), and the node stays out of LOADING. -/
theorem State.deliver_listen {s : State} (hb : s.biu.busState = .listen) (r : SlotRecord) :
    (s.deliver r).biu.busState ≠ .loading := by
  have hnl : s.biu.busState ≠ .loading := by rw [hb]; exact nofun
  unfold State.deliver
  rw [hb, if_neg (by simp [BusState.speaks])]
  unfold State.messageHeard
  split
  · exact hnl
  · exact hnl
  · rename_i route force _
    have hr : (s.releaseHeard r.sender route force).2.biu = s.biu := by
      unfold State.releaseHeard; repeat' split
      all_goals rfl
    have hr' : (s.releaseHeard r.sender route force).2.biu.busState ≠ .loading := hr ▸ hnl
    dsimp only
    split
    · exact State.loading_of_claimPart (State.releaseAnswered_claimPart _ _) hr'
    · exact hr'

theorem State.ClaimSafe.ownSlot {s : State} (h : s.ClaimSafe) (copy : Option SlotRecord) (heard : Heard) :
    (s.ownSlot copy heard).ClaimSafe := by
  have dup : s.biu.busState ≠ .loading → ∀ c, (s.enterDuplicate c).ClaimSafe := h.enterDuplicate
  unfold State.ownSlot
  split
  iterate 2
    rename_i hb
    split
    · exact h.deliver _
    · exact dup (by rw [hb]; exact nofun) _
  iterate 2
    rename_i hb
    exact dup (by rw [hb]; exact nofun) _
  iterate 2
    rename_i hb
    split
    · exact dup (by rw [hb]; exact nofun) _
    · exact h
  · rename_i hb
    split
    · exact (h.deliver _).enterDuplicate (State.deliver_listen hb _) _
    · exact h
  · rename_i hb
    split
    · exact dup (by rw [hb]; exact nofun) _
    · exact h
  · exact (h.congr rfl : ({ s with biu := s.biu.signalHeard } : State).ClaimSafe).deliver _
  · exact h.congr rfl
  · exact h

theorem State.ClaimSafe.endSlot {s : State} (h : s.ClaimSafe) (line : Bits) : (s.endSlot line).ClaimSafe := by
  unfold State.endSlot
  split
  · split
    · dsimp only
      split
      · apply State.ClaimSafe.ownSlot
        exact h.congr rfl
      · apply State.ClaimSafe.peerSlot
        exact h.congr rfl
    · exact h
  · exact h

theorem State.frameEnds_claimPart (s : State) (sense : SenseLevels) : (s.frameEnds sense).claimPart = s.claimPart := by
  unfold State.frameEnds
  split
  · refine (State.drainTest_claimPart (State.countFrame { s with sense := sense })).trans ?_
    simp only [State.claimPart, State.countFrame, List.map_map]
    have h1 : (Switch.claimPart ∘ Switch.settleTick) = Switch.claimPart := funext fun w => w.settleTick_claimPart
    have h2 : (Context.claimPart ∘ Context.frameEnd) = Context.claimPart := rfl
    rw [h1, h2]; rfl
  · rfl

theorem State.sampleTaken_claimPart (s : State) (i : Nat) (l : Int) : (s.sampleTaken i l).claimPart = s.claimPart := by
  unfold State.sampleTaken State.quietPasses
  exact (foldl_keeps _ State.claimPart (fun u g => u.onContext_claimPart g _ Context.quietPass_claimPart) _ _).trans rfl

/-! ### The controller port -/

theorem Switch.clearFault_claimPart (sense : SenseLevels) (w : Switch) : (w.clearFault sense).2.claimPart = w.claimPart := by
  unfold Switch.clearFault; repeat' split
  all_goals rfl

/-- RESTART leaves no claim, no context and every route IDLE (R25, R42, R93). -/
theorem State.ClaimSafe.restarted {s : State} (h : s.ClaimSafe) (hb : s.biu.busState ≠ .loading) : s.restarted.ClaimSafe := by
  have hlawful : ∀ w : Switch, w.bare.claimsLawful := fun w =>
    ⟨Nat.zero_le _, fun h => absurd h (by simp [Switch.bare]), List.nodup_nil, List.nodup_nil⟩
  have h1 := h.onSwitches Switch.bare (fun _ => rfl) (fun w _ => hlawful w)
    (fun _ _ _ hd => by cases hd) (fun _ _ _ hd => by cases hd)
  have hempty : ∀ w ∈ (s.onSwitches Switch.bare).sbc, w.claims = [] := by
    intro v hv
    obtain ⟨w, _, rfl⟩ := List.mem_map.mp hv
    rfl
  have h2 := h1.withContexts [] List.nodup_nil (fun w hw c hc => by rw [hempty w hw] at hc; cases hc)
  have h3 := h2.onRoutes Route.restart (fun _ => rfl) (fun _ _ _ => .inr fun w hw c hc => by rw [hempty w hw] at hc; cases hc)
    (fun _ _ g _ _ hno => absurd (fun w hw c hc => by rw [hempty w hw] at hc; cases hc) hno)
  refine h3.congr ?_
  have hsw : ∀ w : Switch, (w.restart s.sense).claimPart = (w.plan, []) := by
    intro w; unfold Switch.restart; dsimp only; split <;> rfl
  simp [State.claimPart, State.restarted, State.onSwitches, State.onRoutes, Function.comp_def, hsw, Biu.restart, hb]
  exact fun _ _ => rfl

theorem State.ClaimSafe.carryOut {s : State} (h : s.ClaimSafe) (id : Nat) (body : RequestBody)
    (hb : s.biu.busState = .loading → body ≠ .restart) : (s.carryOut id body).2.ClaimSafe := by
  have submit : ∀ j, (s.submit j).2.ClaimSafe := by
    intro j
    unfold State.submit; split
    · exact h
    · exact h.congr ((State.sponsorEvent_claimPart _).trans rfl)
  cases body with
  | make r t f => exact submit _
  | breakRoute r => exact submit _
  | exchange b m t f => exact submit _
  | retrim r t f => exact submit _
  | cancel x =>
    refine h.congr ((?_ : _ = (s.cancelRequest x).2.claimPart).trans (s.cancelRequest_claimPart x))
    show (s.cancelTaken x).2.claimPart = _
    unfold State.cancelTaken
    split <;> rename_i e <;> rw [e]
  | takeNotice =>
    refine h.congr ?_
    show s.takeNotice.2.claimPart = _
    unfold State.takeNotice; split <;> rfl
  | queryRoute r => exact h
  | querySwitch i => exact h
  | queryNode => exact h.congr rfl
  | clearFault i =>
    refine h.congr ?_
    show (s.clearFaultOf i).2.claimPart = _
    unfold State.clearFaultOf; split
    · rfl
    · exact s.onSwitch_claimPart i _ (Switch.clearFault_claimPart s.sense)
  | clearEvents e =>
    refine h.congr ?_
    show (s.clearEventSet e).2.claimPart = _
    unfold State.clearEventSet; split <;> rfl
  | setNotifyMap l => exact h.congr rfl
  | saveWear =>
    refine h.congr ?_
    show s.saveWearTaken.2.claimPart = _
    unfold State.saveWearTaken State.beginSave
    cases s.pld.save <;> rfl
  | leaveBus =>
    refine h.congr ?_
    show s.leave.2.claimPart = _
    unfold State.leave
    split <;> simp [State.claimPart, *]
  | joinBus =>
    refine h.congr ?_
    show s.join.2.claimPart = _
    unfold State.join
    split
    · dsimp only; split <;> simp [State.claimPart, Biu.enterListen, *]
    · rw [State.sponsorEvent_claimPart]; simp [State.claimPart, *]
    all_goals rfl
  | restart => exact h.restarted (fun e => hb e rfl)
  | wrongForm k => exact h
  | unknownKind k => exact h

theorem State.ClaimSafe.takeRequest {s : State} (h : s.ClaimSafe) (r : Request) : (s.takeRequest r).ClaimSafe := by
  have ha : (s.answer r).2.ClaimSafe := by
    unfold State.answer
    split
    · exact h
    · rename_i hr
      refine h.carryOut r.id r.body fun hb e => ?_
      rw [e] at hr
      simp [State.requestRefusal, hb, BusState.planless, RequestBody.kind] at hr
  exact ha.congr rfl

theorem State.ClaimSafe.offer {s : State} (h : s.ClaimSafe) (r : Request) : (s.offer r).ClaimSafe := by
  unfold State.offer
  split
  · exact h.takeRequest r
  · exact h.congr rfl
  · exact h.congr rfl

theorem State.ClaimSafe.frameArrived {s : State} (h : s.ClaimSafe) (bytes : List Byte) : (s.frameArrived bytes).ClaimSafe := by
  unfold State.frameArrived
  split
  · exact h.offer _
  · exact h.congr rfl

theorem State.ClaimSafe.sendComplete {s : State} (h : s.ClaimSafe) : s.sendComplete.ClaimSafe := by
  have hfree : ({ s with ctp := { s.ctp with sending := none, rxBuffer := none } } : State).ClaimSafe := h.congr rfl
  unfold State.sendComplete
  split
  · exact h
  · dsimp only
    split
    · exact hfree.takeRequest _
    · exact hfree

/-! ### The load -/

/-- A node with no switch and no route records keeps the claim law. -/
theorem State.ClaimSafe.of_empty {s : State} (hl : s.loadLawful) (hs : s.sbc = []) (hr : s.rtb.routes = [])
    (ht : (s.cxe.contexts.map Context.tag).Nodup) : s.ClaimSafe := by
  refine ⟨hl, ?_, ?_, ht, ?_, ?_, ?_, fun _ => ⟨hs, hr⟩, ?_, ?_⟩
  · simp [State.switchLawful, hs]
  · simp [State.routesLawful, hr]
  · simp [State.routeLawful, hr]
  · simp [State.claimsLawful, hs]
  · simp [State.coverLawful, hr]
  · simp [hs]
  · simp [hs]

/-- While the plan loads there are no records. -/
theorem State.ClaimSafe.empty_of_load {s : State} (h : s.ClaimSafe) (hl : s.pld.load = .loading) :
    s.sbc = [] ∧ s.rtb.routes = [] := h.loading (h.load.mp hl)

theorem State.ClaimSafe.refusePlan {s : State} (h : s.ClaimSafe) (hl : s.pld.load = .loading) (f : PlanFault) :
    (s.refusePlan f).ClaimSafe :=
  .of_empty (by simp [State.loadLawful, State.refusePlan]) (h.empty_of_load hl).1 (h.empty_of_load hl).2 h.tags

theorem State.ClaimSafe.beginLoad {s : State} (h : s.ClaimSafe) (straps : Nat) (plan : List Byte) :
    (s.beginLoad straps plan).ClaimSafe := by
  unfold State.beginLoad
  split
  · rename_i hl
    obtain ⟨hs, hr⟩ := h.empty_of_load hl.1
    dsimp only
    split
    · exact .of_empty h.load hs hr h.tags
    · exact State.ClaimSafe.refusePlan (s := { s with mem := _, pld := { s.pld with begun := true } }) (h.congr rfl) hl.1 _
  · exact h

theorem State.loading_load {s : State} (h : s.loading = true) : s.pld.load = .loading := by
  simp only [State.loading, Bool.and_eq_true, beq_iff_eq] at h
  exact h.1

theorem State.ClaimSafe.rejectPlan {s : State} (h : s.ClaimSafe) : s.rejectPlan.ClaimSafe := by
  unfold State.rejectPlan
  split
  · split
    · exact h
    · exact h.refusePlan (State.loading_load ‹_›) _
  · exact h

theorem State.ClaimSafe.notAnswered {s : State} (h : s.ClaimSafe) (a : MemoryAccess) : (s.notAnswered a).ClaimSafe := by
  unfold State.notAnswered
  split
  · split
    · rename_i hl
      simp only [Bool.and_eq_true] at hl
      exact h.refusePlan (State.loading_load hl.1) _
    · exact h
  · split
    · split
      · exact h.congr rfl
      · exact h
    · exact h
  · refine h.congr ?_
    unfold State.saveFailed; split <;> rfl

theorem State.saveAccepted_claimPart (s : State) : s.saveAccepted.claimPart = s.claimPart := by
  unfold State.saveAccepted
  split
  · rfl
  · dsimp only; split <;> rfl
theorem State.saveFailed_claimPart (s : State) (n : Nat) : (s.saveFailed n).claimPart = s.claimPart := by
  unfold State.saveFailed; split <;> rfl

theorem State.ClaimSafe.hardwareReset (s : State) (n : Nat) : (s.hardwareReset n).ClaimSafe :=
  .of_empty (by simp [State.loadLawful, State.hardwareReset, State.reset, Pld.reset, Biu.reset]) rfl rfl List.nodup_nil

end Sys2Proof.Machine
end

section
/-! SUPPORT. What the content checks of R190 leave of a plan's routes: no switch twice in a covered set (R3, R5, R26). -/

namespace Sys2Proof.Machine

/-! ### The checks passed, entry by entry -/

/-- A check that no entry fails holds of every entry against those before it. -/
theorem firstBad_none {α : Type} (ok : List α → α → Bool) :
    ∀ (l before : List α), firstBad ok before l = none → ∀ pre x post, l = pre ++ x :: post → ok (before ++ pre) x = true
  | [], _, _, pre, x, post, e => by simp at e
  | y :: rest, before, h, pre, x, post, e => by
    unfold firstBad at h
    split at h
    · rename_i hy
      cases pre with
      | nil =>
        obtain ⟨rfl, rfl⟩ := List.cons.inj e
        simpa using hy
      | cons z pre =>
        rw [List.cons_append] at e
        obtain ⟨rfl, rfl⟩ := List.cons.inj e
        have := firstBad_none ok (pre ++ x :: post) (before ++ [y]) h pre x post rfl
        simpa using this
    · cases h

theorem firstBad_none_mem {α : Type} {ok : α → Bool} {l : List α} (h : firstBad (fun _ x => ok x) [] l = none) :
    ∀ x ∈ l, ok x = true := by
  intro x hx
  obtain ⟨pre, post, rfl⟩ := List.append_of_mem hx
  exact firstBad_none _ _ _ h pre x post rfl

/-- The part of an accepted plan's checks that its covered sets rest on (R190 checks 2, 7, 9, 10, 11). -/
structure RawPlan.Checked (me : Nat) (p : RawPlan) : Prop where
  ranges : firstBad RawSwitch.rangeOk [] p.switches = none
  partners : ∀ w ∈ p.switches, w.partnerOk p.switches = true
  references : ∀ r ∈ p.routes, r.referenceOk p = true
  settings : ∀ r ∈ p.routes, r.settingOk p = true
  bare : ∀ r ∈ p.routes, r.sponsorOnlyOk me = true

theorem readPlan_checked {me : Nat} {bytes : List Byte} {p : RawPlan} (h : readPlan me bytes = .ok p) : p.Checked me := by
  have hf : p.firstFailure me = none := by
    unfold readPlan at h
    split at h
    · cases h
    split at h
    · split at h
      · cases h
      split at h
      · cases h
      split at h
      · split at h
        · cases h
        · cases h; assumption
      · cases h
    · cases h
  have hall : ∀ c ∈ p.checks me, c.2.2 = none := by
    intro c hc
    have := List.findSome?_eq_none_iff.mp hf c hc
    simpa using this
  simp only [RawPlan.checks, List.forall_mem_cons] at hall
  obtain ⟨_, hrange, _, _, _, _, hpartner, _, href, hset, hbare, _⟩ := hall
  exact ⟨hrange, firstBad_none_mem hpartner, firstBad_none_mem href, firstBad_none_mem hset, firstBad_none_mem hbare⟩

/-- A list no entry of which has the key of one before it has no key twice. -/
theorem nodup_map_of_before {α β : Type} (key : α → β) (l : List α)
    (h : ∀ pre x post, l = pre ++ x :: post → key x ∉ pre.map key) : (l.map key).Nodup := by
  induction l using List.reverseRecOn with
  | nil => exact List.nodup_nil
  | append_singleton l x ih =>
    rw [List.map_append, List.nodup_append]
    refine ⟨ih fun pre y post e => h pre y (post ++ [x]) (by simp [e]), List.nodup_singleton _, fun a ha b hb => ?_⟩
    obtain rfl : b = key x := by simpa using hb
    exact fun e => h l x [] rfl (e ▸ ha)

/-- Every switch entry of an accepted plan has an index of the part, and no two one index (R190 check 2). -/
theorem RawPlan.Checked.indices {me : Nat} {p : RawPlan} (h : p.Checked me) :
    (p.switches.map RawSwitch.index).Nodup ∧ ∀ w ∈ p.switches, w.index ≤ 47 := by
  have hok := firstBad_none _ _ _ h.ranges
  refine ⟨nodup_map_of_before _ _ fun pre w post e hw => ?_, fun w hw => ?_⟩
  · have hr := hok pre w post e
    simp only [RawSwitch.rangeOk, List.nil_append, Bool.and_eq_true, Bool.not_eq_true', List.any_eq_false] at hr
    obtain ⟨v, hv, hvw⟩ := List.mem_map.mp hw
    obtain ⟨⟨⟨⟨⟨_, hno⟩, _⟩, _⟩, _⟩, _⟩ := hr
    exact hno v hv (by simpa using hvw)
  · obtain ⟨pre, post, e⟩ := List.append_of_mem hw
    have hr := hok pre w post e
    simp only [RawSwitch.rangeOk, Bool.and_eq_true, decide_eq_true_eq] at hr
    obtain ⟨⟨⟨⟨⟨hi, _⟩, _⟩, _⟩, _⟩, _⟩ := hr
    exact hi

/-- The switch entry of an index. -/
def RawPlan.entry? (p : RawPlan) (i : Nat) : Option RawSwitch := p.switches.find? (fun w => w.index == i)

theorem RawPlan.Checked.entry_of_mem {me : Nat} {p : RawPlan} (h : p.Checked me) {w : RawSwitch} (hw : w ∈ p.switches) :
    p.entry? w.index = some w := by
  cases hf : p.entry? w.index with
  | none =>
    have := List.find?_eq_none.mp hf w hw
    simp at this
  | some v =>
    have hv := List.mem_of_find?_eq_some hf
    have hi : v.index = w.index := by simpa using List.find?_some hf
    rw [List.inj_on_of_nodup_map h.indices.1 hv hw hi]

/-- The partner of a switch by the plan, a pair's members naming each other (R3, R190 check 7). -/
def RawPlan.partner? (p : RawPlan) (i : Nat) : Option Nat := (p.entry? i).bind (fun w => w.plan.partner)

theorem RawPlan.Checked.partner_back {me : Nat} {p : RawPlan} (h : p.Checked me) {i j : Nat} (hp : p.partner? i = some j) :
    i ≤ 47 ∧ ∃ v, p.entry? j = some v ∧ v.partner = i := by
  obtain ⟨w, hw, hj⟩ := Option.bind_eq_some_iff.mp hp
  have hwm := List.mem_of_find?_eq_some hw
  obtain rfl : w.index = i := by simpa using List.find?_some hw
  have hne : w.partner ≠ 255 ∧ w.partner = j := by
    simp only [RawSwitch.plan, absentAt] at hj
    split at hj
    · cases hj
    · exact ⟨‹_›, Option.some.inj hj⟩
  have hok := h.partners w hwm
  simp only [RawSwitch.partnerOk, Bool.or_eq_true, beq_iff_eq, hne.1, false_or, Bool.and_eq_true, List.any_eq_true] at hok
  obtain ⟨_, v, hv, ⟨hvi, hvp⟩, _⟩ := hok
  refine ⟨h.indices.2 w hwm, v, ?_, hvp⟩
  rw [← hne.2, ← hvi]
  exact h.entry_of_mem hv

/-! ### Covered sets -/

/-- What a setting puts into a covered set: its switch, and the partner no setting names (R5). -/
def State.coveredBy (s : State) (named : List Nat) (st : Setting) : List Nat :=
  st.switch :: (s.partner? st.switch).toList.filter (fun p => p ∉ named)

theorem State.coveredBy_spec {s : State} {named : List Nat} {st : Setting} {i : Nat} :
    i ∈ s.coveredBy named st ↔ i = st.switch ∨ s.partner? st.switch = some i ∧ i ∉ named := by
  simp [State.coveredBy, Option.mem_toList]

/-- The covered set of a route (R5): what each setting puts there, at the setting's position, and the trim attenuator last. -/
theorem State.coveredSet_eq {s : State} {make : Nat} {r : Route} (hr : s.route? make = some r) (trimHere : Bool) :
    s.coveredSet make trimHere =
      r.plan.settings.flatMap (fun st => (s.coveredBy (r.plan.settings.map Setting.switch) st).map (·, some st.position)) ++
        (if trimHere then r.plan.trimAttenuator.toList else []).map (·, none) := by
  unfold State.coveredSet
  rw [hr]
  dsimp only
  congr 1
  · refine List.flatMap_congr fun st _ => ?_
    unfold State.coveredBy
    cases s.partner? st.switch with
    | none => rfl
    | some p => by_cases hp : p ∈ r.plan.settings.map Setting.switch <;> simp [-List.mem_map, hp]
  · cases trimHere <;> cases r.plan.trimAttenuator <;> rfl

theorem State.coveredSet_switches {s : State} {make : Nat} {r : Route} (hr : s.route? make = some r) (trimHere : Bool) :
    (s.coveredSet make trimHere).map Prod.fst =
      r.plan.settings.flatMap (s.coveredBy (r.plan.settings.map Setting.switch)) ++
        if trimHere then r.plan.trimAttenuator.toList else [] := by
  rw [State.coveredSet_eq hr, List.map_append, List.map_flatMap]
  simp only [List.map_map, Function.comp_def, List.map_id']

/-- No switch stands twice in a covered set where the settings name none twice, no two switches have one partner, and the trim
attenuator is no setting's and no one's partner (R3, R5). -/
theorem State.coveredSet_nodup {s : State} {make : Nat} {r : Route} (hr : s.route? make = some r)
    (hset : (r.plan.settings.map Setting.switch).Nodup)
    (hinj : ∀ i j k, s.partner? i = some k → s.partner? j = some k → i = j)
    (hatt : ∀ a, r.plan.trimAttenuator = some a → a ∉ r.plan.settings.map Setting.switch ∧ ∀ i, s.partner? i ≠ some a)
    (trimHere : Bool) : ((s.coveredSet make trimHere).map Prod.fst).Nodup := by
  rw [State.coveredSet_switches hr]
  have hmem : ∀ st ∈ r.plan.settings, st.switch ∈ r.plan.settings.map Setting.switch :=
    fun st hst => List.mem_map.mpr ⟨st, hst, rfl⟩
  refine List.nodup_append.mpr ⟨List.nodup_flatMap.mpr ⟨fun st hst => ?_, ?_⟩, ?_, fun i hi a ha e => ?_⟩
  · refine List.nodup_cons.mpr ⟨fun h => ?_, ?_⟩
    · simp only [List.mem_filter, decide_eq_true_eq] at h
      exact h.2 (hmem st hst)
    · cases s.partner? st.switch with
      | none => exact List.nodup_nil
      | some p => exact (List.nodup_singleton p).filter _
  · refine (List.pairwise_map.mp hset).imp_of_mem fun {x y} hx hy hne i hix hiy => ?_
    rcases State.coveredBy_spec.mp hix with rfl | ⟨hpx, hnx⟩ <;> rcases State.coveredBy_spec.mp hiy with hiy | ⟨hpy, hny⟩
    · exact hne hiy
    · exact hny (hmem x hx)
    · exact hnx (hiy ▸ hmem y hy)
    · exact hne (hinj _ _ _ hpx hpy)
  · cases trimHere
    · exact List.nodup_nil
    · cases r.plan.trimAttenuator with
      | none => exact List.nodup_nil
      | some a => exact List.nodup_singleton a
  · subst e
    cases trimHere
    · cases ha
    · obtain ⟨hno, hpart⟩ := hatt i (Option.mem_toList.mp ha)
      obtain ⟨st, hst, hmem'⟩ := List.mem_flatMap.mp hi
      rcases State.coveredBy_spec.mp hmem' with rfl | ⟨hp, _⟩
      · exact hno (hmem st hst)
      · exact hpart _ hp

end Sys2Proof.Machine
end

section
/-! SUPPORT. The blocks as an accepted plan fills them, and that every command keeps the claim law (R4, R190, R193). -/

namespace Sys2Proof.Machine

/-! ### The blocks filled (R193) -/

/-- No two switches of an accepted plan have one partner (R190 check 7). -/
theorem RawPlan.Checked.partner_inj {me : Nat} {p : RawPlan} (h : p.Checked me) {i j k : Nat} (hi : p.partner? i = some k)
    (hj : p.partner? j = some k) : i = j := by
  obtain ⟨_, v, hv, rfl⟩ := h.partner_back hi
  obtain ⟨_, w, hw, rfl⟩ := h.partner_back hj
  rw [hv] at hw
  rw [Option.some.inj hw]

/-- The trim attenuator of a route of an accepted plan is no setting's switch and no one's partner (R190 check 9). -/
theorem RawPlan.Checked.attenuator {me : Nat} {p : RawPlan} (h : p.Checked me) {r : RawRoute} (hr : r ∈ p.routes) {a : Nat}
    (ha : r.plan.trimAttenuator = some a) : a ∉ r.plan.settings.map Setting.switch ∧ ∀ i, p.partner? i ≠ some a := by
  obtain ⟨hne, rfl⟩ : r.attenuator ≠ 255 ∧ r.attenuator = a := by
    simp only [RawRoute.plan, absentAt] at ha
    split at ha
    · cases ha
    · exact ⟨‹_›, Option.some.inj ha⟩
  have hok := h.references r hr
  simp only [RawRoute.referenceOk, Bool.and_eq_true, Bool.or_eq_true, beq_iff_eq, hne, false_or, List.any_eq_true,
    Bool.not_eq_true', List.any_eq_false] at hok
  obtain ⟨_, ⟨w, hw, ⟨hwa, _⟩, hwp⟩, hno⟩ := hok
  refine ⟨fun hmem => ?_, fun i hp => ?_⟩
  · simp only [RawRoute.plan, List.map_map, List.mem_map, Function.comp] at hmem
    obtain ⟨q, hq, hqa⟩ := hmem
    exact hno q hq hqa
  · obtain ⟨hi, v, hv, hvi⟩ := h.partner_back hp
    have hwv := h.entry_of_mem hw
    rw [hwa, hv] at hwv
    rw [Option.some.inj hwv, hwp] at hvi
    omega

/-- A route of an accepted plan names no switch twice in its settings, and none at a node that is no participant (R190 checks 10
and 11). -/
theorem RawPlan.Checked.route {me : Nat} {p : RawPlan} (h : p.Checked me) {r : RawRoute} (hr : r ∈ p.routes) :
    (r.plan.settings.map Setting.switch).Nodup ∧
      (me ∉ r.plan.participants → r.plan.settings = [] ∧ r.plan.trimAttenuator = none) := by
  refine ⟨?_, fun hme => ?_⟩
  · have hok := h.settings r hr
    simp only [RawRoute.settingOk, Bool.and_eq_true, decide_eq_true_eq] at hok
    simpa [RawRoute.plan, Function.comp_def] using hok.1
  · have hok := h.bare r hr
    have hnc : r.participants.contains me = false := by simpa [RawRoute.plan] using hme
    simp only [RawRoute.sponsorOnlyOk, hnc, Bool.false_or, Bool.and_eq_true, List.isEmpty_iff, beq_iff_eq] at hok
    simp [RawRoute.plan, absentAt, hok]

/-- The state's blocks stand as a plan fills them: its switches with no claims, its routes' records. -/
structure State.Filled (s : State) (p : RawPlan) : Prop where
  routes : s.rtb.routes = p.routes.map (fun r => r.plan.record)
  switches : ∃ sense counts, s.sbc = p.switches.map (fun w => w.plan.start sense counts)

theorem State.fill_filled (s : State) (p : RawPlan) (counts : Option (List Nat)) (sense : SenseLevels) :
    (s.fill p counts sense).Filled p ∧ (s.fill p counts sense).me = s.me ∧
      (s.fill p counts sense).biu.busState = .silent := by
  have keep {β : Type} (f : State → β) (hf : ∀ (u : State) n x, f (u.fire n x) = f u) (l : List Switch) (u : State) :
      f (l.foldl (fun (s : State) (w : Switch) => s.fire .worn (.switch w.plan.index)) u) = f u :=
    foldl_keeps _ f (fun u w => hf u .worn (.switch w.plan.index)) l u
  exact ⟨⟨keep (fun u => u.rtb.routes) (fun _ _ _ => rfl) _ _, sense, counts, keep State.sbc (fun _ _ _ => rfl) _ _⟩,
    keep State.me (fun u n x => u.fire_me n x) _ _, rfl⟩

/-- The partners of the filled records are the plan's. -/
theorem State.Filled.partner {s : State} {p : RawPlan} (h : s.Filled p) (i : Nat) : s.partner? i = p.partner? i := by
  obtain ⟨sense, counts, hs⟩ := h.switches
  unfold State.partner? State.switch? RawPlan.partner? RawPlan.entry?
  rw [hs, List.find?_map, Option.bind_map]
  rfl

/-- The blocks as an accepted plan fills them keep the claim law (R193). -/
theorem State.Filled.claimsFollow {s : State} {p : RawPlan} (h : s.Filled p) (hp : p.Checked s.me)
    (hb : s.biu.busState ≠ .loading) : s.claimsFollow := by
  have hempty : ∀ w ∈ s.sbc, w.claims = [] := by
    obtain ⟨sense, counts, hs⟩ := h.switches
    intro w hw
    rw [hs] at hw
    obtain ⟨v, _, rfl⟩ := List.mem_map.mp hw
    rfl
  have hcover : s.coverLawful := by
    intro q hq
    obtain ⟨r, hr, rfl⟩ := List.mem_map.mp (h.routes ▸ hq)
    refine ⟨fun trimHere => ?_, (hp.route hr).2⟩
    obtain ⟨q', hq'⟩ : ∃ q', s.route? r.plan.record.plan.id = some q' :=
      Option.isSome_iff_exists.mp (List.find?_isSome.mpr ⟨_, hq, by simp⟩)
    obtain ⟨r', hr', rfl⟩ := List.mem_map.mp (h.routes ▸ (State.route_spec hq').1)
    refine State.coveredSet_nodup hq' (hp.route hr').1 ?_ ?_ trimHere
    · simp only [h.partner]
      exact fun _ _ _ => hp.partner_inj
    · simp only [h.partner]
      exact fun _ => hp.attenuator hr'
  refine ⟨fun w hw => ?_, hcover, fun e => absurd e hb, ?_, ?_⟩
  · rw [Switch.claimsLawful, hempty w hw]
    exact ⟨Nat.zero_le _, fun h => absurd h (by simp), List.nodup_nil, List.nodup_nil⟩
  all_goals
    intro w hw c hc
    rw [hempty w hw] at hc
    cases hc

theorem State.judgeWear_me (s : State) : s.judgeWear.2.me = s.me := by
  unfold State.judgeWear
  split
  · rfl
  · split <;> rfl

theorem State.ClaimSafe.acceptPlan {s : State} (h : s.ClaimSafe) (sense : SenseLevels) :
    (s.acceptPlan sense).claimsFollow := by
  unfold State.acceptPlan
  split
  · split
    · rename_i p hp
      obtain ⟨hf, hme, hb⟩ := s.judgeWear.2.fill_filled p s.judgeWear.1 sense
      refine hf.claimsFollow ?_ (hb ▸ nofun)
      rw [hme, s.judgeWear_me]
      exact readPlan_checked hp
    · exact h.follows
  · exact h.follows

end Sys2Proof.Machine
end

section
/-! SUPPORT. The claim law kept by every step. -/

namespace Sys2Proof.Machine

/-! ### Every command -/

theorem State.ClaimSafe.complete {s : State} (h : s.ClaimSafe) : s.complete.ClaimSafe := h.congr s.complete_claimPart

/-- A command that acts as one event keeps the claim law where its own meaning does. -/
theorem State.ClaimSafe.event {s t : State} (h : s.ClaimSafe) {act : State → State}
    (hact : ∀ u : State, u.ClaimSafe → (act u).ClaimSafe) (e : s.event act = .next t) : t.claimsFollow := by
  cases e
  exact (hact _ h.caughtUp).complete.follows

theorem State.ClaimSafe.sensed {s : State} (h : s.ClaimSafe) (sense : SenseLevels) : (s.sensed sense).ClaimSafe := h.congr rfl

/-- Every command keeps the claim law. -/
theorem State.ClaimSafe.exec {s t : State} (h : s.ClaimSafe) (c : Instr) (e : exec c s = .next t) : t.claimsFollow := by
  cases c with
  | hardwareReset reached => cases e; exact (State.ClaimSafe.hardwareReset s reached).follows
  | planAccepted sense => cases e; exact h.caughtUp.acceptPlan sense
  | settleEnd | answerWindowExpiry | quietTimeout | lingerExpiry | backoffExpiry | takeUp | silenceCountComplete
  | clearCountComplete | peerAbsent =>
    cases e
    exact (h.workNow _).follows
  | requestUnknownKind | make | breakRoute | exchange | retrim | cancel | takeNotice | queryNode | queryRoute | querySwitch
  | clearEvents | setNotifyMap | saveWear | leaveBus | joinBus =>
    exact h.event (fun _ hu => hu.offer _) e
  | clearFault | restart => exact h.event (fun _ hu => (hu.sensed _).offer _) e
  | frameReceived bytes sense => exact h.event (fun _ hu => (hu.sensed sense).frameArrived bytes) e
  | responseSendComplete sense => exact h.event (fun _ hu => (hu.sensed sense).sendComplete) e
  | resetRelease straps plan => exact h.event (fun _ hu => hu.beginLoad straps plan) e
  | memoryNoAnswer access => exact h.event (fun _ hu => hu.notAnswered access) e
  | planRefused => exact h.event (fun _ hu => hu.rejectPlan) e
  | slotEnd line => exact h.event (fun _ hu => hu.endSlot line) e
  | frameGapTimeout => exact h.event (act := State.framingFault) (fun _ hu => hu.congr rfl) e
  | saveWearWriteAccepted => exact h.event (fun u hu => hu.congr u.saveAccepted_claimPart) e
  | saveWearWriteFailed reached => exact h.event (fun u hu => hu.congr (u.saveFailed_claimPart reached)) e
  | syncRecognised => exact h.event (fun u hu => hu.congr u.syncSeen_claimPart) e
  | frameTimerExpiry => exact h.event (fun u hu => hu.congr u.frameTimerExpires_claimPart) e
  | searchSpanExpiry => exact h.event (fun u hu => hu.congr u.searchSpanExpires_claimPart) e
  | ownSlotStart => exact h.event (fun u hu => hu.congr u.startOwnSlot_claimPart) e
  | frameEnd sense => exact h.event (fun u hu => hu.congr (u.frameEnds_claimPart sense)) e
  | detectorSample input level => exact h.event (fun u hu => hu.congr (u.sampleTaken_claimPart input level)) e
  | readyPulseExpiry line =>
    exact h.event (act := fun s => { s with rfg := s.rfg.pulseExpiry line }) (fun _ hu => hu.congr rfl) e

/-- Settles O55: the claim law, with the laws it rests on, is one predicate over the part of the state it reads
(`State.ClaimSafe`); each command either leaves that part or keeps the predicate, and an accepted plan sets it up anew. -/
theorem claimLawKept : Obligations.ClaimLawKept := by
  intro s t hload hswitch hroutes hcxe hidle hclaims e
  have h : s.ClaimSafe := .intro hload hswitch hroutes hcxe hidle hclaims
  unfold step at e
  split at e
  · cases e; exact hclaims
  · rename_i rest _
    exact State.ClaimSafe.exec (h.congr rfl : (s.queued rest).ClaimSafe) _ e

end Sys2Proof.Machine
end

section
/-! SUPPORT. Switch records under the law of one record for each index, requests taken at a free port, and CLEAR FAULT (R22). -/

namespace Sys2Proof.Machine

/-! ### One record for each index -/

/-- A change of one index is any change that does the same to the record found there. -/
theorem State.onSwitch_of_switch {s : State} (h : s.switchLawful) {i : Nat} {w : Switch} (hw : s.switch? i = some w)
    {f g : Switch → Switch} (e : f w = g w) : s.onSwitch i f = s.onSwitch i g := by
  unfold State.onSwitch
  congr 1
  refine List.map_congr_left fun v hv => ?_
  split
  · rename_i hi
    have := State.switch_of_mem h hv
    rw [hi, hw] at this
    rw [← Option.some.inj this, e]
  · rfl

/-- A change that leaves the record found is none. -/
theorem State.onSwitch_same {s : State} (h : s.switchLawful) {i : Nat} {w : Switch} (hw : s.switch? i = some w)
    {f : Switch → Switch} (e : f w = w) : s.onSwitch i f = s := by
  rw [State.onSwitch_of_switch h hw (g := id) e]
  simp [State.onSwitch]

/-! ### Requests -/

/-- A request of the right form offered to a free port of a node with a plan is taken by the rule of its kind (R161, R163). -/
theorem State.offer_taken {s : State} {r : Request} (hs : s.ctp.sending = none) (hr : s.requestRefusal r.body = none) :
    s.offer r = (s.carryOut r.id r.body).2.answered r (s.carryOut r.id r.body).1 := by
  unfold State.offer
  rw [hs]
  show (s.answer r).2.respond r (s.answer r).1 = _
  unfold State.answer
  rw [hr]
  rfl

/-! ### CLEAR FAULT on one switch (R22) -/

theorem Switch.clearFault_notFaulty {w : Switch} (sense : SenseLevels) (h : w.state ≠ .fault) :
    w.clearFault sense = (.notFaulty, w) := by
  rw [Switch.clearFault, if_neg h]

theorem Switch.clearFault_cleared {w : Switch} {sense : SenseLevels} {p : Nat} (h : w.state = .fault)
    (hc : w.commanded = some p) (hr : w.reading sense = some p) :
    w.clearFault sense = (.cleared, { w with state := .still, current := some p, faultReason := none }) := by
  rw [Switch.clearFault, if_pos h, if_pos ⟨hr.trans hc.symm, by rw [hc]; rfl⟩, hc]

theorem Switch.clearFault_stillFaulty {w : Switch} {sense : SenseLevels} (h : w.state = .fault)
    (hr : w.reading sense = none ∨ w.reading sense ≠ w.commanded) :
    w.clearFault sense = (.stillFaulty, { w with current := w.reading sense }) := by
  rw [Switch.clearFault, if_pos h, if_neg]
  rintro ⟨he, hs⟩
  rcases hr with hn | hne
  · rw [← he, hn] at hs; cases hs
  · exact hne he

/-- CLEAR FAULT at a free port of a node with a plan. -/
theorem exec_clearFault {id index : Nat} {sense : SenseLevels} {s : State} (hs : (s.caughtUp.sensed sense).ctp.sending = none)
    (hb : (s.caughtUp.sensed sense).biu.busState.planless = false) :
    exec (.clearFault id index sense) s = .next ((((s.caughtUp.sensed sense).clearFaultOf index).2.answered
      { id := id, body := .clearFault index } ((s.caughtUp.sensed sense).clearFaultOf index).1).complete) := by
  have hr : (s.caughtUp.sensed sense).requestRefusal (.clearFault index) = none := by
    simp [State.requestRefusal, hb, RequestBody.formOk]
  show Host.Outcome.next (State.complete (State.offer _ _)) = _
  rw [State.offer_taken (r := { id := id, body := .clearFault index }) hs hr]
  rfl

/-- The result that answers CLEAR FAULT (section 10). -/
def ClearFaultAnswer.result : ClearFaultAnswer → ResponseResult
  | .cleared => .cleared
  | .stillFaulty => .stillFaulty
  | .notFaulty => .notFaulty

/-- CLEAR FAULT of a switch the plan fills, by its answer and what it makes of the record found. -/
theorem State.clearFaultOf_eq {s : State} (h : s.switchLawful) {i : Nat} {w v : Switch} {a : ClearFaultAnswer}
    (hw : s.switch? i = some w) (ha : w.clearFault s.sense = (a, v)) {f : Switch → Switch} (hf : f w = v) :
    s.clearFaultOf i = (a.result, s.onSwitch i f) := by
  unfold State.clearFaultOf
  rw [hw, State.onSwitch_of_switch h hw (g := f) (by rw [ha, hf])]
  dsimp only
  rw [ha]
  cases a <;> rfl

/-- Settles O18, case by case of the switch's state and its reading. -/
theorem clearFaultReadsSense : Obligations.ClearFaultReadsSense := by
  intro id index sense s u hu hsend hplan
  have hact : s.before (.clearFault id index sense) = s.caughtUp.sensed sense := rfl
  rw [hact] at hu
  have hsense : u.sense = sense := hu ▸ rfl
  dsimp only
  rw [exec_clearFault (hu ▸ hsend) (hu ▸ hplan), ← hu]
  refine ⟨fun hnone => ?_, fun w hw hlaw => ⟨fun hst => ?_, fun hst p hc hr => ?_, fun hst hr => ?_⟩⟩
  · unfold State.clearFaultOf
    rw [hnone]
  · rw [State.clearFaultOf_eq hlaw hw (Switch.clearFault_notFaulty u.sense hst) (f := fun x => x) rfl,
      State.onSwitch_same hlaw hw rfl]
    rfl
  · rw [← hsense] at hr
    rw [State.clearFaultOf_eq hlaw hw (Switch.clearFault_cleared hst hc hr)
      (f := fun x => { x with state := .still, current := some p, faultReason := none }) rfl]
    rfl
  · rw [← hsense] at hr ⊢
    rw [State.clearFaultOf_eq hlaw hw (Switch.clearFault_stillFaulty hst hr)
      (f := fun x => { x with current := w.reading u.sense }) rfl]
    rfl

end Sys2Proof.Machine
end

section
/-! SUPPORT. The end of a settle (R17 to R19): how a switch and a pair are judged, and what the bank then holds. -/

namespace Sys2Proof.Machine

/-! ### Judging one member -/

/-- What a member that ends its settle is judged RIGHT on (R17, R18). -/
abbrev Switch.Right (sense : SenseLevels) (x : Switch) : Prop :=
  x.state ≠ .moving ∨ x.plan.sensed = false ∨ (x.commanded ≠ none ∧ x.reading sense = x.commanded)

theorem Switch.judgedRight_iff (sense : SenseLevels) (x : Switch) : x.judgedRight sense = true ↔ x.Right sense := by
  unfold Switch.judgedRight Switch.Right
  cases x.reading sense with
  | none =>
    have hno : ¬(x.commanded ≠ none ∧ none = x.commanded) := fun ⟨hn, he⟩ => hn he.symm
    rw [iff_false_intro hno]
    simp
  | some p =>
    have hsome : x.commanded ≠ none ∧ some p = x.commanded ↔ x.commanded = some p :=
      ⟨fun h => h.2.symm, fun h => ⟨by rw [h]; exact nofun, h.symm⟩⟩
    rw [hsome]
    simp [or_assoc]

theorem Switch.judgedRight_false (sense : SenseLevels) (x : Switch) : x.judgedRight sense = false ↔ ¬x.Right sense := by
  rw [← Switch.judgedRight_iff, Bool.not_eq_true]

/-- A member not RIGHT is MOVING. -/
theorem Switch.moving_of_wrong {sense : SenseLevels} {x : Switch} (h : ¬x.Right sense) : x.state = .moving :=
  not_not.mp fun hn => h (.inl hn)

/-- A member as the end of its settle leaves it (R17 to R19). -/
def Switch.settled (sense : SenseLevels) (reason : FaultReason) (x : Switch) : Switch :=
  { x.afterSettle sense reason with waiters := [] }

@[simp] theorem Switch.settled_plan (sense : SenseLevels) (reason : FaultReason) (x : Switch) :
    (x.settled sense reason).plan = x.plan := x.afterSettle_plan sense reason

theorem Switch.settled_idle {x : Switch} (sense : SenseLevels) (reason : FaultReason) (h : x.state ≠ .moving) :
    x.settled sense reason = { x with waiters := [] } := by
  rw [Switch.settled, Switch.afterSettle, if_neg h]

theorem Switch.settled_right {x : Switch} {sense : SenseLevels} (reason : FaultReason) (hm : x.state = .moving)
    (h : x.Right sense) : x.settled sense reason =
      { x with state := .still, current := x.commanded, settleLeft := 0, driveLines := none, waiters := [] } := by
  rw [Switch.settled, Switch.afterSettle, if_pos hm, if_pos (x.judgedRight_iff sense |>.mpr h)]

theorem Switch.settled_wrong {x : Switch} {sense : SenseLevels} (reason : FaultReason) (h : ¬x.Right sense) :
    x.settled sense reason =
      { x with state := .fault, current := x.reading sense, faultReason := some reason, settleLeft := 0, driveLines := none,
               waiters := [] } := by
  rw [Switch.settled, Switch.afterSettle, if_pos (Switch.moving_of_wrong h), if_neg (by rwa [Switch.judgedRight_iff])]

/-- A member whose settle time has run out, as the end of its settle leaves it. -/
theorem Switch.settled_eq {x : Switch} (sense : SenseLevels) (reason : FaultReason) (hl : x.state = .moving → x.settleLeft = 0) :
    x.settled sense reason =
      if x.state ≠ .moving then { x with waiters := [] }
      else if x.Right sense then { x with state := .still, current := x.commanded, driveLines := none, waiters := [] }
      else { x with state := .fault, current := x.reading sense, faultReason := some reason, driveLines := none, waiters := [] } := by
  by_cases hm : x.state = .moving
  · rw [if_neg (not_not.mpr hm)]
    split
    · rw [Switch.settled_right reason hm ‹_›, ← hl hm]
    · rw [Switch.settled_wrong reason ‹_›, ← hl hm]
  · rw [if_pos hm, Switch.settled_idle sense reason hm]

/-- SWITCH FAULT fires for a member that was judged wrong, and for no other (R19). -/
theorem State.fireFault_settled {t : State} {x : Switch} {sense : SenseLevels} {reason : FaultReason}
    (h : t.switch? x.plan.index = some (x.settled sense reason)) :
    t.fireFault x = if x.Right sense then t else t.fire .switchFault (.switch x.plan.index) := by
  unfold State.fireFault
  rw [h]
  dsimp only
  by_cases hr : x.Right sense
  · rw [if_pos hr, if_neg]
    rintro ⟨hf, hm⟩
    rw [Switch.settled_right reason hm hr] at hf
    cases hf
  · rw [if_neg hr, if_pos ⟨by rw [Switch.settled_wrong reason hr], Switch.moving_of_wrong hr⟩]

/-! ### A switch alone -/

theorem State.members_alone {s : State} {i : Nat} {w : Switch} (hw : s.switch? i = some w) (hp : w.plan.partner = none) :
    s.members i = [w] := by
  simp [State.members, State.partner?, hw, hp]

theorem State.members_pair {s : State} {a b : Nat} {v w : Switch} (hv : s.switch? a = some v) (hw : s.switch? b = some w)
    (hp : v.plan.partner = some b) : s.members a = [v, w] := by
  simp [State.members, State.partner?, hv, hw, hp]

/-- The outcome of a switch alone (R17). -/
def Switch.outcome (sense : SenseLevels) (w : Switch) : SettleOutcome := if w.Right sense then .right else .sense

/-- The end of the settle of a switch alone (R17, R19). -/
theorem State.endSettle_alone {s : State} {i : Nat} {w : Switch} (hw : s.switch? i = some w) (hp : w.plan.partner = none) :
    s.endSettle i =
      ({ outcome := w.outcome s.sense, switches := [i], waiters := w.waiters.dedup },
        let t := s.onSwitch i (Switch.settled s.sense .sense)
        if w.Right s.sense then t else t.fire .switchFault (.switch i)) := by
  have hi : w.plan.index = i := (State.switch_spec hw).2
  have hout : settleOutcome [w.judgedRight s.sense] = w.outcome s.sense := by
    unfold Switch.outcome
    split
    · rw [(w.judgedRight_iff s.sense).mpr ‹_›]; rfl
    · rw [(w.judgedRight_false s.sense).mpr ‹_›]; rfl
  have hreason : (if w.outcome s.sense = .skew then FaultReason.skew else .sense) = .sense := by
    unfold Switch.outcome; split <;> rfl
  have hfound : (s.onSwitch i (Switch.settled s.sense .sense)).switch? w.plan.index = some (w.settled s.sense .sense) := by
    rw [hi, State.switch_onSwitch _ _ _ _ (fun x => by simp), if_pos rfl, hw]; rfl
  unfold State.endSettle
  rw [State.members_alone hw hp]
  simp only [List.map_cons, List.map_nil, List.foldl_cons, List.foldl_nil, List.flatMap_cons, List.flatMap_nil, List.append_nil]
  rw [hout, hreason, hi]
  refine Prod.ext rfl ?_
  show (s.onSwitch i (Switch.settled s.sense .sense)).fireFault w = _
  rw [State.fireFault_settled hfound, hi]

/-! ### A pair -/

/-- The outcome of a pair (R18). -/
def pairOutcome (sense : SenseLevels) (v w : Switch) : SettleOutcome :=
  if v.Right sense ∧ w.Right sense then .right else if v.Right sense ∨ w.Right sense then .skew else .sense

/-- The fault reason of a pair's wrong member (R18). -/
def pairReason (sense : SenseLevels) (v w : Switch) : FaultReason := if pairOutcome sense v w = .skew then .skew else .sense

theorem pairReason_left {sense : SenseLevels} {v w : Switch} (h : ¬v.Right sense) :
    pairReason sense v w = if w.Right sense then .skew else .sense := by
  have hout : pairOutcome sense v w = if w.Right sense then .skew else .sense := by
    simp only [pairOutcome, iff_false_intro h, false_and, false_or, if_false]
  unfold pairReason
  rw [hout]
  split <;> rfl

theorem pairReason_right {sense : SenseLevels} {v w : Switch} (h : ¬w.Right sense) :
    pairReason sense v w = if v.Right sense then .skew else .sense := by
  have hout : pairOutcome sense v w = if v.Right sense then .skew else .sense := by
    simp only [pairOutcome, iff_false_intro h, and_false, or_false, if_false]
  unfold pairReason
  rw [hout]
  split <;> rfl

/-- A pair's member as the statement judges it: the reason of a wrong one is told by the other (R18). -/
theorem Switch.settled_pair {sense : SenseLevels} {x other : Switch} {reason : FaultReason} (hl : x.state = .moving → x.settleLeft = 0)
    (hr : ¬x.Right sense → reason = if other.Right sense then .skew else .sense) :
    x.settled sense reason =
      if x.state ≠ .moving then { x with waiters := [] }
      else if x.Right sense then { x with state := .still, current := x.commanded, driveLines := none, waiters := [] }
      else { x with state := .fault, current := x.reading sense,
                    faultReason := some (if other.Right sense then .skew else .sense), driveLines := none, waiters := [] } := by
  rw [Switch.settled_eq sense reason hl]
  by_cases h : x.Right sense
  · simp only [if_pos h]
  · rw [hr h]

/-- The bank with both members of a pair settled (R18). -/
def State.pairSettled (s : State) (a b : Nat) (reason : FaultReason) : State :=
  (s.onSwitch a (Switch.settled s.sense reason)).onSwitch b (Switch.settled s.sense reason)

theorem State.pairSettled_switch {s : State} {a b : Nat} (reason : FaultReason) (hab : a ≠ b) :
    (s.pairSettled a b reason).switch? a = (s.switch? a).map (Switch.settled s.sense reason) ∧
      (s.pairSettled a b reason).switch? b = (s.switch? b).map (Switch.settled s.sense reason) := by
  have hf : ∀ x : Switch, (x.settled s.sense reason).plan.index = x.plan.index := fun x => by simp
  unfold State.pairSettled
  simp only [State.switch_onSwitch _ _ _ _ hf, if_neg hab, if_neg hab.symm, if_true, and_self]

/-- The members are judged together, end together, and SWITCH FAULT fires for each that is wrong (R18, R19). -/
theorem State.endSettle_pair {s : State} {a b : Nat} {v w : Switch} (hab : a ≠ b) (hv : s.switch? a = some v)
    (hw : s.switch? b = some w) (hp : v.plan.partner = some b) :
    s.endSettle a =
      ({ outcome := pairOutcome s.sense v w, switches := [a, b], waiters := (v.waiters ++ w.waiters).dedup },
        let t := s.pairSettled a b (pairReason s.sense v w)
        let u := if v.Right s.sense then t else t.fire .switchFault (.switch v.plan.index)
        if w.Right s.sense then u else u.fire .switchFault (.switch w.plan.index)) := by
  have hva : v.plan.index = a := (State.switch_spec hv).2
  have hwb : w.plan.index = b := (State.switch_spec hw).2
  have hout : settleOutcome [v.judgedRight s.sense, w.judgedRight s.sense] = pairOutcome s.sense v w := by
    unfold pairOutcome
    simp only [← Switch.judgedRight_iff]
    cases v.judgedRight s.sense <;> cases w.judgedRight s.sense <;> rfl
  obtain ⟨hta, htb⟩ := s.pairSettled_switch (pairReason s.sense v w) hab
  have hfv : (s.pairSettled a b (pairReason s.sense v w)).switch? v.plan.index = some (v.settled s.sense (pairReason s.sense v w)) := by
    rw [hva, hta, hv]; rfl
  have hfw : (s.pairSettled a b (pairReason s.sense v w)).switch? w.plan.index = some (w.settled s.sense (pairReason s.sense v w)) := by
    rw [hwb, htb, hw]; rfl
  unfold State.endSettle
  rw [State.members_pair hv hw hp]
  simp only [List.map_cons, List.map_nil, List.foldl_cons, List.foldl_nil, List.flatMap_cons, List.flatMap_nil, List.append_nil]
  rw [hout, hva, hwb]
  refine Prod.ext rfl ?_
  show ((s.pairSettled a b (pairReason s.sense v w)).fireFault v).fireFault w = _
  rw [State.fireFault_settled hfv, State.fireFault_settled (x := w) (by split <;> exact hfw), hva, hwb]

/-- Settles O32, from what the end of a pair's settle leaves at each index. -/
theorem pairJudgedTogether : Obligations.PairJudgedTogether := by
  intro s a b v w hab hv hw hp _ _ hm
  have hfire : ∀ (c : Prop) [Decidable c] (t : State) (e : EventName) (x : EventSource) (i : Nat),
      (if c then t else t.fire e x).switch? i = t.switch? i := fun c _ t e x i => by split <;> rfl
  obtain ⟨hta, htb⟩ := s.pairSettled_switch (pairReason s.sense v w) hab
  have hend := State.endSettle_pair hab hv hw hp
  have ha : (s.endSettle a).2.switch? a = some (v.settled s.sense (pairReason s.sense v w)) := by
    rw [hend]; simp only [hfire, hta, hv, Option.map_some]
  have hb : (s.endSettle a).2.switch? b = some (w.settled s.sense (pairReason s.sense v w)) := by
    rw [hend]; simp only [hfire, htb, hw, Option.map_some]
  refine ⟨by rw [hend]; rfl, fun hr => ⟨_, ha, ?_⟩, fun hr => ⟨_, ha, ?_⟩, fun hr => ⟨_, hb, ?_⟩⟩
  · rw [Switch.settled_right _ hm hr]
    exact ⟨rfl, rfl, rfl⟩
  · rw [Switch.settled_wrong _ hr, pairReason_left hr]
    exact ⟨rfl, rfl, rfl⟩
  · rw [Switch.settled_wrong _ hr, pairReason_right hr]
    exact ⟨rfl, rfl⟩

/-! ### The work of a settle's end -/

/-- The end of a settle that is owed is done now, as one event. -/
theorem exec_settleEnd {s : State} {index unit : Nat} (hu : s.settleUnit index = unit) (hw : Work.settle unit ∈ s.agenda)
    (he : s.settleEnded unit = true) :
    exec (.settleEnd index) s = .next (((s.taking (.settle unit)).settleEnds unit).complete) := by
  show Host.Outcome.next (s.workNow (.settle (s.settleUnit index))) = _
  rw [hu, State.workNow, if_pos hw]
  show Host.Outcome.next (State.complete (if (s.taking (.settle unit)).settleEnded unit then _ else _)) = _
  rw [if_pos (show (s.taking (.settle unit)).settleEnded unit = true from he)]
  rfl

theorem State.movingPartner_alone {s : State} {i : Nat} {w : Switch} (hw : s.switch? i = some w) (hp : w.plan.partner = none) :
    s.movingPartner? i = none := by
  simp [State.movingPartner?, State.partner?, hw, hp]

theorem State.movingPartner_pair {s : State} {a b : Nat} {v w : Switch} (hv : s.switch? a = some v) (hw : s.switch? b = some w)
    (hp : v.plan.partner = some b) : s.movingPartner? a = if w.state = .moving then some w else none := by
  simp [State.movingPartner?, State.partner?, hv, hw, hp]

/-- The unit named by the member of the lower index, or by the one that moves alone. -/
theorem State.settleUnit_low {s : State} {a b : Nat} {v w : Switch} (hv : s.switch? a = some v) (hw : s.switch? b = some w)
    (hp : v.plan.partner = some b) (h : w.state = .moving → a < b) : s.settleUnit a = a := by
  rw [State.settleUnit, State.movingPartner_pair hv hw hp]
  by_cases hm : w.state = .moving
  · rw [if_pos hm]
    dsimp only
    rw [(State.switch_spec hw).2, Nat.min_eq_left (h hm).le]
  · rw [if_neg hm]

/-- The unit named by the member of the higher index. -/
theorem State.settleUnit_high {s : State} {a b : Nat} {v w : Switch} (hv : s.switch? a = some v) (hw : s.switch? b = some w)
    (hp : w.plan.partner = some a) (hm : v.state = .moving) (h : a < b) : s.settleUnit b = a := by
  rw [State.settleUnit, State.movingPartner_pair hw hv hp, if_pos hm]
  dsimp only
  rw [(State.switch_spec hv).2, Nat.min_eq_right h.le]

theorem State.settleEnded_pair {s : State} {a b : Nat} {v w : Switch} (hv : s.switch? a = some v) (hw : s.switch? b = some w)
    (hp : v.plan.partner = some b) (hm : v.state = .moving) (hl : v.settleLeft = 0) (h : w.state = .moving → w.settleLeft = 0) :
    s.settleEnded a = true := by
  rw [State.settleEnded, hv, State.movingPartner_pair hv hw hp]
  by_cases hwm : w.state = .moving
  · simp [hm, hl, hwm, h hwm]
  · simp [hm, hl, hwm]

/-- Two members changed each by its own record. -/
theorem State.onSwitch_pair {s : State} (h : s.switchLawful) {a b : Nat} {v w : Switch} (hab : a ≠ b)
    (hv : s.switch? a = some v) (hw : s.switch? b = some w) {f g : Switch → Switch} (hf : (f v).plan.index = v.plan.index) :
    (s.onSwitch a f).onSwitch b g =
      { s with sbc := s.sbc.map (fun x => if x.plan.index = a then f v else if x.plan.index = b then g w else x) } := by
  have hfound : ∀ x ∈ s.sbc, ∀ i y, x.plan.index = i → s.switch? i = some y → x = y := fun x hx i y hi hy => by
    have := State.switch_of_mem h hx
    rw [hi, hy] at this
    exact (Option.some.inj this).symm
  simp only [State.onSwitch, List.map_map]
  congr 1
  refine List.map_congr_left fun x hx => ?_
  simp only [Function.comp]
  by_cases hxa : x.plan.index = a
  · obtain rfl := hfound x hx a v hxa hv
    rw [if_pos hxa, if_pos hxa, if_neg (by rw [hf, hxa]; exact hab)]
  · rw [if_neg hxa, if_neg hxa]
    split
    · rw [hfound x hx b w ‹_› hw]
    · rfl

/-- Settles O31: the unit named is the one owed, its settle has run out, and `endSettle_alone` and `endSettle_pair` say how it is
judged. -/
theorem settleEndJudgesSwitch : Obligations.SettleEndJudgesSwitch := by
  refine ⟨fun index s u w hwork hu hw hp hm hl hlaw => ?_,
    fun index a b s u v w hwork hu hab hv hw hpv hpw hlaw hm hl hboth hidx => ?_⟩
  · have hunit : s.settleUnit index = index := by
      rw [State.settleUnit, State.movingPartner_alone hw hp]
    have hended : s.settleEnded index = true := by
      simp [State.settleEnded, hw, hm, hl, State.movingPartner_alone hw hp]
    have huw : u.switch? index = some w := hu ▸ hw
    dsimp only
    rw [exec_settleEnd hunit hwork hended, ← hu, State.settleEnds, State.endSettle_alone huw hp, Switch.outcome,
      show s.sense = u.sense from hu ▸ rfl]
    refine ⟨fun hr => ?_, fun hse hr => ?_⟩
    · have hright : w.Right u.sense := .inr hr
      rw [State.onSwitch_of_switch (hu ▸ hlaw) huw
        (g := fun x => { x with state := .still, current := x.commanded, driveLines := none, waiters := [] })
        (by rw [Switch.settled_right _ hm hright, ← hl]), if_pos hright, if_pos hright]
      rfl
    · have hwrong : ¬w.Right u.sense := by
        rintro (h | h | ⟨hc, he⟩)
        · exact h hm
        · rw [hse] at h; cases h
        · rcases hr with hr | hr
          · exact hc (he ▸ hr)
          · exact hr he
      rw [State.onSwitch_of_switch (hu ▸ hlaw) huw
        (g := fun x => { x with state := .fault, current := w.reading u.sense, faultReason := some .sense, driveLines := none,
                                waiters := [] })
        (by rw [Switch.settled_wrong _ hwrong, ← hl]), if_neg hwrong, if_neg hwrong]
      rfl
  · have hunit : s.settleUnit index = a := by
      rcases hidx with rfl | ⟨rfl, hwm⟩
      · exact State.settleUnit_low hv hw hpv fun h => (hboth h).2
      · exact State.settleUnit_high hv hw hpw hm (hboth hwm).2
    have hended : s.settleEnded a = true := State.settleEnded_pair hv hw hpv hm hl fun h => (hboth h).1
    have huv : u.switch? a = some v := hu ▸ hv
    have huw : u.switch? b = some w := hu ▸ hw
    have hbank : u.pairSettled a b (pairReason u.sense v w) = _ :=
      State.onSwitch_pair (hu ▸ hlaw) hab huv huw (by simp)
    rw [Switch.settled_pair (fun _ => hl) pairReason_left, Switch.settled_pair (fun h => (hboth h).1) pairReason_right] at hbank
    dsimp only
    rw [exec_settleEnd hunit hwork hended, ← hu, State.settleEnds, State.endSettle_pair hab huv huw hpv, hbank,
      show s.sense = u.sense from hu ▸ rfl]
    rfl

end Sys2Proof.Machine
end

section
/-! SUPPORT. The covered set of a claim check, the steps of the test of one switch, and the check taken whole (R5 to R8). -/

namespace Sys2Proof.Machine

/-! ### The covered set (R5) -/

theorem State.coveredSet_none {s : State} {make : Nat} (h : s.route? make = none) (trimHere : Bool) :
    s.coveredSet make trimHere = [] := by
  unfold State.coveredSet
  rw [h]

theorem State.mem_coveredSet {s : State} {make : Nat} {r : Route} (hr : s.route? make = some r) {trimHere : Bool} {i : Nat}
    {p : Option Nat} :
    (i, p) ∈ s.coveredSet make trimHere ↔
      (∃ st ∈ r.plan.settings, st.switch = i ∧ p = some st.position) ∨
      (∃ st ∈ r.plan.settings, s.partner? st.switch = some i ∧ i ∉ r.plan.settings.map Setting.switch ∧ p = some st.position) ∨
      ((trimHere = true ∧ r.plan.trimAttenuator = some i) ∧ p = none) := by
  rw [State.coveredSet_eq hr, List.mem_append, ← or_assoc]
  refine or_congr ?_ ?_
  · simp only [List.mem_flatMap, List.mem_map, State.coveredBy_spec, Prod.mk.injEq]
    constructor
    · rintro ⟨st, hst, _, rfl | ⟨hp, hn⟩, rfl, rfl⟩
      · exact .inl ⟨st, hst, rfl, rfl⟩
      · exact .inr ⟨st, hst, hp, hn, rfl⟩
    · rintro (⟨st, hst, rfl, rfl⟩ | ⟨st, hst, hp, hn, rfl⟩)
      · exact ⟨st, hst, _, .inl rfl, rfl, rfl⟩
      · exact ⟨st, hst, _, .inr ⟨hp, hn⟩, rfl, rfl⟩
  · cases trimHere <;> simp [Option.mem_toList, eq_comm]

/-- The places of the settings' own switches, in the settings' order. -/
theorem State.coveredSet_named {s : State} {make : Nat} {r : Route} (hr : s.route? make = some r) {trimHere : Bool}
    (hatt : ∀ a, trimHere = true ∧ r.plan.trimAttenuator = some a → ¬∃ st ∈ r.plan.settings, st.switch = a) :
    (s.coveredSet make trimHere).filter (fun q => decide (∃ st ∈ r.plan.settings, st.switch = q.1)) =
      r.plan.settings.map (fun st => (st.switch, some st.position)) := by
  have hone : ∀ st ∈ r.plan.settings,
      ((s.coveredBy (r.plan.settings.map Setting.switch) st).map (·, some st.position)).filter
        (fun q => decide (∃ x ∈ r.plan.settings, x.switch = q.1)) = [(st.switch, some st.position)] := by
    intro st hst
    rw [State.coveredBy, List.map_cons, List.filter_cons_of_pos (by simpa using ⟨st, hst, rfl⟩), List.filter_eq_nil_iff.mpr]
    intro q hq
    obtain ⟨i, hi, rfl⟩ := List.mem_map.mp hq
    have hno := (List.mem_filter.mp hi).2
    rw [decide_eq_true_eq, List.mem_map] at hno
    simpa using hno
  rw [State.coveredSet_eq hr, List.filter_append, List.filter_flatMap, List.flatMap_congr hone, ← List.map_eq_flatMap,
    List.filter_eq_nil_iff.mpr, List.append_nil]
  intro q hq
  obtain ⟨a, ha, rfl⟩ := List.mem_map.mp hq
  rw [decide_eq_true_eq]
  refine hatt a ?_
  cases trimHere
  · cases ha
  · exact ⟨rfl, Option.mem_toList.mp ha⟩

/-- The partner no setting names stands directly after its setting's switch. -/
theorem State.coveredSet_partner {s : State} {make : Nat} {r : Route} (hr : s.route? make = some r) (trimHere : Bool) {st : Setting}
    (hst : st ∈ r.plan.settings) {i : Nat} (hp : s.partner? st.switch = some i) (hn : i ∉ r.plan.settings.map Setting.switch) :
    [(st.switch, some st.position), (i, some st.position)] <:+: s.coveredSet make trimHere := by
  have hby : s.coveredBy (r.plan.settings.map Setting.switch) st = [st.switch, i] := by
    rw [State.coveredBy, hp, Option.toList_some, List.filter_cons_of_pos (by simpa using hn), List.filter_nil]
  rw [State.coveredSet_eq hr]
  obtain ⟨pre, post, e⟩ := List.append_of_mem hst
  refine List.IsInfix.trans ?_ (List.prefix_append _ _).isInfix
  generalize s.coveredBy (r.plan.settings.map Setting.switch) = by' at hby
  rw [e, List.flatMap_append, List.flatMap_cons, hby]
  exact ⟨_, _, by rw [List.append_assoc]; rfl⟩

/-- The trim attenuator stands last. -/
theorem State.coveredSet_trim {s : State} {make : Nat} {r : Route} (hr : s.route? make = some r) {trimHere : Bool} {a : Nat}
    (h : trimHere = true ∧ r.plan.trimAttenuator = some a) : [(a, none)] <:+ s.coveredSet make trimHere := by
  rw [State.coveredSet_eq hr, if_pos h.1, h.2]
  exact List.suffix_append _ _

/-! ### The test of a switch (R6) -/

theorem State.testSwitch_absent {s : State} {i : Nat} (h : s.switch? i = none) (brk want : Option Nat) :
    s.testSwitch brk i want = none := by
  unfold State.testSwitch
  rw [h]

theorem Claim.excluded_false (brk : Option Nat) (c : Claim) :
    c.excluded brk = false ↔ ¬∃ b, brk = some b ∧ c.holder = .established b := by
  rw [← Claim.excluded_iff, Bool.not_eq_true]

/-- Held, in the words of R6. -/
theorem Switch.heldFor_iff (w : Switch) (brk want : Option Nat) : w.heldFor brk want ↔
    (∃ p, want = some p ∧ ∃ c ∈ w.claims,
      (¬(∃ b, brk = some b ∧ c.holder = .established b) ∧ c.position ≠ some p) ∨ ∃ u ∈ c.successor, u.position ≠ some p) ∨
    (want = none ∧ ∃ c ∈ w.claims, ¬∃ b, brk = some b ∧ c.holder = .established b) := by
  simp only [Switch.heldFor, Claim.excluded_false]

/-- Full, in the words of R6. -/
theorem Switch.full_iff (w : Switch) (brk : Option Nat) :
    Config.claimsFull ≤ (w.claims.filter (fun c => !c.excluded brk)).length ↔
      4 ≤ (w.claims.filter (fun c => decide (∀ b ∈ brk, c.holder ≠ .established b))).length := by
  have hfilter : w.claims.filter (fun c => !c.excluded brk) =
      w.claims.filter (fun c => decide (∀ b ∈ brk, c.holder ≠ .established b)) := by
    refine List.filter_congr fun c _ => ?_
    rw [Bool.eq_iff_iff, Bool.not_eq_true', Claim.excluded_false, decide_eq_true_eq]
    simp
  rw [hfilter]
  rfl

/-- A successor already there, in the words of R8. -/
theorem Switch.taken_iff (w : Switch) (brk : Option Nat) :
    (∃ c ∈ w.claims, c.excluded brk = true ∧ c.successor ≠ none) ↔
      ∃ c ∈ w.claims, (∃ b, brk = some b ∧ c.holder = .established b) ∧ c.successor ≠ none := by
  simp only [Claim.excluded_iff]

/-! ### The check taken whole (R7) -/

theorem State.claimCheck_first {s : State} {g : Tag} {make : Nat} {brk : Option Nat} {trimHere : Bool} {why : ObjectReason}
    {pre post : List (Nat × Option Nat)} {i : Nat} {p : Option Nat} (e : s.coveredSet make trimHere = pre ++ (i, p) :: post)
    (hpre : ∀ q ∈ pre, s.testSwitch brk q.1 q.2 = none) (h : s.testSwitch brk i p = some why) :
    s.claimCheck g make brk trimHere = (some why, s) := by
  refine State.claimCheck_fails ?_
  rw [e, List.findSome?_append, List.findSome?_eq_none_iff.mpr hpre, Option.none_or, List.findSome?_cons_of_isSome]
  · exact h
  · rw [h]; rfl

/-- A grant leaves every entry's holder and position at its place, adds at most one entry, and gives the tag its claim (R8). -/
theorem Switch.grant_entries (g : Tag) (brk p : Option Nat) (w : Switch) :
    w.claims.map (fun c => (c.holder, c.position)) <+: (w.grant g brk p).claims.map (fun c => (c.holder, c.position)) ∧
      (w.grant g brk p).claims.length ≤ w.claims.length + 1 ∧
      ((∃ c ∈ (w.grant g brk p).claims, c.holder = .pending g ∧ c.position = p) ∨
        ∃ c ∈ (w.grant g brk p).claims, ∃ b, brk = some b ∧ c.holder = .established b ∧
          c.successor = some { tag := g, position := p }) := by
  rw [Switch.grant_claims]
  split
  · rename_i h
    obtain ⟨c, hc, he⟩ := List.any_eq_true.mp h
    obtain ⟨b, hb, hh⟩ := (Claim.excluded_iff brk c).mp he
    refine ⟨?_, by simp, .inr ⟨_, List.mem_map.mpr ⟨c, hc, rfl⟩, b, hb, by simpa using hh, ?_⟩⟩
    · simp [List.map_map, Function.comp_def]
    · rw [Claim.succeeded, if_pos he]
  · refine ⟨?_, by simp, .inl ⟨_, List.mem_append_right _ (List.mem_singleton.mpr rfl), rfl, rfl⟩⟩
    rw [List.map_append]
    exact ⟨_, rfl⟩

theorem Switch.grantBy_index (g : Tag) (brk : Option Nat) (covered : List (Nat × Option Nat)) (w : Switch) :
    (w.grantBy g brk covered).plan.index = w.plan.index := by
  unfold Switch.grantBy Switch.updateBy
  split <;> simp

/-- The grants leave every switch that is not covered. -/
theorem State.grants_elsewhere {s : State} {g : Tag} {brk : Option Nat} {covered : List (Nat × Option Nat)} {i : Nat}
    (h : i ∉ covered.map Prod.fst) : (s.onSwitches (Switch.grantBy g brk covered)).switch? i = s.switch? i := by
  rw [State.switch_onSwitches _ _ _ (Switch.grantBy_index g brk covered)]
  cases hw : s.switch? i with
  | none => rfl
  | some w =>
    rw [Option.map_some, Switch.grantBy, Switch.updateBy_of_notMem (by rwa [(State.switch_spec hw).2])]

/-- The grants give a covered switch its own. -/
theorem State.grants_switch {s : State} {g : Tag} {brk p : Option Nat} {covered : List (Nat × Option Nat)} {i : Nat} {w : Switch}
    (hn : (covered.map Prod.fst).Nodup) (hq : (i, p) ∈ covered) (hw : s.switch? i = some w) :
    (s.onSwitches (Switch.grantBy g brk covered)).switch? i = some (w.grant g brk p) := by
  rw [State.switch_onSwitches _ _ _ (Switch.grantBy_index g brk covered), hw, Option.map_some, Switch.grantBy,
    Switch.updateBy_of_mem hn hq (State.switch_spec hw).2.symm]

/-- Settles O39: the covered set by its places, the test by its steps, and the check by its first failing switch or its grants. -/
theorem claimCheckTakenWhole : Obligations.ClaimCheckTakenWhole := by
  refine ⟨fun s make trimHere => ⟨fun h => State.coveredSet_none h _, fun r hr => ⟨fun i p => ?_, fun hatt => ?_,
      fun st hst i hp hn => ?_, fun a ha => State.coveredSet_trim hr ha⟩⟩,
    fun s brk i want => ⟨fun h => State.testSwitch_absent h _ _, fun w hw => ?_⟩,
    fun s g make brk trimHere => ⟨fun pre i p post why e hpre h => State.claimCheck_first e hpre h, fun ht hn => ?_⟩⟩
  · rw [State.mem_coveredSet hr]
    simp only [List.mem_map]
  · exact State.coveredSet_named hr hatt
  · exact State.coveredSet_partner hr _ hst hp (fun h => hn (List.mem_map.mp h))
  · have hheld := w.heldFor_iff brk want
    have hfull := w.full_iff brk
    have htaken := w.taken_iff brk
    rw [State.testSwitch_eq hw]
    exact ⟨fun hf => if_pos hf, fun hf hh => (if_neg hf).trans (if_pos (hheld.mpr hh)),
      fun hf hh hr => (if_neg hf).trans ((if_neg (mt hheld.mp hh)).trans (if_pos (hfull.mpr hr))),
      fun hf hh hr hs => (if_neg hf).trans ((if_neg (mt hheld.mp hh)).trans ((if_neg (mt hfull.mp hr)).trans
        (if_pos (htaken.mpr hs)))),
      fun hf hh hr hs => (if_neg hf).trans ((if_neg (mt hheld.mp hh)).trans ((if_neg (mt hfull.mp hr)).trans
        (if_neg (mt htaken.mp hs))))⟩
  · have hcheck := State.claimCheck_passes (g := g) ht hn
    refine ⟨by rw [hcheck], s.claimCheck_rest g make brk trimHere, s.claimCheck_bare g make brk trimHere, fun i hi => ?_,
      fun i p w hq hw => ?_⟩
    · rw [hcheck]
      exact State.grants_elsewhere hi
    · obtain ⟨hstate, haccepts⟩ := State.testSwitch_none hw (ht _ hq)
      obtain ⟨hentries, hlength, hclaim⟩ := w.grant_entries g brk p
      refine ⟨_, by rw [hcheck]; exact State.grants_switch hn hq hw, hentries, hlength, hstate, fun x hx c hc hb => ?_, hclaim⟩
      exact haccepts.entries x hx c hc ((c.excluded_false brk).mpr fun ⟨b, hb', he⟩ => hb b hb' he)

end Sys2Proof.Machine
end

section
/-! SUPPORT. A drive request: its answer by the state of the members, what it makes of each, and what it fires (R13 to R15, R20,
R21). -/

namespace Sys2Proof.Machine

/-! ### The answer (R13) -/

/-- A switch STILL at the position wanted (R13). -/
abbrev Switch.There (p : Nat) (w : Switch) : Prop := w.state = .still ∧ w.current = some p

/-- A switch MOVING to the position wanted (R13). -/
abbrev Switch.OnItsWay (p : Nat) (w : Switch) : Prop := w.state = .moving ∧ w.commanded = some p

theorem Switch.stillAt_iff (p : Nat) (w : Switch) : w.stillAt p = true ↔ w.There p := by simp [Switch.stillAt, Switch.There]

theorem Switch.movingTo_iff (p : Nat) (w : Switch) : w.movingTo p = true ↔ w.OnItsWay p := by
  simp [Switch.movingTo, Switch.OnItsWay]

/-- The tag's claim on a switch at a position (R13). -/
def State.ClaimsAt (s : State) (g : Tag) (i p : Nat) : Prop :=
  ∃ w, s.switch? i = some w ∧ ∃ c ∈ w.claims, c.holder = .pending g ∧ c.position = some p

/-- The members of a drive, each driven, redirected or left alone (R13 to R15). -/
def State.driveMembers (s : State) (g : Tag) (i p : Nat) (hot : Bool) : State :=
  (s.members i).foldl (fun s w => s.onSwitch w.plan.index (Switch.driveMember g p hot)) s

/-- What a DRIVEN answer leaves: the members driven, HOT MOVE fired at a HOT detector, WORN for each member first worn (R20, R21). -/
def State.drivenState (s : State) (g : Tag) (i p : Nat) : State :=
  (s.members i).foldl State.fireWorn
    (if s.rfg.hotTest g then (s.driveMembers g i p (s.rfg.hotTest g)).fire .hotMove (.switch i)
     else s.driveMembers g i p (s.rfg.hotTest g))

open Classical in
/-- The answer to a drive request, in the order of R13. -/
theorem State.drive_eq (s : State) (g : Tag) (m : Bool) (i p : Nat) :
    s.drive g m i p =
      if ¬(m = true ∧ s.ClaimsAt g i p) then (.refused, s)
      else if ∃ w ∈ s.members i, w.state = .fault then
        (.fault (if ∃ w ∈ s.members i, w.faultReason = some .sense then .sense else .skew), s)
      else if ∀ w ∈ s.members i, w.There p then (.atPosition, s)
      else if ∀ w ∈ s.members i, w.There p ∨ w.OnItsWay p then (.wait, s.driveMembers g i p false)
      else (.driven (s.rfg.hotTest g), s.drivenState g i p) := by
  have hclaim : (!(m && (match s.switch? i with
      | some w => w.claims.any (fun c => c.holder == .pending g && c.position == some p)
      | none => false))) = true ↔ ¬(m = true ∧ s.ClaimsAt g i p) := by
    unfold State.ClaimsAt
    cases s.switch? i <;> simp [imp_iff_not_or]
  have hfault : (s.members i).any (fun w => w.state == .fault) = true ↔ ∃ w ∈ s.members i, w.state = .fault := by simp
  have hsense : (s.members i).any (fun w => w.faultReason == some .sense) = true ↔
      ∃ w ∈ s.members i, w.faultReason = some .sense := by simp
  have hthere : (s.members i).all (Switch.stillAt p) = true ↔ ∀ w ∈ s.members i, w.There p := by
    simp only [List.all_eq_true, Switch.stillAt_iff]
  have hway : (s.members i).all (fun w => w.stillAt p || w.movingTo p) = true ↔
      ∀ w ∈ s.members i, w.There p ∨ w.OnItsWay p := by
    simp only [List.all_eq_true, Bool.or_eq_true, Switch.stillAt_iff, Switch.movingTo_iff]
  unfold State.drive
  simp only [← hclaim, ← hfault, ← hsense, ← hthere, ← hway] <;> rfl

/-! ### The members under a drive -/

/-- The waiters of a switch with a tag among them (R2). -/
def Switch.waitersWith (g : Tag) (w : Switch) : List Tag := if g ∈ w.waiters then w.waiters else w.waiters ++ [g]

theorem Switch.addWaiter_eq (g : Tag) (w : Switch) : w.addWaiter g = { w with waiters := w.waitersWith g } := by
  unfold Switch.addWaiter Switch.waitersWith; split <;> rfl

theorem Switch.driveMember_there {g : Tag} {p : Nat} {hot : Bool} {w : Switch} (h : w.There p) : w.driveMember g p hot = w := by
  rw [Switch.driveMember, if_pos (w.stillAt_iff p |>.mpr h)]

theorem Switch.driveMember_onItsWay {g : Tag} {p : Nat} {hot : Bool} {w : Switch} (h : w.OnItsWay p) :
    w.driveMember g p hot = { w with waiters := w.waitersWith g } := by
  have hnot : ¬w.There p := fun e => absurd (h.1.symm.trans e.1) nofun
  rw [Switch.driveMember, if_neg (by rwa [Switch.stillAt_iff]), if_pos (w.movingTo_iff p |>.mpr h), Switch.addWaiter_eq]

theorem Switch.driveMember_driven {g : Tag} {p : Nat} {hot : Bool} {w : Switch} (h : ¬w.There p) (hm : ¬w.OnItsWay p) :
    w.driveMember g p hot = { w.applyDrive p hot with waiters := w.waitersWith g } := by
  rw [Switch.driveMember, if_neg (by rwa [Switch.stillAt_iff]), if_neg (by rwa [Switch.movingTo_iff]), Switch.addWaiter_eq]
  rfl

theorem Switch.mem_waitersWith (g : Tag) (w : Switch) : g ∈ w.waitersWith g := by
  unfold Switch.waitersWith; split <;> simp [*]

/-- A member on its way for which the tag waits already is left alone. -/
theorem Switch.driveMember_waiting {g : Tag} {p : Nat} (hot : Bool) {w : Switch} (h : w.OnItsWay p) (hg : g ∈ w.waiters) :
    w.driveMember g p hot = w := by
  rw [Switch.driveMember_onItsWay h, Switch.waitersWith, if_pos hg]

/-- A member driven twice by one request is driven once. -/
theorem Switch.driveMember_again (g : Tag) (p : Nat) (hot : Bool) (w : Switch) :
    (w.driveMember g p hot).driveMember g p hot = w.driveMember g p hot := by
  by_cases ht : w.There p
  · rw [Switch.driveMember_there ht, Switch.driveMember_there ht]
  · by_cases hm : w.OnItsWay p
    · rw [Switch.driveMember_onItsWay hm]
      exact Switch.driveMember_waiting hot (w := { w with waiters := w.waitersWith g }) hm (w.mem_waitersWith g)
    · rw [Switch.driveMember_driven ht hm]
      exact Switch.driveMember_waiting hot (w := { w.applyDrive p hot with waiters := w.waitersWith g }) ⟨rfl, rfl⟩
        (w.mem_waitersWith g)

/-- One change made at each of several indices, where making it twice is making it once. -/
theorem State.foldl_onSwitch_switch {f : Switch → Switch} (hf : ∀ w, (f w).plan.index = w.plan.index) (hff : ∀ w, f (f w) = f w)
    (i : Nat) : ∀ (l : List Switch) (s : State),
      (l.foldl (fun s w => s.onSwitch w.plan.index f) s).switch? i =
        if ∃ w ∈ l, w.plan.index = i then (s.switch? i).map f else s.switch? i
  | [], s => by simp
  | a :: l, s => by
    rw [List.foldl_cons, State.foldl_onSwitch_switch hf hff i l, State.switch_onSwitch _ _ _ _ hf]
    by_cases ha : a.plan.index = i
    · have htwice : ((s.switch? i).map f).map f = (s.switch? i).map f := by
        rw [Option.map_map]; exact congrArg (Option.map · _) (funext hff)
      simp [ha, htwice]
    · have : i ≠ a.plan.index := fun e => ha e.symm
      simp [ha, this]

theorem State.mem_members {s : State} {i : Nat} {w : Switch} (h : w ∈ s.members i) : s.switch? w.plan.index = some w := by
  obtain ⟨j, _, hj⟩ := List.mem_filterMap.mp h
  rw [(State.switch_spec hj).2]
  exact hj

theorem State.driveMembers_member {s : State} {g : Tag} {i p : Nat} {hot : Bool} {w : Switch} (hw : w ∈ s.members i) :
    (s.driveMembers g i p hot).switch? w.plan.index = some (w.driveMember g p hot) := by
  rw [State.driveMembers, State.foldl_onSwitch_switch (fun w => by simp) (Switch.driveMember_again g p hot), if_pos ⟨w, hw, rfl⟩,
    State.mem_members hw]
  rfl

theorem State.driveMembers_other {s : State} {g : Tag} {i p : Nat} {hot : Bool} {j : Nat}
    (h : ∀ w ∈ s.members i, w.plan.index ≠ j) : (s.driveMembers g i p hot).switch? j = s.switch? j := by
  rw [State.driveMembers, State.foldl_onSwitch_switch (fun w => by simp) (Switch.driveMember_again g p hot), if_neg]
  rintro ⟨w, hw, e⟩
  exact h w hw e

theorem State.driveMembers_ctp (s : State) (g : Tag) (i p : Nat) (hot : Bool) : (s.driveMembers g i p hot).ctp = s.ctp :=
  foldl_keeps _ State.ctp (by intros; rfl) _ s

/-! ### The firings of a drive -/

theorem State.fireWorn_sbc (s : State) (w : Switch) : (s.fireWorn w).sbc = s.sbc := by
  unfold State.fireWorn; repeat' split
  all_goals rfl

theorem State.switch_of_sbc {s t : State} (h : t.sbc = s.sbc) (i : Nat) : t.switch? i = s.switch? i := by
  unfold State.switch?; rw [h]

/-- An event of another name keeps what it says whatever becomes WORN. -/
theorem State.fireWorn_other {n : EventName} (hn : n ≠ .worn) {q : EventStatus → Prop} :
    ∀ (l : List Switch) (s : State), (∀ e ∈ s.ctp.events, e.name = n → q e) →
      ∀ e ∈ (l.foldl State.fireWorn s).ctp.events, e.name = n → q e := by
  intro l s h
  refine List.foldlRecOn l _ (motive := fun u : State => ∀ e ∈ u.ctp.events, e.name = n → q e) h fun u hu w _ e he hen => ?_
  unfold State.fireWorn at he
  split at he
  · split at he
    · exact hu e (State.fire_other he (by rw [hen]; exact hn)) hen
    · exact hu e he hen
  · exact hu e he hen

theorem State.fireWorn_raised_keeps {s : State} (h : ∀ e ∈ s.ctp.events, e.name = .worn → e.raised = true) (w : Switch) :
    ∀ e ∈ (s.fireWorn w).ctp.events, e.name = .worn → e.raised = true := by
  unfold State.fireWorn
  split
  · split
    · exact State.fire_keeps_raised h _ _
    · exact h
  · exact h

/-- WORN is raised after a drive that first makes a member worn (R21). -/
theorem State.foldl_fireWorn_raised {w v : Switch} (hv : v.worn = true) (hw : w.worn = false) {l : List Switch} (hl : w ∈ l)
    {s : State} (hs : s.switch? w.plan.index = some v) :
    ∀ e ∈ (l.foldl State.fireWorn s).ctp.events, e.name = .worn → e.raised = true := by
  obtain ⟨pre, post, rfl⟩ := List.append_of_mem hl
  rw [List.foldl_append, List.foldl_cons]
  generalize hu : pre.foldl State.fireWorn s = u
  have hus : u.switch? w.plan.index = some v :=
    (State.switch_of_sbc (hu ▸ foldl_keeps _ State.sbc State.fireWorn_sbc pre s) _).trans hs
  have hfire : u.fireWorn w = u.fire .worn (.switch w.plan.index) := by
    unfold State.fireWorn; rw [hus]; simp [hv, hw]
  refine List.foldlRecOn post _ (motive := fun u : State => ∀ e ∈ u.ctp.events, e.name = .worn → e.raised = true) ?_
    fun u hu b _ => State.fireWorn_raised_keeps hu b
  rw [hfire]
  exact fun e he hn => (State.fire_raised he hn).1

theorem State.drivenState_switch (s : State) (g : Tag) (i p j : Nat) :
    (s.drivenState g i p).switch? j = (s.driveMembers g i p (s.rfg.hotTest g)).switch? j := by
  refine State.switch_of_sbc ?_ j
  rw [State.drivenState, foldl_keeps _ State.sbc State.fireWorn_sbc]
  split <;> rfl

theorem State.drivenState_hotMove {s : State} {g : Tag} {i p : Nat} (h : s.rfg.hotTest g = true) :
    ∀ e ∈ (s.drivenState g i p).ctp.events, e.name = .hotMove → e.raised = true ∧ e.source = some (.switch i) := by
  refine State.fireWorn_other (n := .hotMove) nofun _ _ fun e he hn => ?_
  rw [if_pos h] at he
  exact State.fire_raised he hn

theorem State.drivenState_worn {s : State} {g : Tag} {i p : Nat} {w : Switch} (hw : w ∈ s.members i)
    (hn : w.worn = false) (hv : (w.driveMember g p (s.rfg.hotTest g)).worn = true) :
    ∀ e ∈ (s.drivenState g i p).ctp.events, e.name = .worn → e.raised = true := by
  refine State.foldl_fireWorn_raised hv hn hw ?_
  split <;> exact State.driveMembers_member hw

theorem wornAt_iff (limit : Option Nat) (n : Nat) : wornAt limit n = true ↔ ∃ m, limit = some m ∧ m ≤ n := by
  cases limit <;> simp [wornAt]

theorem Rfg.hotTest_iff (g : Rfg) (tag : Tag) :
    g.hotTest tag = true ↔ ∃ e, g.entry? tag = some e ∧ ∃ i ∈ e.detectors, g.inputHot i = true := by
  unfold Rfg.hotTest
  cases g.entry? tag <;> simp [Rfg.entryHot]

/-- A drive leaves every switch that is no member of its unit (R13). -/
theorem State.drive_other {s : State} {g : Tag} {m : Bool} {i p j : Nat} (h : ∀ w ∈ s.members i, w.plan.index ≠ j) :
    (s.drive g m i p).2.switch? j = s.switch? j := by
  rw [State.drive_eq]
  split <;> [rfl; skip]
  split <;> [rfl; skip]
  split <;> [rfl; skip]
  split
  · exact State.driveMembers_other h
  · exact (s.drivenState_switch g i p j).trans (State.driveMembers_other h)

/-- Settles O41: the answer by `State.drive_eq`, each member by what `Switch.driveMember` makes of it. -/
theorem driveAnswersByState : Obligations.DriveAnswersByState := by
  intro s g m i p
  dsimp only
  refine ⟨fun h => ?_, fun hm hc hf => ?_, fun hm hc ht => ?_, fun hm hc hw hn => ?_, fun hm hc hf hn => ?_,
    fun j hj => State.drive_other hj, s.drive_rest g m i p⟩
  · have hno : ¬(m = true ∧ s.ClaimsAt g i p) := by
      rintro ⟨hm, hc⟩
      rcases h with h | h
      · rw [hm] at h; cases h
      · exact h hc
    rw [State.drive_eq, if_pos hno]
    exact ⟨rfl, rfl⟩
  all_goals have hyes : ¬¬(m = true ∧ s.ClaimsAt g i p) := not_not.mpr ⟨hm, hc⟩
  · rw [State.drive_eq, if_neg hyes, if_pos hf]
    refine ⟨⟨_, rfl, ?_⟩, rfl⟩
    split <;> simp [*]
  · have hf : ¬∃ w ∈ s.members i, w.state = .fault := fun ⟨w, hw, e⟩ => absurd ((ht w hw).1.symm.trans e) nofun
    rw [State.drive_eq, if_neg hyes, if_neg hf, if_pos ht]
    exact ⟨rfl, rfl⟩
  · have hf : ¬∃ w ∈ s.members i, w.state = .fault := by
      rintro ⟨w, hmem, e⟩
      rcases hw w hmem with h | h
      · exact absurd (h.1.symm.trans e) nofun
      · exact absurd (h.1.symm.trans e) nofun
    rw [State.drive_eq, if_neg hyes, if_neg hf, if_neg (not_forall₂.mpr (hn.imp fun _ h => ⟨h.1, h.2⟩)), if_pos hw]
    refine ⟨rfl, s.driveMembers_ctp g i p false, fun w hmem => ?_⟩
    rw [State.driveMembers_member hmem]
    rcases hw w hmem with h | h
    · have hne : w.state ≠ .moving := fun e => absurd (h.1.symm.trans e) nofun
      rw [Switch.driveMember_there h, if_neg hne]
    · rw [Switch.driveMember_onItsWay h, if_pos h.1]
      rfl
  · have hnot : ¬∀ w ∈ s.members i, w.There p ∨ w.OnItsWay p :=
      fun h => hn.elim fun w hw => (h w hw.1).elim hw.2.1 hw.2.2
    rw [State.drive_eq, if_neg hyes, if_neg (fun ⟨w, hw, e⟩ => hf w hw e), if_neg (fun h => hnot fun w hw => .inl (h w hw)),
      if_neg hnot]
    refine ⟨_, rfl, s.rfg.hotTest_iff g, State.drivenState_hotMove, fun w hw => ?_⟩
    have hfound : (s.drivenState g i p).switch? w.plan.index = some (w.driveMember g p (s.rfg.hotTest g)) :=
      (s.drivenState_switch g i p _).trans (State.driveMembers_member hw)
    refine ⟨fun ht => ?_, fun hm => ?_, fun ht hm => ?_⟩
    · rw [hfound, Switch.driveMember_there ht]
    · rw [hfound, Switch.driveMember_onItsWay hm]
      rfl
    · have hdriven := Switch.driveMember_driven (g := g) (hot := s.rfg.hotTest g) ht hm
      refine ⟨_, by rw [hfound, hdriven]; rfl, ?_, fun hv hn => State.drivenState_worn hw hn (by rw [hdriven]; exact hv)⟩
      show (w.worn || wornAt w.plan.lifeLimit (wearAfter w.wear (s.rfg.hotTest g))) = true ↔ _
      rw [Bool.or_eq_true, wornAt_iff]
      rfl

end Sys2Proof.Machine
end

section
/-! SUPPORT. Entry to DONE (R81): the figures of R34 and R35, what the node records, and the hand-off to the Sponsor Unit (R82). -/

namespace Sys2Proof.Machine

/-! ### The figures (R34, R35) -/

theorem Context.outcome_trimNode {c : Context} {n : Nat} {x : Standing} (hn : c.trimNode = some n)
    (hx : c.standing.find? (fun y => y.node == n) = some x) {r : SettledReport} (hr : x.settled = some r) :
    c.outcome = (some r.achieved, r.flag) := by
  unfold Context.outcome
  rw [hn]
  dsimp only
  rw [hx, Option.bind_some, hr]

theorem Context.outcome_sum {c : Context} (hn : c.trimNode = none) (h : ∀ x ∈ c.standing, x.accept ≠ none) :
    c.outcome = (some ((c.standing.map (fun x => x.accept.getD 0)).sum), .none) := by
  unfold Context.outcome
  rw [hn]
  dsimp only
  rw [if_pos]
  exact List.all_eq_true.mpr fun x hx => Option.isSome_iff_ne_none.mpr (h x hx)

theorem Context.outcome_missing {c : Context} (hn : c.trimNode = none) (h : ∃ x ∈ c.standing, x.accept = none) :
    c.outcome = (none, .none) := by
  unfold Context.outcome
  rw [hn]
  dsimp only
  rw [if_neg]
  obtain ⟨x, hx, he⟩ := h
  exact fun hall => by simpa [he] using List.all_eq_true.mp hall x hx

theorem Context.hotMade_iff (c : Context) : c.hotMade = true ↔ ∃ x ∈ c.standing, ∃ r, x.settled = some r ∧ r.hot = true := by
  unfold Context.hotMade
  rw [List.any_eq_true]
  refine exists_congr fun x => and_congr_right fun _ => ?_
  cases x.settled <;> simp

/-! ### What the node records -/

/-- A record without the busy tag of a context (R31). -/
def Route.unbusy (g : Tag) (r : Route) : Route := if r.busy = some g then { r with busy := none } else r

@[simp] theorem Route.unbusy_plan (g : Tag) (r : Route) : (r.unbusy g).plan = r.plan := by
  unfold Route.unbusy; split <;> rfl

theorem Route.unbusy_busy (g : Tag) (r : Route) : (r.unbusy g).busy ≠ some g := by
  unfold Route.unbusy; split
  · exact nofun
  · assumption

theorem State.dropBusy_eq (s : State) (g : Tag) : s.dropBusy g = s.onRoutes (Route.unbusy g) := rfl

/-- The records after the make route is established and the busy tags are gone (R31, R33). -/
theorem State.makeEstablished_route (s : State) (c : Context) (i : Nat) :
    ((s.makeEstablished c).dropBusy c.tag).route? i =
      (s.route? i).map (fun r => (if i = c.make then c.establish r else r).unbusy c.tag) := by
  rw [State.dropBusy_eq, State.route_onRoutes _ _ _ (fun r => by simp)]
  by_cases hi : i = c.make
  · subst hi
    unfold State.makeEstablished
    cases hr : s.route? c.make with
    | none => dsimp only; rw [hr]; rfl
    | some r =>
      have : (s.convertClaims c.tag c.make).2.route? c.make = some r := hr
      dsimp only
      rw [State.route_onRoute _ _ _ c.establish (fun _ => rfl), if_pos rfl, this]
      simp only [Option.map_some, if_true]
  · have hother : (s.makeEstablished c).route? i = s.route? i := by
      unfold State.makeEstablished
      split
      · rw [State.route_onRoute _ _ _ c.establish (fun _ => rfl), if_neg hi]; rfl
      · rfl
    rw [hother]
    simp only [if_neg hi]

/-- The state in which a context has closed DONE, its hand-off still to be taken (R81). -/
def State.closedDone (s : State) (c : Context) : State :=
  let t := ((s.makeEstablished c).dropBusy c.tag).closeGuard c.tag
  (match (t.route? c.make).bind (fun r => r.plan.ready) with
    | some l => { t with rfg := t.rfg.pulse l }
    | none => t).onContext c.tag (Context.closed .done (.at .ok none))

theorem State.enterDone_eq (s : State) (c : Context) :
    s.enterDone c = (s.closedDone c).handOver c true (.at .ok none) := rfl

/-- A closed context changes the bank and the records at its conversion, the guard at the release and the pulse, and its own
record; nothing else. -/
theorem State.closedDone_kept (s : State) (c : Context) :
    (s.closedDone c).cxe =
        { s.cxe with contexts := s.cxe.contexts.map (fun x => if x.tag = c.tag then x.closed .done (.at .ok none) else x) } ∧
      (s.closedDone c).sbc = (s.makeEstablished c).sbc ∧
      (s.closedDone c).rtb = ((s.makeEstablished c).dropBusy c.tag).rtb ∧
      (s.closedDone c).spu = s.spu ∧ (s.closedDone c).biu = s.biu ∧ (s.closedDone c).ctp = s.ctp := by
  unfold State.closedDone State.makeEstablished
  dsimp only
  split <;> split <;> exact ⟨rfl, rfl, rfl, rfl, rfl, rfl⟩

theorem State.closedDone_rfg (s : State) (c : Context) :
    (s.closedDone c).rfg = match (s.route? c.make).bind (fun r => r.plan.ready) with
      | some l => (s.rfg.closeGuard c.tag).pulse l
      | none => s.rfg.closeGuard c.tag := by
  have hready : ((((s.makeEstablished c).dropBusy c.tag).closeGuard c.tag).route? c.make).bind (fun r => r.plan.ready) =
      (s.route? c.make).bind (fun r => r.plan.ready) := by
    show (((s.makeEstablished c).dropBusy c.tag).route? c.make).bind _ = _
    simp only [State.makeEstablished_route, if_true]
    cases s.route? c.make with
    | none => rfl
    | some r => simp only [Option.map_some, Option.bind_some, Route.unbusy_plan]; rfl
  have hrfg : (((s.makeEstablished c).dropBusy c.tag).closeGuard c.tag).rfg = s.rfg.closeGuard c.tag := by
    unfold State.makeEstablished
    split <;> rfl
  unfold State.closedDone
  dsimp only
  rw [hready]
  split
  · show ((((s.makeEstablished c).dropBusy c.tag).closeGuard c.tag).rfg).pulse _ = _
    rw [hrfg]
  · exact hrfg

/-! ### The hand-off (R82, R136) -/

/-- A hand-off undone on what the Sponsor Unit holds is the state before it. -/
theorem State.handOver_restored (s : State) (c : Context) (d : Bool) (r : CloseRecord) :
    { s.handOver c d r with
      biu := s.biu, spu := s.spu, ctp := s.ctp
      cxe := { (s.handOver c d r).cxe with reservations := s.cxe.reservations } } = s := by
  have hbank := s.handOver_bankSide c d r
  have hplan := s.handOver_planSide c d r
  generalize s.handOver c d r = t at hbank hplan
  obtain ⟨_, ⟨_, _, _, _, _⟩, _, _, _, _, _, _, _, _, _, _, _, _⟩ := t
  obtain ⟨_, ⟨_, _, _, _, _⟩, _, _, _, _, _, _, _, _, _, _, _, _⟩ := s
  simp only [State.bankSide, State.planSide, Prod.mk.injEq] at hbank hplan
  simp only [hbank, hplan]

theorem State.openSlot_of_holds {s : State} {g : Tag} {name : SlotName} (h : (s.slot name).state = .opened ∧ (s.slot name).tag = some g)
    (hb : name = .b → ¬((s.slot .a).state = .opened ∧ (s.slot .a).tag = some g)) : s.openSlot? g = some name := by
  unfold State.openSlot?
  cases name with
  | a => exact if_pos h
  | b => exact (if_neg (hb rfl)).trans (if_pos h)

/-- The decision on a close, at the node that sponsors the context: made on the state that has closed it, or none where no slot is
OPEN with the tag. -/
theorem State.handOver_handsOver {s t : State} {c : Context} {d : Bool} {r : CloseRecord} (hme : c.tag.sponsor = s.me)
    (hspu : t.spu = s.spu) (hbiu : t.biu = s.biu) (hctp : t.ctp = s.ctp) (hres : t.cxe.reservations = s.cxe.reservations) :
    s.handsOver (t.handOver c d r) (c.handOff d r) := by
  have hslot : ∀ name, t.slot name = s.slot name := fun name => by cases name <;> simp only [State.slot, hspu]
  have htake : t.handOver c d r = t.takeHandOff (c.handOff d r) :=
    if_pos (by rw [hme]; unfold State.me; rw [hbiu])
  refine ⟨fun name j hh hb hj => ?_, fun hno => ?_⟩
  · have hopen : t.openSlot? (c.handOff d r).tag = some name := by
      refine State.openSlot_of_holds ?_ ?_
      · rw [hslot]; exact hh
      · rw [hslot]; exact hb
    have hrest := t.handOver_restored c d r
    rw [hspu, hbiu, hctp, hres] at hrest
    rw [hrest, htake, State.takeHandOff, hopen]
    dsimp only
    rw [hslot, hj]
  · have hnone : t.openSlot? (c.handOff d r).tag = none := by
      cases ho : t.openSlot? (c.handOff d r).tag with
      | none => rfl
      | some name =>
        have := State.openSlot_spec ho
        rw [hslot] at this
        exact absurd this (hno name)
    have hsame : t.handOver c d r = t := by
      rw [htake, State.takeHandOff, hnone]
    rw [hsame]
    exact ⟨hspu, hbiu, hctp⟩

/-! ### Entry to DONE -/

/-- What the entry to DONE leaves outside the Sponsor Unit's reach: what the closed context left. -/
theorem State.enterDone_kept (s : State) (c : Context) :
    (s.enterDone c).cxe.contexts =
        s.cxe.contexts.map (fun x => if x.tag = c.tag then x.closed .done (.at .ok none) else x) ∧
      (s.enterDone c).sbc = (s.makeEstablished c).sbc ∧
      (s.enterDone c).rtb = ((s.makeEstablished c).dropBusy c.tag).rtb ∧
      (s.enterDone c).rfg = (s.closedDone c).rfg := by
  obtain ⟨hcxe, hsbc, hrtb, _⟩ := s.closedDone_kept c
  obtain ⟨h1, h2, h3, h4⟩ := (s.closedDone c).handOver_kept c true (.at .ok none)
  rw [State.enterDone_eq]
  exact ⟨h1.trans (by rw [hcxe]), h2.trans hsbc, h4.trans hrtb, h3⟩

theorem State.enterDone_context (s : State) (c : Context) (g : Tag) :
    (s.enterDone c).context? g = if g = c.tag then (s.context? g).map (Context.closed .done (.at .ok none)) else s.context? g := by
  have : (s.enterDone c).context? g = (s.onContext c.tag (Context.closed .done (.at .ok none))).context? g := by
    unfold State.context?
    rw [(s.enterDone_kept c).1]; rfl
  rw [this, State.context_onContext s c.tag g (Context.closed .done (.at .ok none)) (fun _ => rfl)]

theorem State.enterDone_route (s : State) (c : Context) (i : Nat) :
    (s.enterDone c).route? i = (s.route? i).map (fun r => (if i = c.make then c.establish r else r).unbusy c.tag) := by
  rw [← State.makeEstablished_route]
  unfold State.route?
  rw [(s.enterDone_kept c).2.2.1]

/-- The bank after the conversion, where this node holds a record of the make route (R10, R81). -/
theorem State.makeEstablished_sbc {s : State} {c : Context} {r : Route} (hr : s.route? c.make = some r) :
    (s.makeEstablished c).sbc = s.sbc.map (Switch.convert c.tag c.make) := by
  unfold State.makeEstablished
  rw [hr]; rfl

theorem State.makeEstablished_none {s : State} {c : Context} (hr : s.route? c.make = none) : s.makeEstablished c = s := by
  unfold State.makeEstablished
  rw [hr]

theorem State.makeEstablished_bare (s : State) (c : Context) :
    (s.makeEstablished c).sbc.map Switch.bare = s.sbc.map Switch.bare := by
  unfold State.makeEstablished
  split
  · exact map_bare_onSwitches s _ (Switch.convert_bare c.tag c.make)
  · rfl

theorem State.enterDone_ready_some {s : State} {c : Context} {r : Route} {l : Nat} (hr : s.route? c.make = some r)
    (hl : r.plan.ready = some l) : (s.enterDone c).rfg = (s.rfg.closeGuard c.tag).pulse l := by
  rw [(s.enterDone_kept c).2.2.2, State.closedDone_rfg, hr, Option.bind_some, hl]

theorem State.enterDone_ready_none {s : State} {c : Context} (h : (s.route? c.make).bind (fun r => r.plan.ready) = none) :
    (s.enterDone c).rfg = s.rfg.closeGuard c.tag := by
  rw [(s.enterDone_kept c).2.2.2, State.closedDone_rfg, h]

/-- Whatever is pulsed, the guard's entries and lines are released and its detectors stay (R103). -/
theorem State.enterDone_guard (s : State) (c : Context) :
    (s.enterDone c).rfg.guards = (s.rfg.closeGuard c.tag).guards ∧ (s.enterDone c).rfg.lines = (s.rfg.closeGuard c.tag).lines ∧
      (s.enterDone c).rfg.detectors = s.rfg.detectors := by
  rw [(s.enterDone_kept c).2.2.2, State.closedDone_rfg]
  split <;> exact ⟨rfl, rfl, Rfg.closeGuard_detectors _ _⟩

/-- Of the changeover table the entry to DONE changes contexts and reservations alone. -/
theorem State.enterDone_cxe (s : State) (c : Context) :
    (s.enterDone c).cxe =
      { s.cxe with contexts := (s.enterDone c).cxe.contexts, reservations := (s.enterDone c).cxe.reservations } := by
  have hbank := (s.closedDone c).handOver_bankSide c true (.at .ok none)
  rw [← State.enterDone_eq] at hbank
  simp only [State.bankSide, Prod.mk.injEq, (s.closedDone_kept c).1] at hbank
  obtain ⟨_, hrejected, hunplaced, hquiet, _⟩ := hbank
  generalize s.enterDone c = t at hrejected hunplaced hquiet
  obtain ⟨_, ⟨_, _, _, _, _⟩, _⟩ := t
  simp only at hrejected hunplaced hquiet
  simp only [hrejected, hunplaced, hquiet]

/-- A release leaves an inhibit line asserted where a user is left (R99). -/
theorem InhibitLine.release_eq (l : InhibitLine) : l.release = { l with users := l.users - 1, asserted := decide (1 < l.users) } := by
  unfold InhibitLine.release
  congr 1
  exact decide_eq_decide.mpr (by omega)

theorem Rfg.closeGuard_some {g : Rfg} {tag : Tag} {e : GuardEntry} (h : g.entry? tag = some e) :
    g.closeGuard tag = { g with
      guards := g.guards.filter (fun x => x.tag != tag)
      lines := g.lines.map (fun l => if l.line ∈ e.lines then
        { l with users := l.users - 1, asserted := decide (1 < l.users) } else l) } := by
  unfold Rfg.closeGuard
  rw [h]
  simp only [InhibitLine.release_eq]

theorem Rfg.closeGuard_none {g : Rfg} {tag : Tag} (h : g.entry? tag = none) : g.closeGuard tag = g := by
  unfold Rfg.closeGuard
  rw [h]

/-- The make route's record at DONE: established, and its busy tag gone where the context held it (R31, R33). -/
theorem Context.establish_unbusy (c : Context) (r : Route) :
    (c.establish r).unbusy c.tag = { r with
      state := .established, holder := some c.tag.sponsor, established := c.participants, frequency := some c.frequency,
      target := c.target, achieved := c.outcome.1, flag := c.outcome.2, hotMade := c.hotMade,
      busy := if r.busy = some c.tag then none else r.busy } := by
  unfold Route.unbusy Context.establish
  dsimp only
  split <;> rfl

/-- The figures of the node's record, and the hand-off that carries them (R34, R35, R82). -/
theorem State.enterDone_figures (s : State) (c : Context) :
    (∀ r, s.route? c.make = some r → (s.enterDone c).route? c.make = some ((c.establish r).unbusy c.tag)) ∧
      (c.tag.sponsor = s.me → s.handsOver (s.enterDone c) (c.handOff true (.at .ok none))) := by
  refine ⟨fun r hr => ?_, fun hme => ?_⟩
  · rw [State.enterDone_route, hr, Option.map_some, if_pos rfl]
  · obtain ⟨hcxe, _, _, hspu, hbiu, hctp⟩ := s.closedDone_kept c
    rw [State.enterDone_eq]
    exact State.handOver_handsOver hme hspu hbiu hctp (by rw [hcxe])

/-- Where another node sponsors the context the Sponsor Unit's part stays (R82). -/
theorem State.enterDone_other {s : State} {c : Context} (h : c.tag.sponsor ≠ s.me) :
    (s.enterDone c).cxe.reservations = s.cxe.reservations ∧ (s.enterDone c).spu = s.spu ∧ (s.enterDone c).biu = s.biu ∧
      (s.enterDone c).ctp = s.ctp := by
  obtain ⟨hcxe, _, _, hspu, hbiu, hctp⟩ := s.closedDone_kept c
  rw [State.enterDone_eq, State.handOver_other _ _ _ _ (by unfold State.me; rw [hbiu]; exact h)]
  exact ⟨by rw [hcxe], hspu, hbiu, hctp⟩

/-- Settles O49: the closed context of `State.closedDone`, and the hand-off after it, which touches the Sponsor Unit's part alone. -/
theorem entryToDoneEstablishes : Obligations.EntryToDoneEstablishes := by
  intro s c hc
  obtain ⟨hctx, hsbc, hrtb, hrfg⟩ := s.enterDone_kept c
  obtain ⟨hestablished, hhand⟩ := s.enterDone_figures c
  obtain ⟨hguards, hlines, hdetectors⟩ := s.enterDone_guard c
  refine ⟨?_, ⟨c.outcome.1, c.outcome.2, c.hotMade, fun n x r hn hx hr => ?_, fun hn => ⟨?_, fun hall => ?_, fun hmiss => ?_⟩,
      c.hotMade_iff, fun r hr => ?_, hhand⟩, fun r hr => ⟨?_, fun v hv e he => ?_, fun l hl => ?_, fun hl => ?_⟩,
    fun hr => ⟨?_, ?_⟩, fun x hx => ?_, fun r hr => ?_, ?_, fun x hx => ?_, s.enterDone_cxe c, fun hne => ?_,
    fun e he => ⟨?_, ?_⟩, fun hnone => ⟨?_, ?_⟩, hdetectors, ?_, ?_, fun hne => ?_⟩
  · rw [State.enterDone_context, if_pos rfl, hc]; rfl
  · rw [Context.outcome_trimNode hn hx hr]; exact ⟨rfl, rfl⟩
  · by_cases hall : ∀ x ∈ c.standing, x.accept ≠ none
    · rw [Context.outcome_sum hn hall]
    · rw [Context.outcome_missing hn (by simpa using hall)]
  · rw [Context.outcome_sum hn hall]
  · rw [Context.outcome_missing hn hmiss]
  · rw [hestablished r hr, Context.establish_unbusy]
  · rw [hsbc, State.makeEstablished_sbc hr]
    refine List.map_congr_left fun w _ => ?_
    rw [Switch.convert_eq]
    rfl
  · rw [hsbc, State.makeEstablished_sbc hr] at hv
    obtain ⟨w, _, rfl⟩ := List.mem_map.mp hv
    exact w.convert_none c.tag c.make e he
  · rw [State.enterDone_ready_some hr hl, Rfg.pulse, Rfg.closeGuard_ready, Rfg.closeGuard_pulseWidth]
  · rw [State.enterDone_ready_none (by rw [hr]; exact hl), Rfg.closeGuard_ready]
  · rw [hsbc, State.makeEstablished_none hr]
  · rw [State.enterDone_ready_none (by rw [hr]; rfl), Rfg.closeGuard_ready]
  · rw [State.enterDone_route]
    simp only [if_neg hx]
    rfl
  · rw [hrtb] at hr
    obtain ⟨q, _, rfl⟩ := List.mem_map.mp hr
    exact q.unbusy_busy c.tag
  · rw [hrtb]
    unfold State.makeEstablished
    split <;> rfl
  · rw [State.enterDone_context, if_neg hx]
  · exact (State.enterDone_other hne).1
  · rw [hguards, Rfg.closeGuard_some he]
  · rw [hlines, Rfg.closeGuard_some he]
  · rw [hguards, Rfg.closeGuard_none hnone]
  · rw [hlines, Rfg.closeGuard_none hnone]
  · rw [hsbc]; exact s.makeEstablished_bare c
  · exact (s.keeps_iff _).mpr (s.enterDone_planSide c)
  · exact (State.enterDone_other hne).2

end Sys2Proof.Machine
end

section
/-! SUPPORT. What the drive answers and the settle of a context in MOVE make of its own report, its wait set and its driven set
(R69, R78, R79). -/

namespace Sys2Proof.Machine

/-! ### One step of the own report -/

/-- What no drive answer changes of a context, nor its settle. -/
def Context.steady (x : Context) : Context :=
  { x with waitSet := [], driven := [], hotMark := false, report := none, kept := none }

/-- A step, or several, of the own report in MOVE: a WITHDRAW stands or does not stand throughout, and only QUIET changes (R69, R86). -/
structure Context.MovesTo (x y : Context) : Prop where
  steady : y.steady = x.steady
  withdraw : x.report = some .withdraw ↔ y.report = some .withdraw
  kept : x.report ≠ some .withdraw → y.kept = x.kept
  quiet : x.underlying ≠ some .quiet → y.underlying = x.underlying

theorem Context.MovesTo.refl (x : Context) : x.MovesTo x := ⟨rfl, .rfl, fun _ => rfl, fun _ => rfl⟩

theorem Context.MovesTo.trans {x y z : Context} (h : x.MovesTo y) (k : y.MovesTo z) : x.MovesTo z where
  steady := k.steady.trans h.steady
  withdraw := h.withdraw.trans k.withdraw
  kept hx := (k.kept (mt h.withdraw.mpr hx)).trans (h.kept hx)
  quiet hx := (k.quiet (h.quiet hx ▸ hx)).trans (h.quiet hx)

theorem Context.MovesTo.phase {x y : Context} (h : x.MovesTo y) : y.phase = x.phase :=
  show y.steady.phase = x.steady.phase from congrArg Context.phase h.steady
theorem Context.MovesTo.tag {x y : Context} (h : x.MovesTo y) : y.tag = x.tag :=
  show y.steady.tag = x.steady.tag from congrArg Context.tag h.steady
theorem Context.MovesTo.trim {x y : Context} (h : x.MovesTo y) : y.trim = x.trim :=
  show y.steady.trim = x.steady.trim from congrArg Context.trim h.steady

/-- Only the sets, the hot mark and the two reports change. -/
theorem Context.MovesTo.eq {x y : Context} (h : x.MovesTo y) :
    y = { x with waitSet := y.waitSet, driven := y.driven, hotMark := y.hotMark, report := y.report, kept := y.kept } :=
  congrArg (fun z : Context => { z with
    waitSet := y.waitSet, driven := y.driven, hotMark := y.hotMark, report := y.report, kept := y.kept }) h.steady

theorem Context.setReport_underlying (x : Context) {r : Report} (hr : r ≠ .withdraw) : (x.setReport r).underlying = some r := by
  unfold Context.setReport Context.underlying
  by_cases h : x.report = some .withdraw
  · rw [if_pos h, if_pos h]
  · rw [if_neg h, if_neg (fun e => hr (Option.some.inj e))]

theorem Context.movesTo_setReport {x : Context} {r : Report} (hq : x.underlying = some .quiet) (hr : r ≠ .withdraw) :
    x.MovesTo (x.setReport r) := by
  have hne : some r ≠ some Report.withdraw := fun e => hr (Option.some.inj e)
  refine ⟨?_, ?_, fun hx => ?_, fun h => absurd hq h⟩ <;> unfold Context.setReport
  · split <;> rfl
  · split
    · exact ⟨fun _ => ‹_›, fun _ => ‹_›⟩
    · exact ⟨fun h => absurd h ‹_›, fun h => absurd h hne⟩
  · rw [if_neg hx]

@[simp] theorem Context.setReport_waitSet (x : Context) (r : Report) : (x.setReport r).waitSet = x.waitSet := by
  unfold Context.setReport; split <;> rfl
@[simp] theorem Context.setReport_driven (x : Context) (r : Report) : (x.setReport r).driven = x.driven := by
  unfold Context.setReport; split <;> rfl
@[simp] theorem Context.setReport_hotMark (x : Context) (r : Report) : (x.setReport r).hotMark = x.hotMark := by
  unfold Context.setReport; split <;> rfl

/-! ### A fault and a settle -/

theorem Context.movesTo_moveFail (x : Context) (r : FailReason) : x.MovesTo (x.moveFail r) := by
  unfold Context.moveFail
  split
  · rename_i h
    simp only [Bool.and_eq_true, beq_iff_eq] at h
    exact Context.movesTo_setReport h.2 nofun
  · exact .refl x

theorem Context.moveFail_underlying {x : Context} (hp : x.phase = .move) (hq : x.underlying = some .quiet) (r : FailReason) :
    (x.moveFail r).underlying = some (.fail r) := by
  rw [Context.moveFail, if_pos (by simp [hp, hq]), x.setReport_underlying (r := .fail r) nofun]

@[simp] theorem Context.moveFail_waitSet (x : Context) (r : FailReason) : (x.moveFail r).waitSet = x.waitSet := by
  unfold Context.moveFail; split <;> simp
@[simp] theorem Context.moveFail_driven (x : Context) (r : FailReason) : (x.moveFail r).driven = x.driven := by
  unfold Context.moveFail; split <;> simp
@[simp] theorem Context.moveFail_hotMark (x : Context) (r : FailReason) : (x.moveFail r).hotMark = x.hotMark := by
  unfold Context.moveFail; split <;> simp

theorem Context.settledReport_ne (x : Context) : x.settledReport ≠ .withdraw := by
  unfold Context.settledReport; split <;> exact nofun

theorem Context.movesTo_settleReport (x : Context) : x.MovesTo x.settleReport := by
  unfold Context.settleReport
  split
  · rename_i h
    simp only [Bool.and_eq_true, beq_iff_eq] at h
    exact Context.movesTo_setReport h.2 x.settledReport_ne
  · exact .refl x

theorem Context.settleReport_sets (x : Context) :
    x.settleReport.waitSet = x.waitSet ∧ x.settleReport.driven = x.driven ∧ x.settleReport.hotMark = x.hotMark := by
  unfold Context.settleReport; split <;> simp

theorem Context.settleReport_settled {x : Context} (hp : x.phase = .move) (hw : x.waitSet = []) (hq : x.underlying = some .quiet) :
    x.settleReport.underlying = some x.settledReport := by
  rw [Context.settleReport, if_pos (by simp [hp, hw, hq]), Context.setReport_underlying x x.settledReport_ne]

theorem Context.settleReport_waiting {x : Context} (hw : x.waitSet ≠ []) : x.settleReport = x := by
  rw [Context.settleReport, if_neg (by simp [hw])]

/-! ### The drive answers of an entry to MOVE -/

/-- The fail reason a drive answer gives (R79). -/
def DriveAnswer.fail? : DriveAnswer → Option FailReason
  | .refused => some .sense
  | .fault r => some r.fail
  | _ => none

theorem Context.movesTo_takeDriveAnswer (x : Context) (i : Nat) (a : DriveAnswer) : x.MovesTo (x.takeDriveAnswer i a) := by
  cases a with
  | refused => exact x.movesTo_moveFail _
  | fault r => exact x.movesTo_moveFail _
  | atPosition => exact .refl x
  | wait => exact ⟨rfl, .rfl, fun _ => rfl, fun _ => rfl⟩
  | driven hot => exact ⟨rfl, .rfl, fun _ => rfl, fun _ => rfl⟩

theorem Context.takeDriveAnswer_passes {a : DriveAnswer} (h : a.fail? = none) (x : Context) (i : Nat) :
    (x.takeDriveAnswer i a).underlying = x.underlying := by
  cases a with
  | refused => cases h
  | fault r => cases h
  | atPosition => rfl
  | wait => rfl
  | driven hot => rfl

theorem Context.takeDriveAnswer_fails {a : DriveAnswer} {r : FailReason} (h : a.fail? = some r) {x : Context} (hp : x.phase = .move)
    (hq : x.underlying = some .quiet) (i : Nat) : (x.takeDriveAnswer i a).underlying = some (.fail r) := by
  cases a with
  | refused => cases h; exact Context.moveFail_underlying hp hq _
  | fault e => cases h; exact Context.moveFail_underlying hp hq _
  | atPosition => cases h
  | wait => cases h
  | driven hot => cases h

theorem mem_addIndex {i j : Nat} {l : List Nat} : j ∈ addIndex i l ↔ j ∈ l ∨ j = i := by
  unfold addIndex
  split
  · exact ⟨.inl, fun h => h.elim id fun e => e ▸ ‹i ∈ l›⟩
  · simp

/-- The switches an answer makes a context wait for. -/
theorem Context.mem_takeDriveAnswer_waitSet {x : Context} {i j : Nat} {a : DriveAnswer} :
    j ∈ (x.takeDriveAnswer i a).waitSet ↔ j ∈ x.waitSet ∨ j = i ∧ (a = .wait ∨ ∃ hot, a = .driven hot) := by
  cases a <;> simp [Context.takeDriveAnswer, mem_addIndex]

theorem Context.mem_takeDriveAnswer_driven {x : Context} {i j : Nat} {a : DriveAnswer} :
    j ∈ (x.takeDriveAnswer i a).driven ↔ j ∈ x.driven ∨ j = i ∧ ∃ hot, a = .driven hot := by
  cases a <;> simp [Context.takeDriveAnswer, mem_addIndex]

theorem Context.takeDriveAnswer_hotMark {x : Context} {i : Nat} {a : DriveAnswer} :
    (x.takeDriveAnswer i a).hotMark = true ↔ x.hotMark = true ∨ a = .driven true := by
  cases a <;> simp [Context.takeDriveAnswer]

/-- The drive answers of an entry to MOVE, one after another (R78 step 2, R79). -/
def Context.takeAnswers (x : Context) (answers : List (Nat × DriveAnswer)) : Context :=
  answers.foldl (fun x q => x.takeDriveAnswer q.1 q.2) x

theorem Context.takeAnswers_cons (x : Context) (q : Nat × DriveAnswer) (l : List (Nat × DriveAnswer)) :
    x.takeAnswers (q :: l) = (x.takeDriveAnswer q.1 q.2).takeAnswers l := rfl

theorem Context.takeAnswers_append (x : Context) (l m : List (Nat × DriveAnswer)) :
    x.takeAnswers (l ++ m) = (x.takeAnswers l).takeAnswers m := List.foldl_append ..

theorem Context.movesTo_takeAnswers (x : Context) (l : List (Nat × DriveAnswer)) : x.MovesTo (x.takeAnswers l) :=
  List.foldlRecOn l _ (motive := x.MovesTo) (.refl x) fun _ h q _ => h.trans (Context.movesTo_takeDriveAnswer _ q.1 q.2)

theorem Context.takeAnswers_passes (x : Context) (l : List (Nat × DriveAnswer)) (h : ∀ q ∈ l, q.2.fail? = none) :
    (x.takeAnswers l).underlying = x.underlying :=
  List.foldlRecOn l _ (motive := fun y : Context => y.underlying = x.underlying) rfl fun _ hy q hq =>
    (Context.takeDriveAnswer_passes (h q hq) _ q.1).trans hy

/-- The first failing answer decides the report of a context that was QUIET (R79). -/
theorem Context.takeAnswers_fails {x : Context} {pre post : List (Nat × DriveAnswer)} {i : Nat} {a : DriveAnswer} {r : FailReason}
    (hp : x.phase = .move) (hq : x.underlying = some .quiet) (hpre : ∀ q ∈ pre, q.2.fail? = none) (ha : a.fail? = some r) :
    (x.takeAnswers (pre ++ (i, a) :: post)).underlying = some (.fail r) := by
  rw [Context.takeAnswers_append, Context.takeAnswers_cons]
  have hfail := Context.takeDriveAnswer_fails ha ((x.movesTo_takeAnswers pre).phase.trans hp)
    ((x.takeAnswers_passes pre hpre).trans hq) i
  refine ((Context.movesTo_takeAnswers _ post).quiet ?_).trans hfail
  rw [hfail]
  exact nofun

theorem Context.mem_takeAnswers_waitSet {j : Nat} : ∀ (l : List (Nat × DriveAnswer)) (x : Context),
    j ∈ (x.takeAnswers l).waitSet ↔ j ∈ x.waitSet ∨ ∃ a, (j, a) ∈ l ∧ (a = .wait ∨ ∃ hot, a = .driven hot)
  | [], x => by simp [Context.takeAnswers]
  | (i, a) :: l, x => by
    rw [Context.takeAnswers_cons, Context.mem_takeAnswers_waitSet l, Context.mem_takeDriveAnswer_waitSet, or_assoc]
    refine or_congr_right ⟨?_, ?_⟩
    · rintro (⟨rfl, h⟩ | ⟨b, hb, h⟩)
      · exact ⟨a, List.mem_cons_self, h⟩
      · exact ⟨b, List.mem_cons_of_mem _ hb, h⟩
    · rintro ⟨b, hb, h⟩
      rcases List.mem_cons.mp hb with e | hb
      · cases e; exact .inl ⟨rfl, h⟩
      · exact .inr ⟨b, hb, h⟩

theorem Context.mem_takeAnswers_driven {j : Nat} : ∀ (l : List (Nat × DriveAnswer)) (x : Context),
    j ∈ (x.takeAnswers l).driven ↔ j ∈ x.driven ∨ ∃ hot, (j, .driven hot) ∈ l
  | [], x => by simp [Context.takeAnswers]
  | (i, a) :: l, x => by
    rw [Context.takeAnswers_cons, Context.mem_takeAnswers_driven l, Context.mem_takeDriveAnswer_driven, or_assoc]
    simp only [List.mem_cons, Prod.mk.injEq, exists_or, exists_and_left, eq_comm (a := a)]

theorem Context.takeAnswers_hotMark : ∀ (l : List (Nat × DriveAnswer)) (x : Context),
    (x.takeAnswers l).hotMark = true ↔ x.hotMark = true ∨ ∃ i, (i, .driven true) ∈ l
  | [], x => by simp [Context.takeAnswers]
  | (i, a) :: l, x => by
    rw [Context.takeAnswers_cons, Context.takeAnswers_hotMark l, Context.takeDriveAnswer_hotMark, or_assoc]
    simp only [List.mem_cons, Prod.mk.injEq, exists_or, exists_and_right, exists_eq, true_and, eq_comm (a := a)]

end Sys2Proof.Machine
end

section
/-! SUPPORT. The drives of an entry to MOVE: which are asked for, what they leave, and that a change of a context does not meet
them (R78). -/

namespace Sys2Proof.Machine

/-! ### Drives and contexts do not meet -/

theorem State.onContext_onContext (s : State) (g : Tag) (f h : Context → Context) (hf : ∀ x, (f x).tag = x.tag) :
    (s.onContext g f).onContext g h = s.onContext g (fun x => h (f x)) := by
  unfold State.onContext
  dsimp only
  rw [List.map_map]
  congr 2
  refine List.map_congr_left fun x _ => ?_
  by_cases hx : x.tag = g <;> simp [hx, hf]

theorem State.fireWorn_onContext (s : State) (w : Switch) (g : Tag) (f : Context → Context) :
    (s.onContext g f).fireWorn w = (s.fireWorn w).onContext g f := by
  unfold State.fireWorn
  rw [State.onContext_switch]
  split
  · split <;> rfl
  · rfl

theorem State.driveMembers_onContext (s : State) (t g : Tag) (i p : Nat) (hot : Bool) (f : Context → Context) :
    (s.onContext g f).driveMembers t i p hot = (s.driveMembers t i p hot).onContext g f :=
  List.foldl_hom (fun u : State => u.onContext g f) (fun _ _ => rfl)

theorem State.drivenState_onContext (s : State) (t g : Tag) (i p : Nat) (f : Context → Context) :
    (s.onContext g f).drivenState t i p = (s.drivenState t i p).onContext g f := by
  have hfire : ∀ u : State, (s.members i).foldl State.fireWorn (u.onContext g f) =
      ((s.members i).foldl State.fireWorn u).onContext g f := fun u =>
    List.foldl_hom (fun u : State => u.onContext g f) (fun u w => u.fireWorn_onContext w g f)
  unfold State.drivenState
  rw [State.driveMembers_onContext, ← hfire]
  show List.foldl State.fireWorn (if s.rfg.hotTest t then _ else _) (s.members i) = _
  split <;> rfl

/-- A drive answers the same, and leaves the same bank, whatever stands in the changeover table. -/
theorem State.drive_onContext (s : State) (t g : Tag) (m : Bool) (i p : Nat) (f : Context → Context) :
    (s.onContext g f).drive t m i p = ((s.drive t m i p).1, (s.drive t m i p).2.onContext g f) := by
  have hmembers : (s.onContext g f).members i = s.members i := rfl
  have hclaims : (s.onContext g f).ClaimsAt t i p = s.ClaimsAt t i p := rfl
  rw [State.drive_eq, State.drive_eq, hmembers, hclaims, State.driveMembers_onContext, State.drivenState_onContext]
  split_ifs <;> rfl

/-- The drive requests of a context, each answer taken as it comes, are the requests made and then their answers taken. -/
theorem State.foldl_driveFor (g : Tag) : ∀ (l : List (Nat × Nat)) (s : State) (f : Context → Context) (_ : ∀ x, (f x).tag = x.tag),
    l.foldl (State.driveFor g) (s.onContext g f) =
      (State.driveAll g l s).2.onContext g (fun x => (f x).takeAnswers (State.driveAll g l s).1)
  | [], _, _, _ => rfl
  | q :: l, s, f, hf => by
    have hstep : State.driveFor g (s.onContext g f) q = (s.drive g true q.1 q.2).2.onContext g
        (fun x => (f x).takeDriveAnswer q.1 (s.drive g true q.1 q.2).1) := by
      unfold State.driveFor
      rw [State.drive_onContext]
      exact State.onContext_onContext _ g f _ hf
    rw [List.foldl_cons, hstep, State.foldl_driveFor g l _ _ (fun x => by simp [hf])]
    rfl

/-! ### What the drives leave -/

/-- The drives change the bank and the events alone. -/
theorem State.driveAll_rest (g : Tag) : ∀ (l : List (Nat × Nat)) (s : State),
    (State.driveAll g l s).2 = { s with sbc := (State.driveAll g l s).2.sbc, ctp := (State.driveAll g l s).2.ctp }
  | [], _ => rfl
  | q :: l, s => by
    have htail := State.driveAll_rest g l (s.drive g true q.1 q.2).2
    have hhead := s.drive_rest g true q.1 q.2
    have hcons : (State.driveAll g (q :: l) s).2 = (State.driveAll g l (s.drive g true q.1 q.2).2).2 := rfl
    rw [hcons]
    refine htail.trans ?_
    exact congrArg (fun u : State => { u with
      sbc := (State.driveAll g l (s.drive g true q.1 q.2).2).2.sbc
      ctp := (State.driveAll g l (s.drive g true q.1 q.2).2).2.ctp }) hhead

/-- The drives leave every claim where it was. -/
theorem State.driveAll_claimPart (g : Tag) : ∀ (l : List (Nat × Nat)) (s : State), (State.driveAll g l s).2.claimPart = s.claimPart
  | [], _ => rfl
  | q :: l, s => (State.driveAll_claimPart g l (s.drive g true q.1 q.2).2).trans (s.drive_claimPart g true q.1 q.2)

/-! ### The entry to MOVE in its three parts -/

/-- The drive requests read plans, partners and this node's number alone. -/
theorem State.driveList_congr {s t : State} (c : Context)
    (hr : (t.route? c.make).map Route.plan = (s.route? c.make).map Route.plan) (hp : ∀ i, t.partner? i = s.partner? i)
    (hm : t.me = s.me) : t.driveList c = s.driveList c := by
  unfold State.driveList
  have ht : t.trimHere c = s.trimHere c := by unfold State.trimHere; rw [hm]
  simp only [hp, ht]
  cases hs : s.route? c.make with
  | none =>
    rw [hs, Option.map_none, Option.map_eq_none_iff] at hr
    rw [hr]
  | some r =>
    rw [hs, Option.map_some] at hr
    obtain ⟨q, hq, hqr⟩ := Option.map_eq_some_iff.mp hr
    rw [hq]
    simp only [hqr]

theorem State.breakDown_partner (s : State) (b i : Nat) : (s.breakDown b).partner? i = s.partner? i := by
  have hdown : (s.takeDown b).partner? i = s.partner? i := by
    show ((s.onSwitches (Switch.dropRoute b)).switch? i).bind _ = (s.switch? i).bind _
    rw [State.switch_onSwitches s i (Switch.dropRoute b) (fun _ => rfl)]
    cases s.switch? i <;> rfl
  unfold State.breakDown
  split
  · split
    · rfl
    · exact hdown
  · rfl

theorem State.takeDown_route (s : State) (b i : Nat) :
    (s.takeDown b).route? i = if i = b then (s.route? i).map Route.clear else s.route? i :=
  (s.dropRouteClaims b).route_onRoute b i Route.clear (fun _ => rfl)

theorem State.breakDown_plan (s : State) (b i : Nat) :
    ((s.breakDown b).route? i).map Route.plan = (s.route? i).map Route.plan := by
  unfold State.breakDown
  split
  · split
    · rfl
    · rw [State.takeDown_route]
      split
      · rw [Option.map_map]; rfl
      · rfl
  · rfl

/-- The drive requests are the same before and after the break route is down. -/
theorem State.driveList_breakOf (s : State) (c : Context) : (s.breakOf c).driveList c = s.driveList c := by
  unfold State.breakOf
  split
  · refine State.driveList_congr c (s.breakDown_plan _ _) (s.breakDown_partner _) ?_
    unfold State.breakDown; repeat' split
    all_goals rfl
  · rfl

/-- The answers of an entry to MOVE: a participant's drives, and none in another role. -/
def State.moveAnswers (s : State) (c : Context) : List (Nat × DriveAnswer) :=
  if c.role = .participant then (State.driveAll c.tag (s.driveList c) (s.breakOf c)).1 else []

/-- The state an entry to MOVE leaves beside the context itself. -/
def State.moveDrives (s : State) (c : Context) : State :=
  if c.role = .participant then (State.driveAll c.tag (s.driveList c) (s.breakOf c)).2 else s.breakOf c

/-- The context at the end of its entry to MOVE (R78). -/
def Context.moved (answers : List (Nat × DriveAnswer)) (x : Context) : Context := (x.commit.takeAnswers answers).settleReport

theorem Context.movesTo_moved (answers : List (Nat × DriveAnswer)) (x : Context) : x.commit.MovesTo (x.moved answers) :=
  (x.commit.movesTo_takeAnswers answers).trans (Context.movesTo_settleReport _)

@[simp] theorem Context.moved_tag (answers : List (Nat × DriveAnswer)) (x : Context) : (x.moved answers).tag = x.tag :=
  (Context.movesTo_moved answers x).tag

/-- The entry to MOVE: the break route down, the drives made, and the context with their answers taken. -/
theorem State.enterMove_parts (s : State) (c : Context) :
    s.enterMove c = (s.moveDrives c).onContext c.tag (Context.moved (s.moveAnswers c)) := by
  have hlist : ((s.breakOf c).onContext c.tag Context.commit).driveList c = s.driveList c := s.driveList_breakOf c
  rw [State.enterMove_eq, hlist]
  unfold State.moveDrives State.moveAnswers
  split
  · rw [State.foldl_driveFor c.tag _ _ Context.commit (fun _ => rfl), State.onContext_onContext _ _ _ _
      (fun x => (x.commit.movesTo_takeAnswers _).tag)]
    rfl
  · exact State.onContext_onContext _ _ _ _ (fun _ => rfl)

end Sys2Proof.Machine
end

section
/-! SUPPORT. Entry to MOVE (R78): the list of drive requests, the break route down, and the statement that puts them together. -/

namespace Sys2Proof.Machine

/-! ### The drive requests (R78 step 2) -/

/-- Whether a setting is the first of its list to name a member of its pair (log 38). -/
def State.firstNamed (s : State) (settings : List Setting) (st : Setting) : Bool :=
  match s.partner? st.switch with
  | some p => !(settings.takeWhile (fun q => q.switch != st.switch)).any (fun q => q.switch == p)
  | none => true

/-- The drive request of the trim attenuator, at the trim node and with an outcome (R78). -/
def State.trimDrive (s : State) (c : Context) (r : Route) : List (Nat × Nat) :=
  match s.trimHere c, r.plan.trimAttenuator, c.trim with
  | true, some a, some t => [(a, t.code)]
  | _, _, _ => []

theorem State.driveList_eq {s : State} {c : Context} {r : Route} (hr : s.route? c.make = some r) :
    s.driveList c =
      (r.plan.settings.filter (s.firstNamed r.plan.settings)).map (fun st => (st.switch, st.position)) ++ s.trimDrive c r := by
  unfold State.driveList
  rw [hr]
  rfl

theorem State.driveList_none {s : State} {c : Context} (hr : s.route? c.make = none) : s.driveList c = [] := by
  unfold State.driveList
  rw [hr]

/-- The first of its pair: no setting before it names its partner. -/
theorem State.firstNamed_iff {s : State} {pre post : List Setting} {st : Setting} (h : ∀ q ∈ pre, q.switch ≠ st.switch) :
    s.firstNamed (pre ++ st :: post) st = true ↔ ∀ q ∈ pre, s.partner? st.switch ≠ some q.switch := by
  have htake : (pre ++ st :: post).takeWhile (fun q => q.switch != st.switch) = pre := by
    rw [List.takeWhile_append_of_pos (by simpa using h), List.takeWhile_cons_of_neg (by simp), List.append_nil]
  unfold State.firstNamed
  rw [htake]
  cases s.partner? st.switch with
  | none => simp
  | some p =>
    simp only [Bool.not_eq_true', List.any_eq_false, beq_iff_eq, ne_eq, Option.some.injEq]
    exact forall₂_congr fun _ _ => not_congr eq_comm

theorem State.mem_trimDrive {s : State} {c : Context} {r : Route} {i p : Nat} :
    (i, p) ∈ s.trimDrive c r ↔
      c.trimNode = some s.me ∧ r.plan.trimAttenuator = some i ∧ ∃ o, c.trim = some o ∧ p = o.code := by
  have hhere : s.trimHere c = true ↔ c.trimNode = some s.me := by simp [State.trimHere]
  unfold State.trimDrive
  rw [← hhere]
  cases s.trimHere c <;> cases r.plan.trimAttenuator <;> cases c.trim <;> simp [eq_comm]

theorem State.trimDrive_cases (s : State) (c : Context) (r : Route) :
    s.trimDrive c r = [] ∨ ∃ a o, s.trimDrive c r = [(a, o.code)] ∧ r.plan.trimAttenuator = some a ∧ c.trim = some o := by
  unfold State.trimDrive
  split
  · exact .inr ⟨_, _, rfl, ‹_›, ‹_›⟩
  · exact .inl rfl

/-- The drives asked for: each setting the first of its pair, and the trim attenuator. -/
theorem State.mem_driveList {s : State} {c : Context} {r : Route} (hr : s.route? c.make = some r)
    (hn : (r.plan.settings.map Setting.switch).Nodup) {i p : Nat} :
    (i, p) ∈ s.driveList c ↔
      (∃ pre st post, r.plan.settings = pre ++ st :: post ∧ st.switch = i ∧ st.position = p ∧
        ∀ q ∈ pre, s.partner? i ≠ some q.switch) ∨
      (c.trimNode = some s.me ∧ r.plan.trimAttenuator = some i ∧ ∃ o, c.trim = some o ∧ p = o.code) := by
  have hbefore : ∀ pre st post, r.plan.settings = pre ++ st :: post → ∀ q ∈ pre, q.switch ≠ st.switch := by
    intro pre st post e q hq hqs
    rw [e, List.map_append, List.map_cons, List.nodup_append] at hn
    exact hn.2.2 q.switch (List.mem_map.mpr ⟨q, hq, rfl⟩) st.switch List.mem_cons_self hqs
  rw [State.driveList_eq hr, List.mem_append, State.mem_trimDrive]
  refine or_congr_left ?_
  simp only [List.mem_map, List.mem_filter, Prod.mk.injEq]
  constructor
  · rintro ⟨st, ⟨hst, hfirst⟩, rfl, rfl⟩
    obtain ⟨pre, post, e⟩ := List.append_of_mem hst
    rw [e] at hfirst
    exact ⟨pre, st, post, e, rfl, rfl, (State.firstNamed_iff (hbefore pre st post e)).mp hfirst⟩
  · rintro ⟨pre, st, post, e, rfl, rfl, hpre⟩
    refine ⟨st, ⟨e ▸ List.mem_append_right _ List.mem_cons_self, ?_⟩, rfl, rfl⟩
    rw [e]
    exact (State.firstNamed_iff (hbefore pre st post e)).mpr hpre

/-! ### The break route down (R12, R32) -/

/-- The claims a switch keeps when a route's claims are dropped, in the words of R12. -/
theorem Switch.dropRoute_dropped (b : Nat) (w : Switch) : routeClaimsDropped b w.claims (w.dropRoute b).claims := by
  rw [Switch.dropRoute_claims]
  refine ⟨w.dropRoute_none b, fun c hc hne => ?_, fun c hc he u hu => ?_, fun d hd => ?_⟩
  · exact List.mem_filterMap.mpr ⟨c, hc, if_neg hne⟩
  · refine List.mem_filterMap.mpr ⟨c, hc, ?_⟩
    rw [Claim.withoutRoute, if_pos he, Option.mem_def.mp hu]
  · obtain ⟨c, hc, hcd⟩ := List.mem_filterMap.mp hd
    rcases Claim.withoutRoute_spec hcd with ⟨_, rfl⟩ | ⟨he, u, hu, rfl⟩
    · exact .inl hc
    · exact .inr ⟨c, hc, he, u, hu, rfl⟩

/-- Taking the break route down changes the bank and the route records alone. -/
theorem State.breakOf_rest (s : State) (c : Context) :
    s.breakOf c = { s with sbc := (s.breakOf c).sbc, rtb := { s.rtb with routes := (s.breakOf c).rtb.routes } } := by
  unfold State.breakOf
  split
  · unfold State.breakDown
    repeat' split
    all_goals rfl
  · rfl

theorem State.breakOf_down {s : State} {c : Context} {b : Nat} {r : Route} (hb : c.brk = some b) (hr : s.route? b = some r)
    (hs : r.state ≠ .idle) : s.breakOf c = s.takeDown b := by
  rw [State.breakOf, hb]
  dsimp only
  rw [State.breakDown, hr]
  exact if_neg hs

theorem State.breakOf_idle {s : State} {c : Context} (h : ∀ b r, c.brk = some b → s.route? b = some r → r.state = .idle) :
    s.breakOf c = s := by
  unfold State.breakOf
  split
  · rename_i b hb
    unfold State.breakDown
    split
    · exact if_pos (h b _ hb ‹_›)
    · rfl
  · rfl

theorem State.breakOf_route {s : State} {c : Context} {x : Nat} (h : c.brk ≠ some x) : (s.breakOf c).route? x = s.route? x := by
  unfold State.breakOf
  split
  · rename_i b hb
    have hx : x ≠ b := fun e => h (e ▸ hb)
    unfold State.breakDown
    repeat' split
    · rfl
    · rw [State.takeDown_route, if_neg hx]
    · rfl
  · rfl

theorem State.breakOf_bare (s : State) (c : Context) : (s.breakOf c).sbc.map Switch.bare = s.sbc.map Switch.bare := by
  unfold State.breakOf
  split
  · rename_i b _
    unfold State.breakDown
    repeat' split
    · rfl
    · exact map_bare_onSwitches s _ (Switch.dropRoute_bare b)
    · rfl
  · rfl

/-! ### What the entry to MOVE leaves -/

theorem State.moveDrives_rest (s : State) (c : Context) :
    s.moveDrives c = { s.breakOf c with sbc := (s.moveDrives c).sbc, ctp := (s.moveDrives c).ctp } := by
  unfold State.moveDrives
  split
  · exact State.driveAll_rest _ _ _
  · rfl

theorem State.moveDrives_claimPart (s : State) (c : Context) : (s.moveDrives c).claimPart = (s.breakOf c).claimPart := by
  unfold State.moveDrives
  split
  · exact State.driveAll_claimPart _ _ _
  · rfl

/-- The records an entry to MOVE leaves are those after the break route. -/
theorem State.enterMove_rtb (s : State) (c : Context) : (s.enterMove c).rtb = (s.breakOf c).rtb := by
  rw [State.enterMove_parts]
  have hrtb := congrArg State.rtb (s.moveDrives_rest c)
  exact hrtb

theorem State.enterMove_context (s : State) (c : Context) (g : Tag) :
    (s.enterMove c).context? g =
      if g = c.tag then (s.context? g).map (Context.moved (s.moveAnswers c)) else s.context? g := by
  have hcxe : (s.moveDrives c).cxe = s.cxe :=
    (congrArg State.cxe (s.moveDrives_rest c)).trans (s.breakOf_cxe c)
  have hfound : (s.moveDrives c).context? g = s.context? g := by unfold State.context?; rw [hcxe]
  rw [State.enterMove_parts, State.context_onContext _ _ _ _ (fun x => by simp), hfound]

/-- The claims an entry to MOVE leaves are those after the break route. -/
theorem State.enterMove_bank (s : State) (c : Context) :
    (s.enterMove c).sbc.map Switch.claimPart = (s.breakOf c).sbc.map Switch.claimPart := by
  rw [State.enterMove_parts]
  exact congrArg Prod.fst (s.moveDrives_claimPart c)

/-- With the break route down, no established claim of it stands, and every switch's claims are those R12 leaves. -/
theorem State.enterMove_dropped {s : State} {c : Context} {b : Nat} {r : Route} (hb : c.brk = some b) (hr : s.route? b = some r)
    (hs : r.state ≠ .idle) :
    (∀ w ∈ (s.enterMove c).sbc, ∀ e ∈ w.claims, e.holder ≠ .established b) ∧
      ∀ i w, s.switch? i = some w → ∃ v, (s.enterMove c).switch? i = some v ∧ routeClaimsDropped b w.claims v.claims := by
  have hbank := s.enterMove_bank c
  rw [State.breakOf_down hb hr hs] at hbank
  refine ⟨fun w hw e he => ?_, fun i w hw => ?_⟩
  · obtain ⟨v, hv, hvw⟩ := exists_of_map_eq hbank hw
    obtain ⟨x, _, rfl⟩ := List.mem_map.mp hv
    have hclaims : (x.dropRoute b).claims = w.claims := congrArg Prod.snd hvw
    exact x.dropRoute_none b e (hclaims ▸ he)
  · have hfound : (s.takeDown b).switch? i = some (w.dropRoute b) := by
      show (s.onSwitches (Switch.dropRoute b)).switch? i = _
      rw [State.switch_onSwitches s i (Switch.dropRoute b) (fun _ => rfl), hw]; rfl
    have hpart := find_part_eq Switch.claimPart (fun q => q.1.index == i) hbank
    obtain ⟨v, hv, hvw⟩ := Option.map_eq_some_iff.mp (hpart.trans (congrArg (Option.map Switch.claimPart) hfound))
    have hclaims : v.claims = (w.dropRoute b).claims := congrArg Prod.snd hvw
    exact ⟨v, hv, hclaims ▸ w.dropRoute_dropped b⟩

/-! ### The context at the end of its entry to MOVE -/

/-- The sets and the hot mark after the drives (R79). -/
theorem Context.moved_sets (answers : List (Nat × DriveAnswer)) (x : Context) :
    (∀ i, i ∈ (x.moved answers).waitSet ↔
      i ∈ x.waitSet ∨ ∃ a, (i, a) ∈ answers ∧ (a = .wait ∨ ∃ hot, a = .driven hot)) ∧
    (∀ i, i ∈ (x.moved answers).driven ↔ i ∈ x.driven ∨ ∃ hot, (i, .driven hot) ∈ answers) ∧
    ((x.moved answers).hotMark = true ↔ x.hotMark = true ∨ ∃ i, (i, .driven true) ∈ answers) := by
  obtain ⟨hwait, hdriven, hhot⟩ := (x.commit.takeAnswers answers).settleReport_sets
  unfold Context.moved
  rw [hwait, hdriven, hhot]
  exact ⟨fun _ => Context.mem_takeAnswers_waitSet answers x.commit, fun _ => Context.mem_takeAnswers_driven answers x.commit,
    Context.takeAnswers_hotMark answers x.commit⟩

/-- The first failing answer is the report of a context that was QUIET (R79). -/
theorem Context.moved_fails {x : Context} {pre post : List (Nat × DriveAnswer)} {i : Nat} {a : DriveAnswer} {r : FailReason}
    (hq : x.underlying = some .quiet) (hpre : ∀ q ∈ pre, q.2.fail? = none) (ha : a.fail? = some r) :
    (x.moved (pre ++ (i, a) :: post)).underlying = some (.fail r) := by
  have hfail := Context.takeAnswers_fails (x := x.commit) (post := post) (i := i) rfl hq hpre ha
  refine ((Context.movesTo_settleReport _).quiet ?_).trans hfail
  rw [hfail]
  exact nofun

/-- A context that was QUIET and has switches to wait for stays QUIET. -/
theorem Context.moved_waiting {x : Context} {answers : List (Nat × DriveAnswer)} (hq : x.underlying = some .quiet)
    (h : ∀ q ∈ answers, q.2.fail? = none) (hw : (x.moved answers).waitSet ≠ []) :
    (x.moved answers).underlying = some .quiet := by
  have hsame : x.moved answers = x.commit.takeAnswers answers :=
    Context.settleReport_waiting ((x.commit.takeAnswers answers).settleReport_sets.1 ▸ hw)
  rw [hsame]
  exact (x.commit.takeAnswers_passes answers h).trans hq

theorem Context.settledReport_congr {x y : Context} (ht : x.trim = y.trim) (hh : x.hotMark = y.hotMark) :
    x.settledReport = y.settledReport := by
  unfold Context.settledReport
  rw [ht, hh]

/-- A context that was QUIET and has nothing to wait for is SETTLED, with its trim outcome and its hot mark (R78). -/
theorem Context.moved_settled {x : Context} {answers : List (Nat × DriveAnswer)} (hq : x.underlying = some .quiet)
    (h : ∀ q ∈ answers, q.2.fail? = none) (hw : (x.moved answers).waitSet = []) :
    (x.moved answers).underlying = some ({ x with hotMark := (x.moved answers).hotMark } : Context).settledReport := by
  obtain ⟨hwait, _, hhot⟩ := (x.commit.takeAnswers answers).settleReport_sets
  have hmoves := x.commit.movesTo_takeAnswers answers
  have hsettled : (x.moved answers).underlying = some (x.commit.takeAnswers answers).settledReport :=
    Context.settleReport_settled hmoves.phase (hwait ▸ hw) ((x.commit.takeAnswers_passes answers h).trans hq)
  rw [hsettled, Context.settledReport_congr (y := { x with hotMark := (x.moved answers).hotMark }) hmoves.trim hhot.symm]

/-- An answer fails where it is REFUSED or a FAULT. -/
theorem DriveAnswer.fail_none {a : DriveAnswer} (h : ¬(a = .refused ∨ ∃ r, a = .fault r)) : a.fail? = none := by
  cases a with
  | refused => exact absurd (.inl rfl) h
  | fault r => exact absurd (.inr ⟨r, rfl⟩) h
  | atPosition => rfl
  | wait => rfl
  | driven hot => rfl

/-- Settles O48: the parts of the entry by `State.enterMove_parts`, the report by the drive answers taken one after another. -/
theorem entryToMoveCommits : Obligations.EntryToMoveCommits := by
  intro s c hc
  have hmoves := Context.movesTo_moved (s.moveAnswers c) c
  obtain ⟨hwait, hdriven, hhot⟩ := Context.moved_sets (s.moveAnswers c) c
  have hparts := s.enterMove_parts c
  have hrest := s.moveDrives_rest c
  have hbreak := s.breakOf_rest c
  refine ⟨⟨c.moved (s.moveAnswers c), ?_, hmoves.eq, hwait, hdriven, hhot, hmoves.withdraw, hmoves.kept, hmoves.quiet, fun hq =>
      ⟨fun pre i a post e hpre => ⟨fun ha => ?_, fun ha => ?_⟩, fun hpass hw => ?_, fun hpass hw => ?_⟩⟩,
    fun hrole => ?_, fun hrole => ?_, fun r hr hn => ⟨fun i p => State.mem_driveList hr hn, ?_⟩, State.driveList_none,
    fun b r hb hr hs => ⟨?_, State.enterMove_dropped hb hr hs⟩, State.breakOf_idle, fun x hx => ?_, ?_, ?_, fun g hg => ?_, ?_, ?_,
    ?_, ?_⟩
  · rw [State.enterMove_context, if_pos rfl, hc]; rfl
  · have hanswers : s.moveAnswers c = pre ++ (i, a) :: post := e
    rw [hanswers]
    refine Context.moved_fails hq (fun q hmem => DriveAnswer.fail_none (hpre q hmem)) ?_
    rcases ha with rfl | rfl <;> rfl
  · have hanswers : s.moveAnswers c = pre ++ (i, a) :: post := e
    rw [hanswers]
    refine Context.moved_fails hq (fun q hmem => DriveAnswer.fail_none (hpre q hmem)) ?_
    rw [ha]; rfl
  · exact Context.moved_waiting hq (fun q hmem => DriveAnswer.fail_none (hpass q hmem)) hw
  · exact Context.moved_settled hq (fun q hmem => DriveAnswer.fail_none (hpass q hmem)) hw
  · rw [hparts]
    unfold State.moveDrives
    rw [if_pos hrole]
    exact ⟨rfl, rfl⟩
  · have hdown : s.moveDrives c = s.breakOf c := if_neg hrole
    have hsbc : (s.enterMove c).sbc = (s.breakOf c).sbc := by rw [hparts, hdown]; rfl
    have hctp : (s.enterMove c).ctp = s.ctp := by rw [hparts, hdown, State.onContext_ctp, hbreak]
    exact ⟨hsbc, hctp, hsbc ▸ s.breakOf_bare c⟩
  · exact ⟨_, _, State.driveList_eq hr, List.filter_sublist.map _, s.trimDrive_cases c r⟩
  · have hroute : (s.enterMove c).route? b = (s.takeDown b).route? b := by
      unfold State.route?
      rw [s.enterMove_rtb, State.breakOf_down hb hr hs]
    rw [hroute, State.takeDown_route, if_pos rfl, hr]
    rfl
  · rw [← State.breakOf_route (s := s) hx]
    unfold State.route?
    rw [s.enterMove_rtb]
  · rw [s.enterMove_rtb, hbreak]
  · rw [hparts, State.onContext_cxe, hrest, hbreak]
  · rw [State.enterMove_context, if_neg hg]
  · rw [hparts, State.onContext_spu, hrest, hbreak]
  · rw [hparts, State.onContext_biu, hrest, hbreak]
  · rw [hparts, State.onContext_rfg, hrest, hbreak]
  · exact (s.keeps_iff _).mpr (s.enterMove_planSide c)

end Sys2Proof.Machine
end

section
/-! SUPPORT. The three laws of routes, load and slots (R29, R50, R128, R129, R189) as one relation between a state and a later
one, so that each operation is walked through once. -/

namespace Sys2Proof.Machine

/-! ### The laws across two states -/

/-- Where slot B must be FREE: in single-sponsor mode and in LOADING (R129). -/
def State.bShut (s : State) : Prop := s.spu.single = true ∨ s.biu.busState = .loading

/-- The slots' part of the sponsor law (R128, R129). -/
structure State.SlotsLawful (s : State) : Prop where
  each : ∀ name, (s.slot name).lawful
  shut : s.bShut → (s.slot .b).state = .free

theorem State.sponsorLawful_iff (s : State) : s.sponsorLawful ↔ s.loadLawful ∧ s.SlotsLawful := by
  constructor
  · rintro ⟨hload, ha, hb, hsingle, hloading⟩
    refine ⟨hload, fun name => ?_, fun h => h.elim hsingle hloading⟩
    cases name with
    | a => exact ha
    | b => exact hb
  · rintro ⟨hload, hslots⟩
    exact ⟨hload, hslots.each .a, hslots.each .b, fun h => hslots.shut (.inl h), fun h => hslots.shut (.inr h)⟩

/-- An operation short of a load: it stays on its side of LOADING, and keeps the route law and the slots' law. -/
structure State.Follows (s t : State) : Prop where
  routes : s.routeLawful → t.routeLawful
  bus : t.biu.busState = .loading ↔ s.biu.busState = .loading
  load : t.pld.load = s.pld.load
  slots : s.SlotsLawful → t.SlotsLawful

/-- The three laws kept. -/
structure State.KeepsLaws (s t : State) : Prop where
  routes : s.routeLawful → t.routeLawful
  load : s.loadLawful → t.loadLawful
  sponsor : s.sponsorLawful → t.sponsorLawful

theorem State.Follows.refl (s : State) : s.Follows s := ⟨id, .rfl, rfl, id⟩

theorem State.Follows.trans {s t u : State} (h : s.Follows t) (k : t.Follows u) : s.Follows u :=
  ⟨k.routes ∘ h.routes, k.bus.trans h.bus, k.load.trans h.load, k.slots ∘ h.slots⟩

theorem State.KeepsLaws.trans {s t u : State} (h : s.KeepsLaws t) (k : t.KeepsLaws u) : s.KeepsLaws u :=
  ⟨k.routes ∘ h.routes, k.load ∘ h.load, k.sponsor ∘ h.sponsor⟩

theorem State.Follows.keeps {s t : State} (h : s.Follows t) : s.KeepsLaws t := by
  have hload : s.loadLawful → t.loadLawful := by
    intro hl
    unfold State.loadLawful
    rw [h.load, h.bus]
    exact hl
  refine ⟨h.routes, hload, fun hs => ?_⟩
  obtain ⟨hl, hslots⟩ := s.sponsorLawful_iff.mp hs
  exact t.sponsorLawful_iff.mpr ⟨hload hl, h.slots hslots⟩

theorem State.Follows.notLoading {s t : State} (h : s.Follows t) (hb : s.biu.busState ≠ .loading) :
    t.biu.busState ≠ .loading := mt h.bus.mp hb

/-- A run of operations that each follow, one for each element of a list. -/
theorem State.Follows.foldl {α : Type} {f : State → α → State} (hf : ∀ (u : State) (a : α), u.Follows (f u a)) (l : List α)
    (s : State) : s.Follows (l.foldl f s) :=
  List.foldlRecOn (motive := fun t => s.Follows t) l f (.refl s) fun _ hu a _ => hu.trans (hf _ a)

/-! ### The slots -/

theorem State.SlotsLawful.congr {s t : State} (h : s.SlotsLawful) (hs : t.spu = s.spu)
    (hb : t.biu.busState = .loading → s.biu.busState = .loading) : t.SlotsLawful := by
  have hslot : ∀ name, t.slot name = s.slot name := by
    intro name
    cases name <;> simp only [State.slot, hs]
  refine ⟨fun name => hslot name ▸ h.each name, fun hshut => ?_⟩
  rw [hslot]
  exact h.shut (hshut.imp (hs ▸ ·) hb)

/-- Slot B is not FREE only where it may be taken. -/
theorem State.SlotsLawful.open_of_busy {s : State} (h : s.SlotsLawful) {name : SlotName} (hne : (s.slot name).state ≠ .free) :
    name = .b → ¬s.bShut := by
  rintro rfl hshut
  exact hne (h.shut hshut)

theorem State.SlotsLawful.setSlot {s : State} (h : s.SlotsLawful) {name : SlotName} {x : SponsorSlot} (hx : x.lawful)
    (hb : name = .b → s.bShut → x.state = .free) : (s.setSlot name x).SlotsLawful := by
  have hshut : (s.setSlot name x).bShut → s.bShut := by
    unfold State.bShut
    rw [State.setSlot_single, State.setSlot_biu]
    exact id
  cases name with
  | a =>
    refine ⟨fun n => ?_, fun hs => h.shut (hshut hs)⟩
    cases n with
    | a => exact hx
    | b => exact h.each .b
  | b =>
    refine ⟨fun n => ?_, fun hs => hb rfl (hshut hs)⟩
    cases n with
    | a => exact h.each .a
    | b => exact hx

/-- A slot rewritten with its state and its count of attempts. -/
theorem State.SlotsLawful.setSlot_same {s : State} (h : s.SlotsLawful) {name : SlotName} {x : SponsorSlot}
    (hstate : x.state = (s.slot name).state) (hattempts : x.attempts = (s.slot name).attempts) :
    (s.setSlot name x).SlotsLawful := by
  refine h.setSlot ?_ (fun hn hs => ?_)
  · unfold SponsorSlot.lawful
    rw [hstate, hattempts]
    exact h.each name
  · subst hn
    rw [hstate]
    exact h.shut hs

theorem SponsorSlot.empty_lawful : SponsorSlot.empty.lawful := by
  refine ⟨Nat.zero_le _, fun _ => rfl, nofun⟩

theorem State.SlotsLawful.setSlot_empty {s : State} (h : s.SlotsLawful) (name : SlotName) :
    (s.setSlot name .empty).SlotsLawful := h.setSlot SponsorSlot.empty_lawful fun _ _ => rfl

/-- Neither FREE nor in BACKOFF, a slot is lawful at sixteen attempts or fewer. -/
theorem SponsorSlot.lawful_of_busy {x : SponsorSlot} (ha : x.attempts ≤ Config.attemptsFull) (hf : x.state ≠ .free)
    (hb : x.state ≠ .backoff) : x.lawful := ⟨ha, fun h => absurd h hf, fun h => absurd h hb⟩

/-! ### What leaves a block's laws alone -/

/-- The route law reads the plans, claims and route states alone. -/
theorem State.routeLawful_congr {s t : State} (h : t.claimPart = s.claimPart) (hs : s.routeLawful) : t.routeLawful := by
  simp only [State.claimPart, Prod.mk.injEq] at h
  obtain ⟨hsbc, hroutes, _⟩ := h
  intro q hq hidle v hv c hc
  obtain ⟨r, hr, hrq⟩ := exists_of_map_eq hroutes hq
  obtain ⟨w, hw, hwv⟩ := exists_of_map_eq hsbc hv
  simp only [Route.claimPart, Switch.claimPart, Prod.mk.injEq] at hrq hwv
  rw [← hrq.1]
  exact hs r hr (hrq.2.1.trans hidle) w hw c (hwv.2 ▸ hc)

/-- What leaves the part that the claim law reads, and the slots' law with it. -/
theorem State.Follows.of_claimPart {s t : State} (h : t.claimPart = s.claimPart) (hs : s.SlotsLawful → t.SlotsLawful) :
    s.Follows t :=
  ⟨State.routeLawful_congr h, not_iff_not.mp ⟨State.loading_of_claimPart h.symm, State.loading_of_claimPart h⟩,
    congrArg (fun q => q.2.2.2.2.2) h, hs⟩

theorem State.Follows.of_same {s t : State} (h : t.claimPart = s.claimPart) (hs : t.spu = s.spu) : s.Follows t :=
  .of_claimPart h fun hl => hl.congr hs fun hb => by_contra fun hne => State.loading_of_claimPart h hne hb

/-- What leaves switches, routes, slots, bus state and load alone, as a change of contexts, guard or port does. -/
theorem State.Follows.of_frame {s t : State} (hsbc : t.sbc = s.sbc) (hroutes : t.rtb.routes = s.rtb.routes)
    (hbus : t.biu.busState = s.biu.busState) (hload : t.pld.load = s.pld.load) (hspu : t.spu = s.spu) : s.Follows t :=
  ⟨fun h => by unfold State.routeLawful; rw [hsbc, hroutes]; exact h, by rw [hbus], hload,
    fun h => h.congr hspu (hbus ▸ id)⟩

/-- A change of the bus side between states that are not LOADING. -/
theorem State.Follows.withBiu {s : State} (b : Biu) (hs : s.biu.busState ≠ .loading) (hb : b.busState ≠ .loading) :
    s.Follows { s with biu := b } :=
  ⟨id, iff_of_false hb hs, rfl, fun h => h.congr rfl fun e => absurd e hb⟩

/-- A change of the switches that brings in no established claim. -/
theorem State.Follows.onSwitches (s : State) (f : Switch → Switch)
    (hf : ∀ w, ∀ d ∈ (f w).claims, ∀ r, d.holder = .established r → ∃ c ∈ w.claims, c.holder = .established r) :
    s.Follows (s.onSwitches f) := by
  refine ⟨fun h r hr hidle v hv d hd he => ?_, .rfl, rfl, fun h => h.congr rfl id⟩
  obtain ⟨w, hw, rfl⟩ := List.mem_map.mp hv
  obtain ⟨c, hc, hce⟩ := hf w d hd _ he
  exact h r hr hidle w hw c hc hce

theorem State.Follows.onSwitch (s : State) (i : Nat) (f : Switch → Switch)
    (hf : ∀ w, ∀ d ∈ (f w).claims, ∀ r, d.holder = .established r → ∃ c ∈ w.claims, c.holder = .established r) :
    s.Follows (s.onSwitch i f) := by
  refine .onSwitches s (fun w => if w.plan.index = i then f w else w) fun w d hd r hr => ?_
  split at hd
  · exact hf w d hd r hr
  · exact ⟨d, hd, hr⟩

/-- A change of the route records that keeps their ids and lets none go IDLE. -/
theorem State.Follows.onRoutes (s : State) (f : Route → Route) (hid : ∀ r, (f r).plan = r.plan)
    (hidle : ∀ r, (f r).state = .idle → r.state = .idle) : s.Follows (s.onRoutes f) := by
  refine ⟨fun h q hq hi w hw c hc => ?_, .rfl, rfl, fun h => h.congr rfl id⟩
  obtain ⟨r, hr, rfl⟩ := List.mem_map.mp hq
  rw [hid]
  exact h r hr (hidle r hi) w hw c hc

theorem State.Follows.onContext (s : State) (g : Tag) (f : Context → Context) : s.Follows (s.onContext g f) :=
  .of_frame rfl rfl rfl rfl rfl

theorem State.complete_follows (s : State) : s.Follows s.complete := .of_frame rfl rfl rfl rfl rfl

end Sys2Proof.Machine
end

section
/-! SUPPORT. The Sponsor Unit keeps the slots' law (R128 to R140): a PROPOSE is placed only below sixteen attempts, and slot B is
taken only where it may be. -/

namespace Sys2Proof.Machine

/-! ### Placing a message -/

theorem State.SlotsLawful.placePropose {s : State} (h : s.SlotsLawful) {name : SlotName} (j : Job)
    (ha : (s.slot name).attempts < Config.attemptsFull) (hb : name = .b → ¬s.bShut) :
    (s.placePropose name j).SlotsLawful := by
  have hplaced : ∀ seq, (((s.reserve name).place name (.propose (s.buildPropose j seq))).setSlot name
      { s.slot name with state := .sending, job := some j, attempts := (s.slot name).attempts + 1,
                         tag := some { sponsor := s.me, seq := seq }, sent := false, backoff := 0 }).SlotsLawful := fun seq =>
    (h.congr rfl id : ((s.reserve name).place name (.propose (s.buildPropose j seq))).SlotsLawful).setSlot
      (SponsorSlot.lawful_of_busy ha nofun nofun) fun hn hs => absurd hs (hb hn)
  obtain ⟨heach, hshut⟩ := hplaced (s.nextSeq Config.tablePlaces s.spu.seq)
  refine ⟨fun n => ?_, hshut⟩
  have := heach n
  cases n <;> exact this

theorem State.SlotsLawful.placeRelease {s : State} (h : s.SlotsLawful) {name : SlotName} (j : Job)
    (hb : name = .b → ¬s.bShut) : (s.placeRelease name j).SlotsLawful :=
  (h.congr rfl id : (s.place name (.release j.route (s.routeIs j.route .orphaned))).SlotsLawful).setSlot
    (SponsorSlot.lawful_of_busy (by simp [Config.attemptsFull]) nofun nofun) fun hn hs => absurd hs (hb hn)

theorem State.SlotsLawful.drainTest {s : State} (h : s.SlotsLawful) : s.drainTest.SlotsLawful :=
  h.congr s.drainTest_spu fun hb => by_contra fun hne => State.loading_of_claimPart s.drainTest_claimPart hne hb

/-! ### Take-up and retry (R130, R137) -/

/-- A take-up begins from a FREE slot, which has no attempts, so one message is within sixteen. -/
theorem State.SlotsLawful.takeUpSlot {name : SlotName} :
    ∀ (fuel : Nat) (only : Bool) {s : State}, s.SlotsLawful → (s.slot name).state = .free → (name = .b → ¬s.bShut) →
      (State.takeUpSlot name fuel only s).SlotsLawful
  | 0, _, _, h, _, _ => h
  | fuel + 1, only, s, h, hfree, hb => by
    have hnone : (s.slot name).attempts = 0 := (h.each name).2.1 hfree
    rcases State.takeUpSlot_cases name fuel only s with
      e | ⟨j, _, _, ⟨why, _, e⟩ | ⟨_, _, e⟩ | ⟨_, _, _, e⟩ | ⟨_, _, e⟩⟩ <;> rw [e]
    · exact h
    · exact State.SlotsLawful.takeUpSlot fuel only (h.congr rfl id) (by simpa using hfree) hb
    · exact (h.congr rfl id : (s.dequeue j).SlotsLawful).placeRelease j hb
    · refine (h.congr rfl id : (s.dequeue j).SlotsLawful).placePropose j ?_ hb
      rw [State.dequeue_slot, hnone]
      exact Nat.succ_pos _
    · exact State.SlotsLawful.takeUpSlot fuel true h hfree hb

/-- A slot open to a take-up is FREE, and is slot B only outside single-sponsor mode (R129). -/
theorem State.slotOpen_spec {s : State} {name : SlotName} (h : s.slotOpen name = true) :
    (s.slot name).state = .free ∧ (name = .b → s.spu.single = false) := by
  simp only [State.slotOpen, Bool.and_eq_true, Bool.or_eq_true, beq_iff_eq, Bool.not_eq_true'] at h
  exact ⟨h.1, fun hn => h.2.resolve_left (by rw [hn]; exact nofun)⟩

theorem State.SlotsLawful.takeUps {s : State} (h : s.SlotsLawful) : s.takeUps.SlotsLawful := by
  have one : ∀ (name : SlotName) (u : State), u.SlotsLawful → (if u.biu.busState = .onBus ∧ u.slotOpen name then
      State.takeUpSlot name (u.ctp.queue.length + 1) false u else u).SlotsLawful := by
    intro name u hu
    split
    · rename_i hopen
      obtain ⟨hfree, hsingle⟩ := State.slotOpen_spec hopen.2
      refine hu.takeUpSlot _ _ hfree fun hn hshut => ?_
      rcases hshut with hs | hs
      · rw [hsingle hn] at hs; cases hs
      · rw [hopen.1] at hs; cases hs
    · exact hu
  exact one .b _ (one .a s h)

theorem State.SlotsLawful.retrySlot {s : State} (h : s.SlotsLawful) (name : SlotName) : (s.retrySlot name).SlotsLawful := by
  rcases s.retrySlot_cases name with e | ⟨j, _, hback, _, _, _, ⟨why, _, e⟩ | ⟨_, _, e⟩⟩ <;> rw [e]
  · exact h
  · exact ((h.setSlot_empty name).congr rfl id :
      ((s.setSlot name .empty).notice (j.notice .failed why.result (s.slot name).attempts)).SlotsLawful).drainTest
  · exact h.placePropose j ((h.each name).2.2 hback) (h.open_of_busy (by rw [hback]; exact nofun))

theorem State.SlotsLawful.sponsorEvent {s : State} (h : s.SlotsLawful) : s.sponsorEvent.SlotsLawful :=
  ((h.retrySlot .a).retrySlot .b).takeUps

/-! ### The end of a request (R136) -/

theorem State.SlotsLawful.endRequest {s : State} (h : s.SlotsLawful) (name : SlotName) (n : Notice) :
    (s.endRequest name n).SlotsLawful :=
  ((h.congr rfl id : (s.notice n).SlotsLawful).setSlot_empty name).drainTest.sponsorEvent

/-- A close backs a slot off only below sixteen attempts (R136 step 3, R137). -/
theorem State.SlotsLawful.judgeClose {s : State} (h : s.SlotsLawful) {name : SlotName} (hopen : (s.slot name).state = .opened)
    (j : Job) (hand : HandOff) : (s.judgeClose name (s.slot name) j hand).SlotsLawful := by
  rcases s.judgeClose_cases name (s.slot name) j hand with ⟨n, _, e⟩ | ⟨_, ha, _, e⟩ <;> rw [e]
  · exact h.endRequest name n
  · exact h.setSlot ⟨ha.le, nofun, fun _ => ha⟩ fun hn hs => absurd hs (h.open_of_busy (by rw [hopen]; exact nofun) hn)

theorem State.SlotsLawful.takeHandOff {s : State} (h : s.SlotsLawful) (hand : HandOff) : (s.takeHandOff hand).SlotsLawful := by
  unfold State.takeHandOff
  split
  · exact h
  · rename_i name hname
    split
    · exact h.judgeClose (State.openSlot_spec hname).1 _ hand
    · exact h

theorem State.SlotsLawful.handOver {s : State} (h : s.SlotsLawful) (c : Context) (done : Bool) (record : CloseRecord) :
    (s.handOver c done record).SlotsLawful := by
  unfold State.handOver
  split
  · exact h.takeHandOff _
  · exact h

theorem State.SlotsLawful.proposeNotOpened {s : State} (h : s.SlotsLawful) : s.proposeNotOpened.SlotsLawful := by
  unfold State.proposeNotOpened
  repeat' split
  · exact h
  · exact h.endRequest _ _
  · exact h

theorem State.SlotsLawful.releaseAnswered {s : State} (h : s.SlotsLawful) (honoured : Bool) :
    (s.releaseAnswered honoured).SlotsLawful := by
  unfold State.releaseAnswered
  split
  · exact h
  · split
    · exact h.endRequest _ _
    · exact h

theorem State.SlotsLawful.endSilent {s : State} (h : s.SlotsLawful) (name : SlotName) : (s.endSilent name).SlotsLawful := by
  unfold State.endSilent
  split
  · exact h.endRequest _ _
  · exact h

/-! ### OPEN and CANCEL (R135, R138, R139) -/

theorem State.SlotsLawful.cxeCancel {s : State} (h : s.SlotsLawful) (g : Tag) : (s.cxeCancel g).2.SlotsLawful := by
  rw [s.cxeCancel_rest g]
  exact h.congr rfl id

theorem State.cxeCancel_slot (s : State) (g : Tag) (name : SlotName) : (s.cxeCancel g).2.slot name = s.slot name := by
  rw [s.cxeCancel_rest g]
  cases name <;> rfl

/-- A slot whose message went out enters OPEN lawfully. -/
theorem State.SlotsLawful.enterOpen {s : State} (h : s.SlotsLawful) {name : SlotName} (hsent : (s.slot name).state = .sending)
    (x : CancelState) : (s.setSlot name { s.slot name with state := .opened, cancel := x }).SlotsLawful :=
  h.setSlot (SponsorSlot.lawful_of_busy (h.each name).1 nofun nofun)
    fun hn hs => absurd hs (h.open_of_busy (by rw [hsent]; exact nofun) hn)

theorem State.SlotsLawful.proposeOpened {s : State} (h : s.SlotsLawful) : s.proposeOpened.SlotsLawful := by
  unfold State.proposeOpened
  split
  · exact h
  · rename_i name hname
    have hsent := (State.sentSlot_spec hname).1
    dsimp only
    split
    · rename_i g _ _
      have hopen := (h.cxeCancel g).enterOpen (name := name) (by rw [State.cxeCancel_slot]; exact hsent)
      rw [State.cxeCancel_slot] at hopen
      exact hopen _
    · exact h.enterOpen hsent (s.slot name).cancel

theorem State.SlotsLawful.cancelOpen {s : State} (h : s.SlotsLawful) (name : SlotName) (g : Tag) (j : Job) :
    (s.cancelOpen name g j).2.SlotsLawful := by
  have hc := h.cxeCancel g
  unfold State.cancelOpen
  split <;> rename_i heq <;> rw [heq] at hc
  · exact hc.setSlot_same rfl rfl
  · exact hc
  · split
    · exact hc.setSlot_same rfl rfl
    · exact hc

theorem State.SlotsLawful.cancelSlot {s : State} (h : s.SlotsLawful) (name : SlotName) (j : Job) :
    (s.cancelSlot name j).2.SlotsLawful := by
  unfold State.cancelSlot
  dsimp only
  split
  iterate 3 exact h
  split
  · exact h.endRequest _ _
  · split
    · refine State.SlotsLawful.endRequest ?_ _ _
      exact h.congr rfl id
    · split
      · exact h.setSlot_same rfl rfl
      · exact h
  · exact h.cancelOpen _ _ _
  · exact h

theorem State.SlotsLawful.cancelRequest {s : State} (h : s.SlotsLawful) (id : Nat) : (s.cancelRequest id).2.SlotsLawful := by
  unfold State.cancelRequest
  split
  · exact h.cancelSlot _ _
  · split
    · exact h.congr rfl fun e => e
    · exact h

/-! ### The own slot (R46, R87, R140) -/

/-- A change of both slots that keeps their states and counts of attempts. -/
theorem State.SlotsLawful.onSlots {s : State} (h : s.SlotsLawful) (f : SponsorSlot → SponsorSlot)
    (hstate : ∀ x, (f x).state = x.state) (hattempts : ∀ x, (f x).attempts = x.attempts) :
    ({ s with spu := { s.spu with slotA := f s.spu.slotA, slotB := f s.spu.slotB } } : State).SlotsLawful :=
  (h.setSlot_same (name := .a) (hstate _) (hattempts _)).setSlot_same (name := .b) (x := f s.spu.slotB) (hstate _) (hattempts _)

theorem State.SlotsLawful.testWithdrawals {s : State} (h : s.SlotsLawful) : s.testWithdrawals.SlotsLawful := by
  unfold State.testWithdrawals
  refine List.foldlRecOn (motive := State.SlotsLawful) _ _ (h.congr rfl id) fun u hu g _ => ?_
  exact hu.onSlots (SponsorSlot.cancelLate g) (fun x => by unfold SponsorSlot.cancelLate; split <;> rfl)
    (fun x => by unfold SponsorSlot.cancelLate; split <;> rfl)

theorem State.SlotsLawful.takeMessage {s : State} (h : s.SlotsLawful) : s.takeMessage.2.SlotsLawful := by
  unfold State.takeMessage
  split
  · exact h
  · rename_i o rest _
    have hrest : ({ s with biu := { s.biu with outbound := rest } } : State).SlotsLawful := h.congr rfl id
    have hslot : ({ s with biu := { s.biu with outbound := rest } } : State).slot o.slot = s.slot o.slot := by
      cases o.slot <;> rfl
    exact hrest.setSlot_same (by rw [hslot]) (by rw [hslot])

end Sys2Proof.Machine
end

section
/-! SUPPORT. The operations of the bank, the Route Table and the Changeover Engine keep the route law and the slots' law. -/

namespace Sys2Proof.Machine

/-! ### Claims (R8 to R12) -/

/-- What keeps the holder of every entry it leaves brings in no established claim. -/
theorem established_of_map {f : Claim → Claim} (hf : ∀ c, (f c).holder = c.holder) {l : List Claim} {d : Claim}
    (hd : d ∈ l.map f) {r : Nat} (hr : d.holder = .established r) : ∃ c ∈ l, c.holder = .established r := by
  obtain ⟨c, hc, rfl⟩ := List.mem_map.mp hd
  exact ⟨c, hc, hf c ▸ hr⟩

theorem Switch.grant_established {g : Tag} {brk want : Option Nat} {w : Switch} {d : Claim}
    (hd : d ∈ (w.grant g brk want).claims) {r : Nat} (hr : d.holder = .established r) : ∃ c ∈ w.claims, c.holder = .established r := by
  rw [Switch.grant_claims] at hd
  split at hd
  · exact established_of_map (fun c => by simp) hd hr
  · rcases List.mem_append.mp hd with hd | hd
    · exact ⟨d, hd, hr⟩
    · obtain rfl := List.mem_singleton.mp hd
      cases hr

theorem State.claimCheck_follows (s : State) (g : Tag) (make : Nat) (brk : Option Nat) (trimHere : Bool) :
    s.Follows (s.claimCheck g make brk trimHere).2 := by
  unfold State.claimCheck
  dsimp only
  split
  · exact .refl s
  · exact .foldl (fun u (q : Nat × Option Nat) => .onSwitch u q.1 _ fun _ _ hd _ hr => Switch.grant_established hd hr) _ s

theorem State.fixTrim_follows (s : State) (g : Tag) (a code : Nat) : s.Follows (s.fixTrim g a code).2 := by
  rcases s.fixTrim_cases g a code with e | ⟨_, _, _, e⟩ <;> rw [e]
  · exact .refl s
  · refine .onSwitch s a _ fun w d hd r hr => ?_
    rw [Switch.fixPosition_claims] at hd
    exact established_of_map (Claim.fixed_holder g code) hd hr

theorem State.dropTagClaims_follows (s : State) (g : Tag) : s.Follows (s.dropTagClaims g) := by
  refine .onSwitches s _ fun w d hd r hr => ?_
  rw [Switch.dropTag_claims] at hd
  obtain ⟨c, hc, hcd⟩ := List.mem_filterMap.mp hd
  exact ⟨c, hc, (Claim.withoutTag_spec hcd).2.1 ▸ hr⟩

/-! ### Routes (R29 to R33, R149) -/

theorem State.dropBusy_follows (s : State) (g : Tag) : s.Follows (s.dropBusy g) :=
  .onRoutes s _ (fun r => by split <;> rfl) fun r h => by split at h <;> exact h

theorem State.markRoutes_follows (s : State) (make : Nat) (brk : Option Nat) (f : Route → Route)
    (hplan : ∀ r, (f r).plan = r.plan) (hstate : ∀ r, (f r).state = r.state) : s.Follows (s.markRoutes make brk f) := by
  rw [s.markRoutes_eq make brk f hplan]
  refine .onRoutes s _ (fun r => ?_) fun r h => ?_
  · split
    · exact hplan r
    · rfl
  · split at h
    · exact hstate r ▸ h
    · exact h

/-- A route goes IDLE only with its established claims dropped from every switch (R12, R29). -/
theorem State.takeDown_follows (s : State) (b : Nat) : s.Follows (s.takeDown b) := by
  refine ⟨fun h q hq hidle v hv d hd he => ?_, .rfl, rfl, fun h => h.congr rfl id⟩
  obtain ⟨r, hr, rfl⟩ := List.mem_map.mp hq
  obtain ⟨w, hw, rfl⟩ := List.mem_map.mp hv
  obtain ⟨hdrop, _, _, hfrom⟩ := w.dropRoute_dropped b
  by_cases hrb : r.plan.id = b
  · rw [if_pos hrb] at he
    exact hdrop d hd (hrb ▸ he)
  · rw [if_neg hrb] at hidle he
    rcases hfrom d hd with hd | ⟨_, _, _, u, _, rfl⟩
    · exact h r hr hidle w hw d hd he
    · cases he

theorem State.breakDown_follows (s : State) (b : Nat) : s.Follows (s.breakDown b) := by
  unfold State.breakDown
  split
  · split
    · exact .refl s
    · exact s.takeDown_follows b
  · exact .refl s

/-- Claims become established claims of a route only as its record becomes ESTABLISHED (R10, R33). -/
theorem State.makeEstablished_follows (s : State) (c : Context) : s.Follows (s.makeEstablished c) := by
  unfold State.makeEstablished
  split
  · refine ⟨fun h q hq hidle v hv d hd he => ?_, .rfl, rfl, fun h => h.congr rfl id⟩
    obtain ⟨r, hr, rfl⟩ := List.mem_map.mp hq
    obtain ⟨w, hw, rfl⟩ := List.mem_map.mp hv
    by_cases hmake : r.plan.id = c.make
    · rw [if_pos hmake] at hidle
      cases hidle
    · rw [if_neg hmake] at hidle he
      rw [Switch.convert_claims] at hd
      obtain ⟨e, hew, rfl⟩ := List.mem_map.mp hd
      rcases Claim.converted_established.mp he with ⟨_, hid⟩ | hest
      · exact hmake hid
      · exact h r hr hidle w hw e hew hest
  · exact .refl s

theorem State.releaseHeard_follows (s : State) (sender route : Nat) (force : Bool) :
    s.Follows (s.releaseHeard sender route force).2 := by
  unfold State.releaseHeard
  split
  · exact .refl s
  · split
    · exact s.takeDown_follows route
    · exact .of_frame rfl rfl rfl rfl rfl

theorem State.orphanRoutes_follows (s : State) (absent : List Nat) : s.Follows (s.orphanRoutes absent) := by
  refine .foldl (fun u r => ?_) _ s
  have horphan : u.Follows (u.onRoute r.plan.id (fun q => { q with state := .orphaned })) := by
    rw [State.onRoute_eq]
    exact .onRoutes u _ (fun q => by split <;> rfl) fun q h => by split at h <;> [cases h; exact h]
  exact horphan.trans (.of_frame rfl rfl rfl rfl rfl)

/-! ### Closes (R82 to R84) -/

theorem State.handOver_follows (s : State) (c : Context) (done : Bool) (record : CloseRecord) :
    s.Follows (s.handOver c done record) :=
  .of_claimPart (s.handOver_claimPart c done record) fun h => h.handOver c done record

theorem State.closeGuard_follows (s : State) (g : Tag) : s.Follows (s.closeGuard g) := .of_frame rfl rfl rfl rfl rfl

theorem State.closeFailed_follows (s : State) (c : Context) (record : CloseRecord) : s.Follows (s.closeFailed c record) := by
  have hdrop := (s.dropTagClaims_follows c.tag).trans (State.dropBusy_follows _ c.tag)
  unfold State.closeFailed
  dsimp only
  refine State.Follows.trans (.trans ?_ (.onContext _ _ _)) (State.handOver_follows _ _ _ _)
  split
  · split
    · exact hdrop.trans (State.closeGuard_follows _ _)
    · exact hdrop
  · split
    · exact hdrop.trans (State.closeGuard_follows _ _)
    · exact hdrop

theorem State.closeOpen_follows (record : Context → CloseRecord) (s : State) (g : Tag) :
    s.Follows (State.closeOpen record s g) := by
  unfold State.closeOpen
  split
  · split
    · exact s.closeFailed_follows _ _
    · exact .refl s
  · exact .refl s

theorem State.closeAll_follows (record : Context → CloseRecord) (l : List Tag) (s : State) :
    s.Follows (l.foldl (State.closeOpen record) s) := .foldl (State.closeOpen_follows record) l s

/-! ### Phases (R75, R78, R81) -/

theorem State.trimStep_follows (s : State) (g : Tag) : s.Follows (s.trimStep g) := by
  unfold State.trimStep
  split
  · exact .refl s
  · split
    · exact .refl s
    · split
      · exact (State.Follows.onContext s g _).trans (State.fixTrim_follows _ _ _ _)
      · exact .of_frame rfl rfl rfl rfl rfl

theorem State.enterCold_follows (s : State) (c : Context) : s.Follows (s.enterCold c) := by
  by_cases hrole : c.role = .sponsorOnly
  · unfold State.enterCold
    rw [if_pos hrole]
    exact .onContext s _ _
  · have hcold : s.Follows (s.intoCold c) := .of_frame rfl rfl rfl rfl rfl
    rw [State.enterCold_eq s hrole]
    split
    · exact hcold.trans (State.trimStep_follows _ _)
    · exact hcold

theorem State.drive_follows (s : State) (g : Tag) (inMove : Bool) (i p : Nat) : s.Follows (s.drive g inMove i p).2 :=
  .of_same (s.drive_claimPart g inMove i p) (by rw [s.drive_rest g inMove i p])

theorem State.driveFor_follows (g : Tag) (s : State) (q : Nat × Nat) : s.Follows (State.driveFor g s q) :=
  (s.drive_follows g true q.1 q.2).trans (.onContext _ _ _)

theorem State.enterMove_follows (s : State) (c : Context) : s.Follows (s.enterMove c) := by
  have hbreak : s.Follows (s.breakOf c) := by
    unfold State.breakOf
    split
    · exact s.breakDown_follows _
    · exact .refl s
  have hcommit := hbreak.trans (.onContext _ c.tag Context.commit)
  rw [State.enterMove_eq]
  refine State.Follows.trans ?_ (.onContext _ _ _)
  split
  · exact hcommit.trans (.foldl (State.driveFor_follows c.tag) _ _)
  · exact hcommit

theorem State.enterDone_follows (s : State) (c : Context) : s.Follows (s.enterDone c) := by
  have hclear := ((s.makeEstablished_follows c).trans (State.dropBusy_follows _ c.tag)).trans (State.closeGuard_follows _ c.tag)
  unfold State.enterDone
  dsimp only
  refine State.Follows.trans (.trans (hclear.trans ?_) (.onContext _ _ _)) (State.handOver_follows _ _ _ _)
  split
  · exact .of_frame rfl rfl rfl rfl rfl
  · exact .refl _

theorem State.testPhases_follows (v : Voice) (g : Tag) : ∀ (fuel : Nat) (s : State), s.Follows (State.testPhases v g fuel s)
  | 0, s => .refl s
  | fuel + 1, s => by
    unfold State.testPhases
    split
    · exact .refl s
    split
    · exact .refl s
    split
    · exact s.closeFailed_follows _ _
    split
    · exact (s.enterCold_follows _).trans (State.testPhases_follows v g fuel _)
    split
    · exact (s.enterMove_follows _).trans (State.testPhases_follows v g fuel _)
    split
    · exact s.enterDone_follows _
    · exact .refl s

/-! ### Records heard (R65 to R72) -/

theorem State.takeEntry_follows (sender : Nat) (s : State) (e : StageEntry) : s.Follows (State.takeEntry sender s e) := by
  unfold State.takeEntry
  split
  · exact .refl s
  dsimp only
  split
  · refine State.Follows.trans ?_ (State.testPhases_follows _ _ 4 _)
    split
    · exact .onContext s _ _
    · exact .refl s
  · exact .refl s

theorem Route.markFree_kept (g : Tag) (r : Route) : (r.markFree g).plan = r.plan ∧ (r.markFree g).state = r.state := by
  unfold Route.markFree
  split <;> exact ⟨rfl, rfl⟩

theorem State.openContext_follows (s : State) (p : Propose) (sponsor : Nat) : s.Follows (s.openContext p sponsor) := by
  obtain ⟨role, report, t, e, ht⟩ := s.openContext_cases p sponsor
  have hmark := s.markRoutes_follows p.make p.brk (Route.mark { sponsor := sponsor, seq := p.seq }) (fun _ => rfl) (fun _ => rfl)
  have hopened : s.Follows t := by
    rcases ht with rfl | rfl | ⟨_, rfl | ⟨_, rfl⟩⟩
    · exact .refl t
    · exact s.markRoutes_follows _ _ _ (fun r => (r.markFree_kept _).1) (fun r => (r.markFree_kept _).2)
    · exact hmark
    · exact hmark.trans (State.claimCheck_follows _ _ _ _ _)
  rw [e]
  exact hopened.trans (.of_frame rfl rfl rfl rfl rfl)

theorem State.endReservation_follows (s : State) : s.Follows s.endReservation := by
  unfold State.endReservation
  split
  · exact .of_frame rfl rfl rfl rfl rfl
  · exact .refl s

theorem State.proposeHeard_follows (s : State) (sponsor : Nat) (p : Propose) : s.Follows (s.proposeHeard sponsor p) := by
  have hreject : s.Follows s.countRejected := .of_frame rfl rfl rfl rfl rfl
  unfold State.proposeHeard
  dsimp only
  split
  · exact .refl s
  split
  · split
    · exact (hreject.trans (State.endReservation_follows _)).trans
        (.of_claimPart (State.proposeNotOpened_claimPart _) fun h => h.proposeNotOpened)
    · exact hreject
  have hown : s.Follows (if (sponsor == s.me) = true then s.endReservation else s) := by
    split
    · exact s.endReservation_follows
    · exact .refl s
  generalize (if (sponsor == s.me) = true then s.endReservation else s) = t at hown ⊢
  refine hown.trans ?_
  split
  · split
    · exact (t.openContext_follows p sponsor).trans (.of_claimPart (State.proposeOpened_claimPart _) fun h => h.proposeOpened)
    · exact t.openContext_follows p sponsor
  · exact .of_frame rfl rfl rfl rfl rfl

theorem State.messageHeard_follows (s : State) (sender : Nat) (changeovers : Bool) (m : Option Message) :
    s.Follows (s.messageHeard sender changeovers m) := by
  unfold State.messageHeard
  split
  · exact .refl s
  · split
    · exact s.proposeHeard_follows sender _
    · exact .refl s
  · rename_i route force
    have hr := s.releaseHeard_follows sender route force
    dsimp only
    split
    · exact hr.trans (.of_claimPart (State.releaseAnswered_claimPart _ _) fun h => h.releaseAnswered _)
    · exact hr

theorem State.deliver_follows (s : State) (r : SlotRecord) : s.Follows (s.deliver r) := by
  unfold State.deliver
  split
  · exact ((State.Follows.foldl (State.takeEntry_follows r.sender) r.entries s).trans (State.closeAll_follows _ _ _)).trans
      (State.messageHeard_follows _ _ _ _)
  · exact s.messageHeard_follows _ _ _

/-! ### Freeing, settles and windows (R17, R74, R76, R85) -/

theorem State.drainTest_follows (s : State) : s.Follows s.drainTest := .of_claimPart s.drainTest_claimPart fun h => h.drainTest

theorem State.freeContext_follows (s : State) (g : Tag) : s.Follows (s.freeContext g) := by
  have hremove : s.Follows { s with cxe := { s.cxe with contexts := s.cxe.contexts.filter (fun c => c.tag != g) } } :=
    .of_frame rfl rfl rfl rfl rfl
  refine State.Follows.trans (hremove.trans ?_) (State.drainTest_follows _)
  exact .onSwitches _ (fun w => { w with waiters := w.waiters.filter (fun t => t != g) }) fun _ d hd _ hr => ⟨d, hd, hr⟩

theorem State.freeIfDone_follows (s : State) (g : Tag) : s.Follows (s.freeIfDone g) := by
  unfold State.freeIfDone
  split
  · split
    · exact s.freeContext_follows g
    · exact .refl s
  · exact .refl s

theorem State.tellOutcome_follows (report : SettleReport) (s : State) (g : Tag) : s.Follows (State.tellOutcome report s g) := by
  unfold State.tellOutcome
  split
  · exact .refl s
  · dsimp only
    refine State.Follows.trans ?_ (State.freeIfDone_follows _ g)
    split
    · exact (State.Follows.onContext s g _).trans (State.closeGuard_follows _ g)
    · exact .onContext s g _

theorem State.endSettle_spu (s : State) (i : Nat) : (s.endSettle i).2.spu = s.spu := by
  have hfire : ∀ (u : State) (w : Switch), (u.fireFault w).spu = u.spu := by
    intro u w
    unfold State.fireFault
    repeat' split
    all_goals rfl
  exact (foldl_keeps _ State.spu hfire _ _).trans (foldl_keeps _ State.spu (by intros; rfl) _ s)

theorem State.settleEnds_follows (s : State) (i : Nat) : s.Follows (s.settleEnds i) :=
  (State.Follows.of_same (s.endSettle_claimPart i) (s.endSettle_spu i)).trans (.foldl (State.tellOutcome_follows _) _ _)

theorem State.windowRunsOut_follows (s : State) (g : Tag) : s.Follows (s.windowRunsOut g) := by
  unfold State.windowRunsOut
  split
  · split
    · exact (State.Follows.onContext s g _).trans (State.closeFailed_follows _ _ _)
    · exact .refl s
  · exact .refl s

theorem State.quietRunsOut_follows (s : State) (g : Tag) : s.Follows (s.quietRunsOut g) := by
  unfold State.quietRunsOut
  split
  · split
    · exact .of_frame rfl rfl rfl rfl rfl
    · exact .refl s
  · exact .refl s

theorem State.sampleTaken_follows (s : State) (input : Nat) (level : Int) : s.Follows (s.sampleTaken input level) := by
  have hsample : s.Follows { s with rfg := (s.rfg.takeSample input level).1 } := .of_frame rfl rfl rfl rfl rfl
  exact hsample.trans (.foldl (fun u g => .onContext u g Context.quietPass) _ _)

end Sys2Proof.Machine
end

section
/-! SUPPORT. The bus, the controller port and the work of a frame end keep the route law and the slots' law, and the load keeps
all three laws. -/

namespace Sys2Proof.Machine

/-! ### The work of a frame end (R51, R52, R58, R137) -/

theorem State.sponsorEvent_follows (s : State) : s.Follows s.sponsorEvent :=
  .of_claimPart s.sponsorEvent_claimPart fun h => h.sponsorEvent

theorem State.peersGoAbsent_follows (s : State) : s.Follows s.peersGoAbsent := by
  unfold State.peersGoAbsent
  refine State.Follows.trans (.trans (.foldl (fun u n => ?_) _ s) (State.closeAll_follows _ _ _)) (State.orphanRoutes_follows _ _)
  exact .of_frame rfl rfl rfl rfl rfl

theorem State.silenceComplete_follows (s : State) : s.Follows s.silenceComplete := by
  unfold State.silenceComplete
  split
  · rename_i h
    exact .withBiu _ (by rw [h.1]; exact nofun) nofun
  · exact .refl s

theorem State.clearComplete_follows (s : State) : s.Follows s.clearComplete := by
  unfold State.clearComplete
  split
  · rename_i h
    exact (State.Follows.withBiu { s.biu with busState := .onBus } (by rw [h.1]; exact nofun) nofun).trans
      (State.sponsorEvent_follows _)
  · exact .refl s

theorem State.backoffRunsOut_follows (s : State) (name : SlotName) : s.Follows (s.backoffRunsOut name) := by
  have hretry : s.Follows (s.retrySlot name) := .of_claimPart (s.retrySlot_claimPart name) fun h => h.retrySlot name
  unfold State.backoffRunsOut
  dsimp only
  split
  · exact hretry.trans (State.sponsorEvent_follows _)
  · exact hretry

theorem State.doWork_follows (s : State) (w : Work) : s.Follows (s.doWork w) := by
  refine State.Follows.trans ?_ (State.complete_follows _)
  cases w with
  | settle i =>
    dsimp only
    split
    · exact s.settleEnds_follows i
    · exact .refl s
  | quiet g => exact s.quietRunsOut_follows g
  | window g => exact s.windowRunsOut_follows g
  | absence => exact s.peersGoAbsent_follows
  | linger g => exact s.freeIfDone_follows g
  | silence => exact s.silenceComplete_follows
  | clear => exact s.clearComplete_follows
  | backoff name => exact s.backoffRunsOut_follows name
  | takeUp => exact .of_claimPart s.takeUps_claimPart fun h => h.takeUps

theorem State.caughtUp_follows (s : State) : s.Follows s.caughtUp :=
  (State.Follows.of_frame rfl rfl rfl rfl rfl : s.Follows { s with agenda := [] }).trans (.foldl State.doWork_follows _ _)

theorem State.workNow_follows (s : State) (w : Work) : s.Follows (s.workNow w) := by
  unfold State.workNow
  split
  · exact (State.Follows.of_frame rfl rfl rfl rfl rfl : s.Follows { s with agenda := s.agenda.erase w }).trans
      (State.doWork_follows _ w)
  · exact .refl s

theorem SponsorSlot.frameEnd_kept (x : SponsorSlot) : x.frameEnd.state = x.state ∧ x.frameEnd.attempts = x.attempts := by
  unfold SponsorSlot.frameEnd
  split <;> exact ⟨rfl, rfl⟩

theorem State.frameEnds_follows (s : State) (sense : SenseLevels) : s.Follows (s.frameEnds sense) := by
  refine .of_claimPart (s.frameEnds_claimPart sense) fun h => ?_
  unfold State.frameEnds
  split
  · have hslots := h.onSlots SponsorSlot.frameEnd (fun x => x.frameEnd_kept.1) (fun x => x.frameEnd_kept.2)
    have hcount : ({ s with sense := sense } : State).countFrame.SlotsLawful := hslots.congr rfl id
    exact hcount.drainTest.congr rfl id
  · exact h

/-! ### The bus (R44 to R57) -/

theorem State.enterDuplicate_follows {s : State} (hb : s.biu.busState ≠ .loading) (cause : DuplicateCause) :
    s.Follows (s.enterDuplicate cause) := by
  have hend : ∀ (u : State) (name : SlotName), u.Follows (u.endSilent name) := fun u name =>
    .of_claimPart (u.endSilent_claimPart name) fun h => h.endSilent name
  have hbus : s.Follows { s with biu := { s.biu with busState := .duplicate, cause := some cause, outbound := [] } } :=
    .withBiu _ hb nofun
  unfold State.enterDuplicate State.fallSilent
  refine ((hbus.trans ?_).trans (State.closeAll_follows _ _ _)).trans ((hend _ .a).trans (hend _ .b))
  exact .of_frame rfl rfl rfl rfl rfl

theorem State.peerSlot_follows (s : State) (n : Nat) (heard : Heard) : s.Follows (s.peerSlot n heard) := by
  cases heard with
  | nothing => exact .refl s
  | failed => exact .of_frame rfl rfl rfl rfl rfl
  | good r =>
    refine State.Follows.trans ?_ (State.deliver_follows _ r)
    unfold State.peerHeard
    dsimp only
    split <;> exact .of_frame rfl rfl rfl rfl rfl

theorem State.ownSlot_follows (s : State) (copy : Option SlotRecord) (heard : Heard) : s.Follows (s.ownSlot copy heard) := by
  have dup : s.biu.busState ≠ .loading → ∀ c, s.Follows (s.enterDuplicate c) := State.enterDuplicate_follows
  unfold State.ownSlot
  split
  iterate 2
    rename_i hb
    split
    · exact s.deliver_follows _
    · exact dup (by rw [hb]; exact nofun) _
  iterate 2
    rename_i hb
    exact dup (by rw [hb]; exact nofun) _
  iterate 2
    rename_i hb
    split
    · exact dup (by rw [hb]; exact nofun) _
    · exact .refl s
  · rename_i r hb
    split
    · have hd := s.deliver_follows r
      exact hd.trans (State.enterDuplicate_follows (hd.notLoading (by rw [hb]; exact nofun)) _)
    · exact .refl s
  · rename_i hb
    split
    · exact dup (by rw [hb]; exact nofun) _
    · exact .refl s
  · exact (State.Follows.of_frame rfl rfl rfl rfl rfl : s.Follows { s with biu := s.biu.signalHeard }).trans
      (State.deliver_follows _ _)
  · exact .of_frame rfl rfl rfl rfl rfl
  · exact .refl s

theorem State.endSlot_follows (s : State) (line : Bits) : s.Follows (s.endSlot line) := by
  unfold State.endSlot
  split
  · split
    · dsimp only
      split
      · refine State.Follows.trans ?_ (State.ownSlot_follows _ _ _)
        exact .of_frame rfl rfl rfl rfl rfl
      · refine State.Follows.trans ?_ (State.peerSlot_follows _ _ _)
        exact .of_frame rfl rfl rfl rfl rfl
    · exact .refl s
  · exact .refl s

theorem State.startOwnSlot_follows (s : State) : s.Follows s.startOwnSlot := by
  refine .of_claimPart s.startOwnSlot_claimPart fun h => ?_
  unfold State.startOwnSlot
  split
  · exact h.testWithdrawals.takeMessage.congr rfl id
  · exact h

theorem State.timerDrives_follows (s : State) : s.Follows s.timerDrives := by
  rcases s.timerDrives_cases with e | e <;> rw [e] <;> exact .of_frame rfl rfl rfl rfl rfl

theorem State.syncSeen_follows (s : State) : s.Follows s.syncSeen := by
  unfold State.syncSeen
  split
  · exact .of_frame rfl rfl rfl rfl rfl
  · exact .refl s

theorem State.frameTimerExpires_follows (s : State) : s.Follows s.frameTimerExpires := by
  unfold State.frameTimerExpires
  split
  · split
    · exact .of_frame rfl rfl rfl rfl rfl
    · exact s.timerDrives_follows
  · exact .refl s

theorem State.searchSpanExpires_follows (s : State) : s.Follows s.searchSpanExpires := by
  unfold State.searchSpanExpires
  split
  · exact s.timerDrives_follows
  · exact .refl s

/-! ### The controller port (chapter 9) -/

theorem State.leave_follows (s : State) : s.Follows s.leave.2 := by
  unfold State.leave
  split <;> rename_i hb
  iterate 3 exact .withBiu _ (by rw [hb]; exact nofun) nofun
  all_goals exact .refl s

theorem State.join_follows (s : State) : s.Follows s.join.2 := by
  unfold State.join
  split <;> rename_i hb
  · have hs : s.biu.busState ≠ .loading := by rw [hb]; exact nofun
    dsimp only
    split <;> exact .withBiu _ hs nofun
  · exact (State.Follows.withBiu { s.biu with busState := .onBus } (by rw [hb]; exact nofun) nofun).trans
      (State.sponsorEvent_follows _)
  all_goals exact .refl s

theorem Switch.restart_claims (sense : SenseLevels) (w : Switch) : (w.restart sense).claims = [] := by
  unfold Switch.restart
  dsimp only
  split <;> rfl

/-- RESTART leaves no claim and both slots FREE (R25, R145). -/
theorem State.restarted_follows {s : State} (hb : s.biu.busState ≠ .loading) : s.Follows s.restarted := by
  refine ⟨fun _ r _ _ v hv c hc => ?_, iff_of_false nofun hb, rfl, fun _ => ⟨fun name => ?_, fun _ => rfl⟩⟩
  · obtain ⟨w, _, rfl⟩ := List.mem_map.mp hv
    rw [Switch.restart_claims] at hc
    cases hc
  · cases name <;> exact SponsorSlot.empty_lawful

theorem State.submit_follows (s : State) (j : Job) : s.Follows (s.submit j).2 := by
  unfold State.submit
  split
  · exact .refl s
  · refine State.Follows.trans ?_ (State.sponsorEvent_follows _)
    exact .of_frame rfl rfl rfl rfl rfl

theorem State.cancelTaken_follows (s : State) (requestId : Nat) : s.Follows (s.cancelTaken requestId).2 := by
  have h : s.Follows (s.cancelRequest requestId).2 :=
    .of_claimPart (s.cancelRequest_claimPart requestId) fun h => h.cancelRequest requestId
  unfold State.cancelTaken
  split <;> rename_i e <;> rw [e] at h <;> exact h

theorem State.clearFaultOf_follows (s : State) (i : Nat) : s.Follows (s.clearFaultOf i).2 := by
  unfold State.clearFaultOf
  split
  · exact .refl s
  · refine .onSwitch s i _ fun w d hd r hr => ⟨d, ?_, hr⟩
    have hclaims : (w.clearFault s.sense).2.claims = w.claims := congrArg Prod.snd (w.clearFault_claimPart s.sense)
    exact hclaims ▸ hd

theorem State.takeNotice_follows (s : State) : s.Follows s.takeNotice.2 := by
  unfold State.takeNotice
  split
  · exact .refl s
  · exact .of_frame rfl rfl rfl rfl rfl

theorem State.clearEventSet_follows (s : State) (events : Word16) : s.Follows (s.clearEventSet events).2 := by
  unfold State.clearEventSet
  split
  · exact .refl s
  · exact .of_frame rfl rfl rfl rfl rfl

theorem State.saveWearTaken_follows (s : State) : s.Follows s.saveWearTaken.2 := by
  unfold State.saveWearTaken State.beginSave
  cases s.pld.save with
  | idle => exact .of_frame rfl rfl rfl rfl rfl
  | writing copy w => exact .refl s

theorem State.carryOut_follows (s : State) (id : Nat) (body : RequestBody)
    (hb : body = .restart → s.biu.busState ≠ .loading) : s.Follows (s.carryOut id body).2 := by
  cases body with
  | make | breakRoute | exchange | retrim => exact s.submit_follows _
  | cancel x => exact s.cancelTaken_follows x
  | takeNotice => exact s.takeNotice_follows
  | queryRoute | querySwitch | wrongForm | unknownKind => exact .refl s
  | queryNode | setNotifyMap => exact .of_frame rfl rfl rfl rfl rfl
  | clearFault i => exact s.clearFaultOf_follows i
  | clearEvents e => exact s.clearEventSet_follows e
  | saveWear => exact s.saveWearTaken_follows
  | leaveBus => exact s.leave_follows
  | joinBus => exact s.join_follows
  | restart => exact State.restarted_follows (hb rfl)

/-- A RESTART passes the tests of R163 only outside LOADING. -/
theorem State.takeRequest_follows (s : State) (r : Request) : s.Follows (s.takeRequest r) := by
  have hanswer : s.Follows (s.answer r).2 := by
    unfold State.answer
    split
    · exact .refl s
    · rename_i hr
      refine s.carryOut_follows r.id r.body fun hbody hb => ?_
      rw [hbody] at hr
      simp [State.requestRefusal, hb, BusState.planless, RequestBody.kind] at hr
  exact hanswer.trans (.of_frame rfl rfl rfl rfl rfl)

theorem State.offer_follows (s : State) (r : Request) : s.Follows (s.offer r) := by
  unfold State.offer
  split
  · exact s.takeRequest_follows r
  · exact .of_frame rfl rfl rfl rfl rfl
  · exact .of_frame rfl rfl rfl rfl rfl

theorem State.sensed_follows (s : State) (sense : SenseLevels) : s.Follows (s.sensed sense) := .of_frame rfl rfl rfl rfl rfl

theorem State.frameArrived_follows (s : State) (bytes : List Byte) : s.Follows (s.frameArrived bytes) := by
  unfold State.frameArrived
  split
  · exact s.offer_follows _
  · exact .of_frame rfl rfl rfl rfl rfl

theorem State.sendComplete_follows (s : State) : s.Follows s.sendComplete := by
  have hfree : s.Follows { s with ctp := { s.ctp with sending := none, rxBuffer := none } } := .of_frame rfl rfl rfl rfl rfl
  unfold State.sendComplete
  split
  · exact .refl s
  · dsimp only
    split
    · exact hfree.trans (State.takeRequest_follows _ _)
    · exact hfree

theorem State.saveAccepted_follows (s : State) : s.Follows s.saveAccepted := by
  unfold State.saveAccepted
  split
  · exact .refl s
  · dsimp only
    split <;> exact .of_frame rfl rfl rfl rfl rfl

theorem State.saveFailed_follows (s : State) (reached : Nat) : s.Follows (s.saveFailed reached) := by
  unfold State.saveFailed
  split
  · exact .refl s
  · exact .of_frame rfl rfl rfl rfl rfl

/-! ### The load (R189 to R193) -/

/-- What ends a load keeps the laws: it leaves the load and the bus state both past LOADING, no established claim of an IDLE
route, and the slots as they stood; where it turns single-sponsor mode on, slot B is FREE, as it is throughout a load. -/
theorem State.KeepsLaws.of_loaded {s t : State} (hroutes : s.routeLawful → t.routeLawful) (hload : t.pld.load ≠ .loading)
    (hbus : t.biu.busState ≠ .loading) (ha : t.spu.slotA = s.spu.slotA) (hb : t.spu.slotB = s.spu.slotB)
    (hshut : t.spu.single = true → s.spu.single = true ∨ s.pld.load = .loading) : s.KeepsLaws t := by
  have hagree : t.loadLawful := iff_of_false hload hbus
  refine ⟨hroutes, fun _ => hagree, fun hs => ?_⟩
  obtain ⟨hl, hslots⟩ := s.sponsorLawful_iff.mp hs
  have hslot : ∀ name, t.slot name = s.slot name := by
    intro name
    cases name with
    | a => exact ha
    | b => exact hb
  refine t.sponsorLawful_iff.mpr ⟨hagree, fun name => hslot name ▸ hslots.each name, fun h => ?_⟩
  rw [hslot]
  exact hslots.shut ((hshut (h.resolve_right hbus)).imp_right hl.mp)

theorem State.refusePlan_keeps (s : State) (fault : PlanFault) : s.KeepsLaws (s.refusePlan fault) :=
  .of_loaded id nofun nofun rfl rfl .inl

theorem State.beginLoad_keeps (s : State) (straps : Nat) (plan : List Byte) : s.KeepsLaws (s.beginLoad straps plan) := by
  unfold State.beginLoad
  split
  · have hbegun : s.Follows { s with mem := Memory.placePlan s.mem plan, pld := { s.pld with begun := true } } :=
      .of_frame rfl rfl rfl rfl rfl
    dsimp only
    split
    · refine (hbegun.trans ?_).keeps
      exact .of_frame rfl rfl rfl rfl rfl
    · exact hbegun.keeps.trans (State.refusePlan_keeps _ _)
  · exact (State.Follows.refl s).keeps

theorem State.rejectPlan_keeps (s : State) : s.KeepsLaws s.rejectPlan := by
  unfold State.rejectPlan
  split
  · split
    · exact (State.Follows.refl s).keeps
    · exact s.refusePlan_keeps _
  · exact (State.Follows.refl s).keeps

theorem State.wearLost_follows (s : State) : s.Follows s.wearLost := .of_frame rfl rfl rfl rfl rfl

theorem State.notAnswered_keeps (s : State) (access : MemoryAccess) : s.KeepsLaws (s.notAnswered access) := by
  cases access with
  | planRead =>
    unfold State.notAnswered
    dsimp only
    split
    · exact s.refusePlan_keeps _
    · exact (State.Follows.refl s).keeps
  | wearRead =>
    unfold State.notAnswered
    dsimp only
    split
    · split
      · exact s.wearLost_follows.keeps
      · exact (State.Follows.refl s).keeps
    · exact (State.Follows.refl s).keeps
  | saveWrite reached => exact (s.saveFailed_follows reached).keeps

theorem State.judgeWear_follows (s : State) : s.Follows s.judgeWear.2 := by
  unfold State.judgeWear
  split
  · exact .refl s
  · split
    · exact .of_frame rfl rfl rfl rfl rfl
    · exact s.wearLost_follows

/-- The blocks as a plan fills them hold no claim (R193). -/
theorem State.fill_keeps {s : State} (hl : s.pld.load = .loading) (p : RawPlan) (counts : Option (List Nat))
    (sense : SenseLevels) : s.KeepsLaws (s.fill p counts sense) := by
  obtain ⟨hfilled, _, hbus⟩ := s.fill_filled p counts sense
  have hspu : (s.fill p counts sense).spu = { s.spu with single := p.single == 1, window := p.window } :=
    foldl_keeps (fun (u : State) (w : Switch) => u.fire .worn (.switch w.plan.index)) State.spu (fun _ _ => rfl) _ _
  refine .of_loaded (fun _ r _ _ w hw c hc => ?_) nofun (hbus ▸ nofun) (by rw [hspu]) (by rw [hspu]) (fun _ => .inr hl)
  obtain ⟨_, _, hs⟩ := hfilled.switches
  rw [hs] at hw
  obtain ⟨v, _, rfl⟩ := List.mem_map.mp hw
  cases hc

theorem State.acceptPlan_keeps (s : State) (sense : SenseLevels) : s.KeepsLaws (s.acceptPlan sense) := by
  unfold State.acceptPlan
  split
  · rename_i hl
    split
    · have hwear := s.judgeWear_follows
      exact hwear.keeps.trans (State.fill_keeps (hwear.load.trans (State.loading_load hl)) _ _ _)
    · exact (State.Follows.refl s).keeps
  · exact (State.Follows.refl s).keeps

theorem State.hardwareReset_keeps (s : State) (reached : Nat) : s.KeepsLaws (s.hardwareReset reached) := by
  have hload : (s.hardwareReset reached).loadLawful := iff_of_true rfl rfl
  have hslots : (s.hardwareReset reached).SlotsLawful := by
    refine ⟨fun name => ?_, fun _ => rfl⟩
    cases name <;> exact SponsorSlot.empty_lawful
  exact ⟨fun _ _ hr => (nomatch hr), fun _ => hload, fun _ => (State.sponsorLawful_iff _).mpr ⟨hload, hslots⟩⟩

/-! ### Every command -/

/-- A command that acts as one event keeps the laws where its own meaning does. -/
theorem State.event_keeps {s t : State} {act : State → State} (hact : ∀ u : State, u.KeepsLaws (act u))
    (e : s.event act = .next t) : s.KeepsLaws t := by
  cases e
  exact (s.caughtUp_follows.keeps.trans (hact _)).trans (State.complete_follows _).keeps

theorem State.event_follows {s t : State} {act : State → State} (hact : ∀ u : State, u.Follows (act u))
    (e : s.event act = .next t) : s.KeepsLaws t := State.event_keeps (fun u => (hact u).keeps) e

theorem State.exec_keeps {s t : State} (c : Instr) (e : exec c s = .next t) : s.KeepsLaws t := by
  cases c with
  | hardwareReset reached => cases e; exact s.hardwareReset_keeps reached
  | resetRelease straps plan => exact State.event_keeps (fun u => u.beginLoad_keeps straps plan) e
  | memoryNoAnswer access => exact State.event_keeps (fun u => u.notAnswered_keeps access) e
  | planRefused => exact State.event_keeps State.rejectPlan_keeps e
  | planAccepted sense => exact State.event_keeps (fun u => u.acceptPlan_keeps sense) e
  | settleEnd | answerWindowExpiry | quietTimeout | lingerExpiry | backoffExpiry | takeUp | silenceCountComplete
  | clearCountComplete | peerAbsent =>
    cases e
    exact (s.workNow_follows _).keeps
  | requestUnknownKind | make | breakRoute | exchange | retrim | cancel | takeNotice | queryNode | queryRoute | querySwitch
  | clearEvents | setNotifyMap | saveWear | leaveBus | joinBus =>
    exact State.event_follows (fun u => u.offer_follows _) e
  | clearFault | restart => exact State.event_follows (fun u => (u.sensed_follows _).trans (State.offer_follows _ _)) e
  | frameReceived bytes sense =>
    exact State.event_follows (fun u => (u.sensed_follows sense).trans (State.frameArrived_follows _ bytes)) e
  | responseSendComplete sense =>
    exact State.event_follows (fun u => (u.sensed_follows sense).trans (State.sendComplete_follows _)) e
  | frameGapTimeout => exact State.event_follows (act := State.framingFault) (fun _ => .of_frame rfl rfl rfl rfl rfl) e
  | saveWearWriteAccepted => exact State.event_follows State.saveAccepted_follows e
  | saveWearWriteFailed reached => exact State.event_follows (fun u => u.saveFailed_follows reached) e
  | syncRecognised => exact State.event_follows State.syncSeen_follows e
  | frameTimerExpiry => exact State.event_follows State.frameTimerExpires_follows e
  | searchSpanExpiry => exact State.event_follows State.searchSpanExpires_follows e
  | ownSlotStart => exact State.event_follows State.startOwnSlot_follows e
  | slotEnd line => exact State.event_follows (fun u => u.endSlot_follows line) e
  | frameEnd sense => exact State.event_follows (fun u => u.frameEnds_follows sense) e
  | detectorSample input level => exact State.event_follows (fun u => u.sampleTaken_follows input level) e
  | readyPulseExpiry line =>
    exact State.event_follows (act := fun u => { u with rfg := u.rfg.pulseExpiry line })
      (fun _ => .of_frame rfl rfl rfl rfl rfl) e

theorem step_keepsLaws {s t : State} (e : step s = .next t) : s.KeepsLaws t := by
  unfold step at e
  split at e
  · cases e
    exact (State.Follows.refl s).keeps
  · rename_i rest _
    have hqueue : s.Follows (s.queued rest) := .of_frame rfl rfl rfl rfl rfl
    exact hqueue.keeps.trans (State.exec_keeps _ e)

/-- Settles O56: each operation short of a load is one that `State.Follows`, and what ends a load leaves the slots as they
stood. -/
theorem routeAndSponsorLawsKept : Obligations.RouteAndSponsorLawsKept :=
  ⟨fun _ _ h e => (step_keepsLaws e).routes h, fun _ _ h e => (step_keepsLaws e).load h,
    fun _ _ h e => (step_keepsLaws e).sponsor h⟩

end Sys2Proof.Machine
end

section
/-! SUPPORT. The route check step by step, and what a RELEASE heard does (R30, R37). -/

namespace Sys2Proof.Machine

/-! ### The steps of the route check (R30) -/

/-- Step 1 finds no route to make: no record, and no break route (R30). -/
def State.unknownMake (s : State) (make : Nat) (brk : Option Nat) : Bool := (s.route? make).isNone && brk.isNone

/-- Step 2 finds the make route not free, which for a RETRIM is its busy tag alone (R30). -/
def State.makeTaken (s : State) (make : Nat) (brk : Option Nat) : Bool :=
  (s.route? make).any (fun r => if brk == some make then r.busy.isSome else r.state != .idle || r.busy.isSome)

/-- The record of a break route that this node has part in (R30 step 3). -/
def State.breakPart? (s : State) (brk : Option Nat) : Option Route := (brk.bind s.route?).filter s.participantRecord

/-- Step 3 finds the break route not ESTABLISHED with the sponsor as holder (R30). -/
def State.breakNotHeld (s : State) (sponsor : Nat) (brk : Option Nat) : Bool :=
  (s.breakPart? brk).any (fun b => !(b.state == .established && b.holder == some sponsor))

/-- Step 3 finds the break route's record with a busy tag (R30). -/
def State.breakTaken (s : State) (brk : Option Nat) : Bool := (s.breakPart? brk).any (fun b => b.busy.isSome)

/-- Step 4 finds a trim node with no attenuator (R30). -/
def State.trimMissing (s : State) (make : Nat) (trimHere : Bool) : Bool :=
  (s.route? make).any (fun r => trimHere && r.plan.trimAttenuator.isNone)

theorem State.routeCheckAnswer_eq (s : State) (sponsor make : Nat) (brk : Option Nat) (trimHere : Bool) :
    s.routeCheckAnswer sponsor make brk trimHere =
      if s.unknownMake make brk then .refuse .unknown
      else if s.makeTaken make brk then .refuse .routeBusy
      else if s.breakNotHeld sponsor brk then .refuse .notHolder
      else if s.breakTaken brk then .refuse .routeBusy
      else if s.trimMissing make trimHere then .refuse .noTrim
      else if (s.route? make).isNone then .breakOnly
      else .marked := by
  unfold State.routeCheckAnswer State.unknownMake State.makeTaken State.breakNotHeld State.breakTaken State.trimMissing
    State.breakPart?
  cases s.route? make <;> cases (brk.bind s.route?).filter s.participantRecord <;> rfl

theorem State.unknownMake_iff {s : State} {make : Nat} {brk : Option Nat} :
    s.unknownMake make brk = true ↔ s.route? make = none ∧ brk = none := by
  simp [State.unknownMake]

theorem State.makeTaken_iff {s : State} {make : Nat} {brk : Option Nat} :
    s.makeTaken make brk = true ↔
      ∃ r, s.route? make = some r ∧ (r.busy ≠ none ∨ (brk ≠ some make ∧ r.state ≠ .idle)) := by
  simp only [State.makeTaken, Option.any_eq_true]
  refine exists_congr fun r => and_congr_right fun _ => ?_
  by_cases hretrim : brk = some make
  · simp [hretrim, Option.isSome_iff_ne_none]
  · simp [hretrim, Option.isSome_iff_ne_none, or_comm]

theorem State.breakPart_iff {s : State} {brk : Option Nat} {b : Route} :
    s.breakPart? brk = some b ↔ ∃ x, brk = some x ∧ s.route? x = some b ∧ s.me ∈ b.plan.participants := by
  simp only [State.breakPart?, Option.filter_eq_some_iff, Option.bind_eq_some_iff, State.participantRecord,
    List.contains_eq_mem, decide_eq_true_eq, ← exists_and_right, and_assoc]

theorem State.breakNotHeld_iff {s : State} {sponsor : Nat} {brk : Option Nat} :
    s.breakNotHeld sponsor brk = true ↔
      ∃ b, (∃ x, brk = some x ∧ s.route? x = some b ∧ s.me ∈ b.plan.participants) ∧
        ¬(b.state = .established ∧ b.holder = some sponsor) := by
  simp only [State.breakNotHeld, Option.any_eq_true, State.breakPart_iff]
  refine exists_congr fun b => and_congr_right fun _ => ?_
  simp [imp_iff_not_or]

theorem State.breakTaken_iff {s : State} {brk : Option Nat} :
    s.breakTaken brk = true ↔
      ∃ b, (∃ x, brk = some x ∧ s.route? x = some b ∧ s.me ∈ b.plan.participants) ∧ b.busy ≠ none := by
  simp only [State.breakTaken, Option.any_eq_true, State.breakPart_iff, Option.isSome_iff_ne_none]

theorem State.trimMissing_iff {s : State} {make : Nat} {trimHere : Bool} :
    s.trimMissing make trimHere = true ↔
      trimHere = true ∧ ∃ r, s.route? make = some r ∧ r.plan.trimAttenuator = none := by
  simp [State.trimMissing, Option.any_eq_true, and_left_comm]

/-! ### The answer and the marks -/

/-- The records of the two routes take the tag as busy tag, each where it may. -/
theorem State.markRoutes_busy (s : State) (tag : Tag) (make : Nat) (brk : Option Nat) (may : Route → Bool) :
    s.markRoutes make brk (fun r => if may r = true then r.mark tag else r) =
      { s with rtb := { s.rtb with routes := s.rtb.routes.map (fun r =>
        if (r.plan.id = make ∨ brk = some r.plan.id) ∧ may r = true then { r with busy := some tag } else r) } } := by
  rw [State.markRoutes_eq s make brk _ (fun r => by split <;> rfl)]
  simp only [ite_and]
  rfl

/-- Settles O38: the answer by `State.routeCheckAnswer_eq`, each of its tests by what it finds, and the marks as one change of the
route records. -/
theorem routeCheckAnswers : Obligations.RouteCheckAnswers := by
  intro s tag make brk trimHere check unknown notFree part notHeld breakBusy noTrim marked
  have hunknown : s.unknownMake make brk = true ↔ unknown := State.unknownMake_iff
  have hfree : s.makeTaken make brk = true ↔ notFree := State.makeTaken_iff
  have hheld : s.breakNotHeld tag.sponsor brk = true ↔ notHeld := State.breakNotHeld_iff
  have hbusy : s.breakTaken brk = true ↔ breakBusy := State.breakTaken_iff
  have htrim : s.trimMissing make trimHere = true ↔ noTrim := State.trimMissing_iff
  have hanswer := s.routeCheckAnswer_eq tag.sponsor make brk trimHere
  rw [← hunknown, ← hfree, ← hheld, ← hbusy, ← htrim]
  refine ⟨fun h1 => ?_, fun h1 h2 => ?_, fun h1 h2 h3 => ?_, fun h1 h2 h3 h4 => ?_, fun h1 h2 h3 h4 h5 => ?_,
    fun h1 h2 h3 h4 h5 => ?_, ?_⟩
  · exact State.routeCheck_refuses (by rw [hanswer, if_pos h1])
  · exact State.routeCheck_refuses (by rw [hanswer, if_neg h1, if_pos h2])
  · exact State.routeCheck_refuses (by rw [hanswer, if_neg h1, if_neg h2, if_pos h3])
  · exact State.routeCheck_refuses (by rw [hanswer, if_neg h1, if_neg h2, if_neg h3, if_pos h4])
  · exact State.routeCheck_refuses (by rw [hanswer, if_neg h1, if_neg h2, if_neg h3, if_neg h4, if_pos h5])
  · rw [if_neg h1, if_neg h2, if_neg h3, if_neg h4, if_neg h5] at hanswer
    have hpass : ∀ why, s.routeCheckAnswer tag.sponsor make brk trimHere ≠ .refuse why := by
      intro why
      rw [hanswer]
      split <;> exact nofun
    refine (State.routeCheck_passes hpass).trans (Prod.ext ?_ (s.markRoutes_busy tag make brk (fun _ => true)))
    simp only [hanswer, Option.isNone_iff_eq_none]
  · exact Prod.ext rfl (s.markRoutes_busy tag make brk (fun r => r.busy.isNone))

/-! ### A RELEASE heard (R37, R38) -/

theorem Route.honours_iff {sender : Nat} {force : Bool} {r : Route} :
    r.honours sender force = true ↔
      (r.state = .established ∧ r.holder = some sender) ∨ (r.state = .orphaned ∧ force = true) := by
  simp [Route.honours]

/-- What a RELEASE does with a record (R37): the route taken down, or a stray counted (R38). -/
theorem State.releaseHeard_record {s : State} {route : Nat} {r : Route} (hr : s.route? route = some r) (sender : Nat)
    (force : Bool) : s.releaseHeard sender route force =
      if r.honours sender force then (.honoured, s.takeDown route)
      else (.stray, { s with rtb := { s.rtb with stray := satAdd Config.count16 s.rtb.stray 1 } }) := by
  unfold State.releaseHeard
  rw [hr]

/-- A route taken down leaves each switch as the route's claims leave it (R12). -/
theorem State.takeDown_switch (s : State) (b i : Nat) : (s.takeDown b).switch? i = (s.switch? i).map (Switch.dropRoute b) :=
  s.switch_onSwitches i (Switch.dropRoute b) (fun _ => rfl)

/-- No established claim of a route taken down stays on any switch (R12). -/
theorem State.takeDown_none (s : State) (b : Nat) : ∀ w ∈ (s.takeDown b).sbc, ∀ c ∈ w.claims, c.holder ≠ .established b := by
  intro v hv
  obtain ⟨w, _, rfl⟩ := List.mem_map.mp hv
  exact w.dropRoute_none b

/-- Settles O44: an honoured RELEASE takes the route down, and `State.takeDown_route`, `State.takeDown_switch` and
`Switch.dropRoute_dropped` say what that leaves. -/
theorem releaseHonouredOrStray : Obligations.ReleaseHonouredOrStray := by
  intro s sender route force t
  refine ⟨fun hr => ?_, fun r hr => ?_⟩
  · unfold State.releaseHeard
    rw [hr]
  intro honoured
  have heq := State.releaseHeard_record hr sender force
  refine ⟨fun h => ?_, fun h => ?_⟩
  · rw [if_pos (Route.honours_iff.mpr h)] at heq
    have ht : t = s.takeDown route := congrArg Prod.snd heq
    rw [ht, heq]
    refine ⟨rfl, ?_, fun x hx => ?_, s.takeDown_none route, fun i w hw => ?_, map_bare_onSwitches s _ (Switch.dropRoute_bare route),
      rfl, rfl⟩
    · rw [State.takeDown_route, if_pos rfl, hr]
      rfl
    · rw [State.takeDown_route, if_neg hx]
    · exact ⟨w.dropRoute route, by rw [State.takeDown_switch, hw]; rfl, w.dropRoute_dropped route⟩
  · rw [heq, if_neg (mt Route.honours_iff.mp h)]
    rfl

end Sys2Proof.Machine
end

section
/-! SUPPORT. What the work of changeovers and of the Sponsor Unit leaves of the Bus Interface Unit and of the port's wires: all but the
outbound list and the end of DRAINING (R53). -/

namespace Sys2Proof.Machine

/-! ### What the Sponsor Unit leaves alone -/

/-- A reading of the node that no update of the Sponsor Unit changes. -/
structure SponsorFree {β : Type} (g : State → β) : Prop where
  place : ∀ (s : State) (name : SlotName) (m : Message), g (s.place name m) = g s
  reserve : ∀ (s : State) (name : SlotName), g (s.reserve name) = g s
  dequeue : ∀ (s : State) (j : Job), g (s.dequeue j) = g s
  notice : ∀ (s : State) (n : Notice), g (s.notice n) = g s
  spu : ∀ (s : State) (x : Spu), g { s with spu := x } = g s
  drain : ∀ s : State, g s.drainTest = g s

section

variable {β : Type} {g : State → β}

theorem SponsorFree.setSlot (h : SponsorFree g) (s : State) (name : SlotName) (x : SponsorSlot) : g (s.setSlot name x) = g s := by
  cases name <;> exact h.spu s _

theorem SponsorFree.placePropose (h : SponsorFree g) (s : State) (name : SlotName) (j : Job) : g (s.placePropose name j) = g s :=
  (h.spu _ _).trans ((h.setSlot _ _ _).trans ((h.place _ _ _).trans (h.reserve _ _)))

theorem SponsorFree.placeRelease (h : SponsorFree g) (s : State) (name : SlotName) (j : Job) : g (s.placeRelease name j) = g s :=
  (h.setSlot _ _ _).trans (h.place _ _ _)

theorem SponsorFree.takeUpSlot (h : SponsorFree g) (name : SlotName) :
    ∀ (fuel : Nat) (only : Bool) (s : State), g (State.takeUpSlot name fuel only s) = g s
  | 0, _, _ => rfl
  | fuel + 1, only, s => by
    rcases State.takeUpSlot_cases name fuel only s with
      e | ⟨j, _, _, ⟨why, _, e⟩ | ⟨_, _, e⟩ | ⟨_, _, _, e⟩ | ⟨_, _, e⟩⟩ <;> rw [e]
    · exact (h.takeUpSlot name fuel only _).trans ((h.notice _ _).trans (h.dequeue _ _))
    · exact (h.placeRelease _ _ _).trans (h.dequeue _ _)
    · exact (h.placePropose _ _ _).trans (h.dequeue _ _)
    · exact h.takeUpSlot name fuel true s

theorem SponsorFree.takeUps (h : SponsorFree g) (s : State) : g s.takeUps = g s := by
  have one : ∀ (name : SlotName) (u : State), g (if u.biu.busState = .onBus ∧ u.slotOpen name then
      State.takeUpSlot name (u.ctp.queue.length + 1) false u else u) = g u := by
    intro name u
    split
    · exact h.takeUpSlot name _ _ u
    · rfl
  exact (one .b _).trans (one .a s)

theorem SponsorFree.retrySlot (h : SponsorFree g) (s : State) (name : SlotName) : g (s.retrySlot name) = g s := by
  rcases s.retrySlot_cases name with e | ⟨j, _, _, _, _, _, ⟨why, _, e⟩ | ⟨_, _, e⟩⟩ <;> rw [e]
  · exact (h.drain _).trans ((h.notice _ _).trans (h.setSlot _ _ _))
  · exact h.placePropose s name j

theorem SponsorFree.sponsorEvent (h : SponsorFree g) (s : State) : g s.sponsorEvent = g s :=
  (h.takeUps _).trans ((h.retrySlot _ .b).trans (h.retrySlot s .a))

theorem SponsorFree.endRequest (h : SponsorFree g) (s : State) (name : SlotName) (n : Notice) : g (s.endRequest name n) = g s :=
  (h.sponsorEvent _).trans ((h.drain _).trans ((h.setSlot _ _ _).trans (h.notice s n)))

theorem SponsorFree.judgeClose (h : SponsorFree g) (s : State) (name : SlotName) (slot : SponsorSlot) (j : Job) (hand : HandOff) :
    g (s.judgeClose name slot j hand) = g s := by
  rcases s.judgeClose_cases name slot j hand with ⟨n, _, e⟩ | ⟨_, _, _, e⟩ <;> rw [e]
  · exact h.endRequest s name n
  · exact h.setSlot s name _

theorem SponsorFree.handOver (h : SponsorFree g) (s : State) (c : Context) (done : Bool) (record : CloseRecord) :
    g (s.handOver c done record) = g s := by
  unfold State.handOver State.takeHandOff
  split
  · split
    · rfl
    · split
      · exact h.judgeClose _ _ _ _ _
      · rfl
  · rfl

theorem SponsorFree.proposeNotOpened (h : SponsorFree g) (s : State) : g s.proposeNotOpened = g s := by
  unfold State.proposeNotOpened
  split
  · rfl
  · split
    · exact h.endRequest _ _ _
    · rfl

theorem SponsorFree.releaseAnswered (h : SponsorFree g) (s : State) (honoured : Bool) : g (s.releaseAnswered honoured) = g s := by
  unfold State.releaseAnswered
  split
  · rfl
  · split
    · exact h.endRequest _ _ _
    · rfl

theorem SponsorFree.endSilent (h : SponsorFree g) (s : State) (name : SlotName) : g (s.endSilent name) = g s := by
  unfold State.endSilent
  split
  · exact h.endRequest _ _ _
  · rfl

/-- A reading that the Changeover Engine's changes of claims, routes, guard and contexts leave alone too is left by a close. -/
theorem SponsorFree.closeFailed (h : SponsorFree g)
    (hrest : ∀ (s : State) (sbc : List Switch) (rtb : Rtb) (rfg : Rfg) (cxe : Cxe),
      g { s with sbc := sbc, rtb := rtb, rfg := rfg, cxe := cxe } = g s)
    (s : State) (c : Context) (record : CloseRecord) : g (s.closeFailed c record) = g s := by
  unfold State.closeFailed
  dsimp only
  rw [h.handOver]
  split
  · split <;> exact hrest s _ _ _ _
  · split <;> exact hrest s _ _ _ _

theorem SponsorFree.closeOpen (h : SponsorFree g)
    (hrest : ∀ (s : State) (sbc : List Switch) (rtb : Rtb) (rfg : Rfg) (cxe : Cxe),
      g { s with sbc := sbc, rtb := rtb, rfg := rfg, cxe := cxe } = g s)
    (record : Context → CloseRecord) (s : State) (tag : Tag) : g (State.closeOpen record s tag) = g s := by
  unfold State.closeOpen
  split
  · split
    · exact h.closeFailed hrest s _ _
    · rfl
  · rfl

end

theorem events_sponsorFree : SponsorFree (fun s : State => s.ctp.events) :=
  ⟨fun _ _ _ => rfl, fun _ _ => rfl, fun _ _ => rfl, fun _ _ => rfl, fun _ _ => rfl, fun s => by rw [s.drainTest_ctp]⟩

/-! ### The wire side -/

/-- The Bus Interface Unit as the work of changeovers leaves it: its outbound list aside, and with DRAINING and the OFF-BUS it ends
in taken for one (R53). -/
def Biu.steady (b : Biu) : Biu :=
  { b with
    busState := if b.busState = .draining then .offBus else b.busState
    silence := if b.busState = .draining ∨ b.busState = .offBus then 0 else b.silence
    outbound := [] }

/-- The part of the node that no work of a changeover touches on the side of the bus and of the port's wires. -/
def State.wireSide (s : State) : Biu × Option Request × Option Response × Nat × Nat :=
  (s.biu.steady, s.ctp.rxBuffer, s.ctp.sending, s.ctp.framingFaults, s.ctp.overruns)

/-- Outside DRAINING and OFF-BUS an equal wire side is an equal Bus Interface Unit but for the outbound list. -/
theorem State.biu_of_wireSide {s t : State} (h : t.wireSide = s.wireSide) (hd : s.biu.busState ≠ .draining)
    (ho : s.biu.busState ≠ .offBus) : t.biu = { s.biu with outbound := t.biu.outbound } := by
  have hbiu : t.biu.steady = s.biu.steady := congrArg Prod.fst h
  generalize t.biu = b at hbiu
  generalize s.biu = a at hbiu hd ho
  obtain ⟨_, bus, _, _, _, _, _, _, _, _, _, _, _, _, _⟩ := b
  obtain ⟨_, _, _, _, _, _, _, _, _, _, _, _, _, _, _⟩ := a
  simp only [Biu.steady, Biu.mk.injEq] at hbiu ⊢
  dsimp only at hd ho
  cases bus <;> simp_all [eq_comm]

theorem State.peers_of_wireSide {s t : State} (h : t.wireSide = s.wireSide) : t.biu.peers = s.biu.peers :=
  congrArg (fun q => q.1.peers) h

theorem State.rxBuffer_of_wireSide {s t : State} (h : t.wireSide = s.wireSide) : t.ctp.rxBuffer = s.ctp.rxBuffer :=
  congrArg (fun q => q.2.1) h

theorem State.drainTest_wireSide (s : State) : s.drainTest.wireSide = s.wireSide := by
  rcases s.drainTest_cases with ⟨e, hb⟩ | e <;> rw [e]
  simp [State.wireSide, Biu.steady, hb]

theorem wireSide_sponsorFree : SponsorFree State.wireSide :=
  ⟨fun _ _ _ => rfl, fun _ _ => rfl, fun _ _ => rfl, fun _ _ => rfl, fun _ _ => rfl, State.drainTest_wireSide⟩

/-! #### The Sponsor Unit -/

@[simp] theorem State.complete_wireSide (s : State) : s.complete.wireSide = s.wireSide := rfl
@[simp] theorem State.fire_wireSide (s : State) (e : EventName) (x : EventSource) : (s.fire e x).wireSide = s.wireSide := rfl
@[simp] theorem State.onContext_wireSide (s : State) (tag : Tag) (f : Context → Context) :
    (s.onContext tag f).wireSide = s.wireSide := rfl
@[simp] theorem State.onSwitches_wireSide (s : State) (f : Switch → Switch) : (s.onSwitches f).wireSide = s.wireSide := rfl
@[simp] theorem State.setSlot_wireSide (s : State) (name : SlotName) (x : SponsorSlot) :
    (s.setSlot name x).wireSide = s.wireSide := wireSide_sponsorFree.setSlot s name x
@[simp] theorem State.sponsorEvent_wireSide (s : State) : s.sponsorEvent.wireSide = s.wireSide :=
  wireSide_sponsorFree.sponsorEvent s
@[simp] theorem State.endRequest_wireSide (s : State) (name : SlotName) (n : Notice) :
    (s.endRequest name n).wireSide = s.wireSide := wireSide_sponsorFree.endRequest s name n
@[simp] theorem State.handOver_wireSide (s : State) (c : Context) (d : Bool) (r : CloseRecord) :
    (s.handOver c d r).wireSide = s.wireSide := wireSide_sponsorFree.handOver s c d r
@[simp] theorem State.proposeNotOpened_wireSide (s : State) : s.proposeNotOpened.wireSide = s.wireSide :=
  wireSide_sponsorFree.proposeNotOpened s
@[simp] theorem State.releaseAnswered_wireSide (s : State) (b : Bool) : (s.releaseAnswered b).wireSide = s.wireSide :=
  wireSide_sponsorFree.releaseAnswered s b

@[simp] theorem State.cxeCancel_wireSide (s : State) (tag : Tag) : (s.cxeCancel tag).2.wireSide = s.wireSide := by
  rw [s.cxeCancel_rest tag]
  rfl

@[simp] theorem State.proposeOpened_wireSide (s : State) : s.proposeOpened.wireSide = s.wireSide := by
  unfold State.proposeOpened
  split
  · rfl
  · dsimp only
    split <;> simp

theorem State.cancelOpen_wireSide (s : State) (name : SlotName) (tag : Tag) (j : Job) :
    (s.cancelOpen name tag j).2.wireSide = s.wireSide := by
  have h := s.cxeCancel_wireSide tag
  unfold State.cancelOpen
  split <;> rename_i heq <;> rw [heq] at h
  · exact (State.setSlot_wireSide _ _ _).trans h
  · exact h
  · split
    · exact (State.setSlot_wireSide _ _ _).trans h
    · exact h

theorem State.cancelSlot_wireSide (s : State) (name : SlotName) (j : Job) : (s.cancelSlot name j).2.wireSide = s.wireSide := by
  unfold State.cancelSlot
  dsimp only
  split
  iterate 3 rfl
  split
  · exact s.endRequest_wireSide name _
  · split
    · exact State.endRequest_wireSide _ _ _
    · split
      · exact s.setSlot_wireSide name _
      · rfl
  · exact s.cancelOpen_wireSide name _ j
  · rfl

theorem State.cancelRequest_wireSide (s : State) (id : Nat) : (s.cancelRequest id).2.wireSide = s.wireSide := by
  unfold State.cancelRequest
  split
  · exact s.cancelSlot_wireSide _ _
  · split <;> rfl

/-! #### The Switch Bank Controller and the Route Table -/

@[simp] theorem State.claimCheck_wireSide (s : State) (tag : Tag) (m : Nat) (b : Option Nat) (t : Bool) :
    (s.claimCheck tag m b t).2.wireSide = s.wireSide := by
  unfold State.claimCheck
  dsimp only
  split
  · rfl
  · exact foldl_keeps _ State.wireSide (by intros; rfl) _ s

@[simp] theorem State.fixTrim_wireSide (s : State) (tag : Tag) (a code : Nat) : (s.fixTrim tag a code).2.wireSide = s.wireSide := by
  rcases s.fixTrim_cases tag a code with e | ⟨_, _, _, e⟩
  · rw [e]
  · rw [e]
    rfl

theorem State.fireWorn_wireSide (s : State) (w : Switch) : (s.fireWorn w).wireSide = s.wireSide := by
  unfold State.fireWorn
  repeat' split
  all_goals rfl

theorem State.fireFault_wireSide (s : State) (w : Switch) : (s.fireFault w).wireSide = s.wireSide := by
  unfold State.fireFault
  repeat' split
  all_goals rfl

@[simp] theorem State.drive_wireSide (s : State) (tag : Tag) (m : Bool) (i p : Nat) : (s.drive tag m i p).2.wireSide = s.wireSide := by
  have hmembers : ∀ hot, (s.driveMembers tag i p hot).wireSide = s.wireSide := by
    intro hot
    unfold State.driveMembers
    exact foldl_keeps _ State.wireSide (by intros; rfl) _ s
  have hdriven : (s.drivenState tag i p).wireSide = s.wireSide := by
    unfold State.drivenState
    rw [foldl_keeps _ State.wireSide State.fireWorn_wireSide]
    split <;> exact hmembers _
  rw [s.drive_eq tag m i p]
  split
  · rfl
  split
  · rfl
  split
  · rfl
  split
  · exact hmembers false
  · exact hdriven

@[simp] theorem State.endSettle_wireSide (s : State) (i : Nat) : (s.endSettle i).2.wireSide = s.wireSide := by
  unfold State.endSettle
  dsimp only
  rw [foldl_keeps _ State.wireSide State.fireFault_wireSide]
  exact foldl_keeps _ State.wireSide (by intros; rfl) _ s

@[simp] theorem State.markRoutes_wireSide (s : State) (m : Nat) (b : Option Nat) (f : Route → Route) :
    (s.markRoutes m b f).wireSide = s.wireSide := by
  unfold State.markRoutes
  dsimp only
  repeat' split
  all_goals rfl

@[simp] theorem State.routeCheck_wireSide (s : State) (tag : Tag) (m : Nat) (b : Option Nat) (p t : Bool) :
    (s.routeCheck tag m b p t).2.wireSide = s.wireSide := by
  unfold State.routeCheck
  repeat' split
  all_goals simp

@[simp] theorem State.breakDown_wireSide (s : State) (r : Nat) : (s.breakDown r).wireSide = s.wireSide := by
  unfold State.breakDown
  repeat' split
  all_goals rfl

@[simp] theorem State.releaseHeard_wireSide (s : State) (n r : Nat) (f : Bool) : (s.releaseHeard n r f).2.wireSide = s.wireSide := by
  unfold State.releaseHeard
  repeat' split
  all_goals rfl

@[simp] theorem State.orphanRoutes_wireSide (s : State) (absent : List Nat) : (s.orphanRoutes absent).wireSide = s.wireSide := by
  unfold State.orphanRoutes
  exact foldl_keeps _ State.wireSide (by intros; rfl) _ s

/-! #### The Changeover Engine -/

@[simp] theorem State.closeFailed_wireSide (s : State) (c : Context) (r : CloseRecord) :
    (s.closeFailed c r).wireSide = s.wireSide := wireSide_sponsorFree.closeFailed (fun _ _ _ _ _ => rfl) s c r

theorem State.closeOpen_wireSide (r : Context → CloseRecord) (s : State) (tag : Tag) :
    (State.closeOpen r s tag).wireSide = s.wireSide := wireSide_sponsorFree.closeOpen (fun _ _ _ _ _ => rfl) r s tag

@[simp] theorem State.trimStep_wireSide (s : State) (tag : Tag) : (s.trimStep tag).wireSide = s.wireSide := by
  unfold State.trimStep
  repeat' split
  · rfl
  · rfl
  · exact State.fixTrim_wireSide _ _ _ _
  · rfl

@[simp] theorem State.enterCold_wireSide (s : State) (c : Context) : (s.enterCold c).wireSide = s.wireSide := by
  by_cases hr : c.role = .sponsorOnly
  · unfold State.enterCold
    rw [if_pos hr]
    rfl
  · rw [s.enterCold_eq hr]
    split
    · exact State.trimStep_wireSide _ _
    · rfl

theorem State.driveFor_wireSide (tag : Tag) (s : State) (q : Nat × Nat) : (State.driveFor tag s q).wireSide = s.wireSide := by
  simp [State.driveFor]

@[simp] theorem State.enterMove_wireSide (s : State) (c : Context) : (s.enterMove c).wireSide = s.wireSide := by
  unfold State.enterMove
  dsimp only
  rw [State.onContext_wireSide]
  split
  · rw [foldl_keeps _ State.wireSide (State.driveFor_wireSide _)]
    split <;> simp
  · split <;> simp

@[simp] theorem State.enterDone_wireSide (s : State) (c : Context) : (s.enterDone c).wireSide = s.wireSide := by
  obtain ⟨_, _, _, _, hbiu, hctp⟩ := s.closedDone_kept c
  rw [s.enterDone_eq c, State.handOver_wireSide]
  unfold State.wireSide
  rw [hbiu, hctp]

theorem State.testPhases_wireSide (v : Voice) (tag : Tag) :
    ∀ (fuel : Nat) (s : State), (State.testPhases v tag fuel s).wireSide = s.wireSide
  | 0, _ => rfl
  | fuel + 1, s => by
    unfold State.testPhases
    repeat' split
    all_goals simp [State.testPhases_wireSide v tag fuel]

theorem State.takeEntry_wireSide (n : Nat) (s : State) (e : StageEntry) : (State.takeEntry n s e).wireSide = s.wireSide := by
  unfold State.takeEntry
  dsimp only
  repeat' split
  all_goals simp [State.testPhases_wireSide]

theorem State.participantFreed_wireSide (s : State) (n : Nat) (es : List StageEntry) :
    (s.participantFreed n es).wireSide = s.wireSide := foldl_keeps _ State.wireSide (State.closeOpen_wireSide _) _ s

theorem State.enterAnswer_wireSide (s : State) (p : Propose) (tag : Tag) (b : Bool) :
    (s.enterAnswer p tag b).2.2.wireSide = s.wireSide := by
  have hroute := s.routeCheck_wireSide tag p.make p.brk b (p.trimNode == some s.me)
  unfold State.enterAnswer
  dsimp only
  generalize s.routeCheck tag p.make p.brk b (p.trimNode == some s.me) = x at hroute ⊢
  obtain ⟨answer, u⟩ := x
  dsimp only at hroute ⊢
  split
  · split
    · exact hroute
    · exact hroute
    · have hclaim := u.claimCheck_wireSide tag p.make (p.brk.filter (fun b => (u.route? b).isSome)) (p.trimNode == some s.me)
      split <;> rename_i heq <;> rw [heq] at hclaim <;> exact hclaim.trans hroute
  · exact hroute

@[simp] theorem State.openContext_wireSide (s : State) (p : Propose) (n : Nat) : (s.openContext p n).wireSide = s.wireSide :=
  s.enterAnswer_wireSide p { sponsor := n, seq := p.seq } (p.participants.contains s.me)

@[simp] theorem State.endReservation_wireSide (s : State) : s.endReservation.wireSide = s.wireSide := by
  unfold State.endReservation
  split <;> rfl

@[simp] theorem State.countRejected_wireSide (s : State) : s.countRejected.wireSide = s.wireSide := rfl
@[simp] theorem State.countUnplaced_wireSide (s : State) : s.countUnplaced.wireSide = s.wireSide := rfl

theorem State.proposeHeard_wireSide (s : State) (n : Nat) (p : Propose) : (s.proposeHeard n p).wireSide = s.wireSide := by
  unfold State.proposeHeard
  dsimp only
  repeat' split
  all_goals simp

theorem State.messageHeard_wireSide (s : State) (n : Nat) (b : Bool) (m : Option Message) :
    (s.messageHeard n b m).wireSide = s.wireSide := by
  unfold State.messageHeard
  split
  · rfl
  · split
    · exact s.proposeHeard_wireSide n _
    · rfl
  · dsimp only
    split <;> simp

/-- A record delivered leaves the wire side alone (R49, R66). -/
theorem State.deliver_wireSide (s : State) (r : SlotRecord) : (s.deliver r).wireSide = s.wireSide := by
  unfold State.deliver
  dsimp only
  split
  · rw [State.messageHeard_wireSide, State.participantFreed_wireSide,
      foldl_keeps _ State.wireSide (State.takeEntry_wireSide _)]
  · exact s.messageHeard_wireSide _ _ _

/-! #### Freeing, settles, windows and absences -/

theorem State.freeIfDone_wireSide (s : State) (tag : Tag) : (s.freeIfDone tag).wireSide = s.wireSide := by
  unfold State.freeIfDone
  repeat' split
  · exact State.drainTest_wireSide _
  · rfl
  · rfl

theorem State.tellOutcome_wireSide (report : SettleReport) (s : State) (tag : Tag) :
    (State.tellOutcome report s tag).wireSide = s.wireSide := by
  unfold State.tellOutcome
  dsimp only
  split
  · rfl
  · rw [State.freeIfDone_wireSide]
    split <;> rfl

theorem State.settleEnds_wireSide (s : State) (i : Nat) : (s.settleEnds i).wireSide = s.wireSide := by
  unfold State.settleEnds
  dsimp only
  rw [foldl_keeps _ State.wireSide (State.tellOutcome_wireSide _), State.endSettle_wireSide]

theorem State.windowRunsOut_wireSide (s : State) (tag : Tag) : (s.windowRunsOut tag).wireSide = s.wireSide := by
  unfold State.windowRunsOut
  repeat' split
  · exact State.closeFailed_wireSide _ _ _
  · rfl
  · rfl

theorem State.quietRunsOut_wireSide (s : State) (tag : Tag) : (s.quietRunsOut tag).wireSide = s.wireSide := by
  unfold State.quietRunsOut
  repeat' split
  all_goals rfl

theorem State.sampleTaken_wireSide (s : State) (input : Nat) (level : Int) : (s.sampleTaken input level).wireSide = s.wireSide := by
  unfold State.sampleTaken State.quietPasses
  exact (foldl_keeps _ State.wireSide (by intros; rfl) _ _).trans rfl

theorem State.absenceContexts_wireSide (s : State) (absent : List Nat) : (s.absenceContexts absent).wireSide = s.wireSide :=
  foldl_keeps _ State.wireSide (State.closeOpen_wireSide _) _ s

theorem State.fallSilent_wireSide (s : State) : s.fallSilent.wireSide = s.wireSide := by
  unfold State.fallSilent
  dsimp only
  rw [wireSide_sponsorFree.endSilent, wireSide_sponsorFree.endSilent, foldl_keeps _ State.wireSide (State.closeOpen_wireSide _)]
  rfl

theorem State.backoffRunsOut_wireSide (s : State) (name : SlotName) : (s.backoffRunsOut name).wireSide = s.wireSide := by
  have hretry : (s.retrySlot name).wireSide = s.wireSide := wireSide_sponsorFree.retrySlot s name
  unfold State.backoffRunsOut
  dsimp only
  split
  · exact (State.sponsorEvent_wireSide _).trans hretry
  · exact hretry

theorem State.testWithdrawals_wireSide (s : State) : s.testWithdrawals.wireSide = s.wireSide := by
  unfold State.testWithdrawals
  dsimp only
  exact foldl_keeps _ State.wireSide (by intros; rfl) _ _

end Sys2Proof.Machine
end

section
/-! SUPPORT. PLAN FAULT and DUPLICATE under every command: what may leave them, and that nothing else does (R50, R56, R191). -/

namespace Sys2Proof.Machine

/-! ### The latched states -/

/-- What a latched bus state holds fast: the state and its cause, and the load's end with the cause of a refused plan. -/
def State.latch (s : State) : BusState × Option DuplicateCause × Option PlanFault × LoadState :=
  (s.biu.busState, s.biu.cause, s.pld.fault, s.pld.load)

/-- The node stands in PLAN FAULT or in DUPLICATE, its load ended (R50, R56). -/
def State.latched (s : State) : Prop :=
  (s.biu.busState = .planFault ∨ s.biu.busState = .duplicate) ∧ s.pld.load ≠ .loading

/-- An operation that a latched node keeps its state through. -/
def State.Latches (s t : State) : Prop := s.latched → t.latch = s.latch

theorem State.latched_of_loadLawful {s : State} (h : s.loadLawful) (hb : s.biu.busState = .planFault ∨ s.biu.busState = .duplicate) :
    s.latched := by
  refine ⟨hb, fun hload => ?_⟩
  rw [h.mp hload] at hb
  rcases hb with hb | hb <;> cases hb

/-- A latched node is not in DRAINING or OFF-BUS. -/
theorem State.latched.silent {s : State} (h : s.latched) : s.biu.busState ≠ .draining ∧ s.biu.busState ≠ .offBus := by
  obtain ⟨hb | hb, _⟩ := h <;> rw [hb] <;> exact ⟨nofun, nofun⟩

theorem State.latched.of_latch {s t : State} (h : s.latched) (e : t.latch = s.latch) : t.latched := by
  simp only [State.latch, Prod.mk.injEq] at e
  obtain ⟨hbus, _, _, hload⟩ := e
  unfold State.latched
  rw [hbus, hload]
  exact h

theorem State.Latches.refl (s : State) : s.Latches s := fun _ => rfl

theorem State.Latches.trans {s t u : State} (h : s.Latches t) (k : t.Latches u) : s.Latches u :=
  fun hs => (k (hs.of_latch (h hs))).trans (h hs)

theorem State.Latches.foldl {α : Type} {f : State → α → State} (hf : ∀ (u : State) (a : α), u.Latches (f u a)) (l : List α)
    (s : State) : s.Latches (l.foldl f s) :=
  List.foldlRecOn (motive := fun t => s.Latches t) l f (.refl s) fun _ hu a _ => hu.trans (hf _ a)

/-- What leaves the wire side, and the load and its fault, holds a latched state fast. -/
theorem State.Latches.of_wireSide {s t : State} (hw : t.wireSide = s.wireSide) (hl : t.pld.load = s.pld.load)
    (hf : t.pld.fault = s.pld.fault) : s.Latches t := by
  intro h
  obtain ⟨hd, ho⟩ := h.silent
  unfold State.latch
  rw [State.biu_of_wireSide hw hd ho, hl, hf]

/-- Work of a changeover holds a latched state fast. -/
theorem State.Latches.of_sides {s t : State} (hw : t.wireSide = s.wireSide) (hp : t.planSide = s.planSide) : s.Latches t := by
  have hpld : t.pld = s.pld := congrArg (fun q => q.2.1) hp
  exact .of_wireSide hw (congrArg Pld.load hpld) (congrArg Pld.fault hpld)

/-- An update that leaves the bus state, its cause and the plan loader's load and fault. -/
theorem State.Latches.of_same {s t : State} (h : t.latch = s.latch) : s.Latches t := fun _ => h

theorem State.Latches.absurd {s t : State} (h : ¬s.latched) : s.Latches t := fun hs => (h hs).elim

/-- An update that leaves the latch, before an operation. -/
theorem State.Latches.after {s t u : State} (k : t.Latches u) (h : t.latch = s.latch) : s.Latches u :=
  (State.Latches.of_same h).trans k

theorem State.complete_latches (s : State) : s.Latches s.complete := .of_same rfl

/-! ### The work of a frame end -/

/-- The peers marked ABSENT, each with its PEER event (R58). -/
def State.markAbsent (s : State) (absent : List Nat) : State :=
  absent.foldl (fun s n => (s.onPeer n (fun p => { p with presence := .absent })).fire .peer (.node n)) s

theorem State.peersGoAbsent_eq (s : State) :
    s.peersGoAbsent = ((s.markAbsent s.absentees).absenceContexts s.absentees).orphanRoutes s.absentees := rfl

theorem State.markAbsent_latches (s : State) (absent : List Nat) : s.Latches (s.markAbsent absent) := by
  unfold State.markAbsent
  exact .foldl (fun _ _ => .of_same (by rfl)) _ s

theorem State.markAbsent_rxBuffer (s : State) (absent : List Nat) : (s.markAbsent absent).ctp.rxBuffer = s.ctp.rxBuffer := by
  unfold State.markAbsent
  exact foldl_keeps _ (fun u : State => u.ctp.rxBuffer) (by intros; rfl) _ s

theorem State.peersGoAbsent_latches (s : State) : s.Latches s.peersGoAbsent := by
  rw [s.peersGoAbsent_eq]
  refine (s.markAbsent_latches s.absentees).trans (.of_sides ?_ ?_)
  · rw [State.orphanRoutes_wireSide, State.absenceContexts_wireSide]
  · rw [State.orphanRoutes_planSide, State.absenceContexts_planSide]

theorem State.silenceComplete_latches (s : State) : s.Latches s.silenceComplete := by
  unfold State.silenceComplete
  split
  · rename_i h
    refine .absurd fun hs => ?_
    rcases hs.1 with hb | hb <;> rw [hb] at h <;> exact nomatch h.1
  · exact .refl s

theorem State.clearComplete_latches (s : State) : s.Latches s.clearComplete := by
  unfold State.clearComplete
  split
  · rename_i h
    refine .absurd fun hs => ?_
    rcases hs.1 with hb | hb <;> rw [hb] at h <;> exact nomatch h.1
  · exact .refl s

theorem State.doWork_latches (s : State) (w : Work) : s.Latches (s.doWork w) := by
  refine State.Latches.trans ?_ (State.complete_latches _)
  cases w with
  | settle i =>
    dsimp only
    split
    · exact .of_sides (s.settleEnds_wireSide i) (s.settleEnds_planSide i)
    · exact .refl s
  | quiet tag => exact .of_sides (s.quietRunsOut_wireSide tag) (s.quietRunsOut_planSide tag)
  | window tag => exact .of_sides (s.windowRunsOut_wireSide tag) (s.windowRunsOut_planSide tag)
  | absence => exact s.peersGoAbsent_latches
  | linger tag => exact .of_sides (s.freeIfDone_wireSide tag) (s.freeIfDone_planSide tag)
  | silence => exact s.silenceComplete_latches
  | clear => exact s.clearComplete_latches
  | backoff name => exact .of_sides (s.backoffRunsOut_wireSide name) (s.backoffRunsOut_planSide name)
  | takeUp => exact .of_sides (wireSide_sponsorFree.takeUps s) s.takeUps_planSide

theorem State.caughtUp_latches (s : State) : s.Latches s.caughtUp :=
  (State.Latches.of_same rfl : s.Latches { s with agenda := [] }).trans (.foldl State.doWork_latches _ _)

theorem State.workNow_latches (s : State) (w : Work) : s.Latches (s.workNow w) := by
  unfold State.workNow
  split
  · exact (State.Latches.of_same rfl : s.Latches { s with agenda := s.agenda.erase w }).trans (State.doWork_latches _ w)
  · exact .refl s

theorem State.frameEnds_latches (s : State) (sense : SenseLevels) : s.Latches (s.frameEnds sense) := by
  unfold State.frameEnds
  split
  · have hcount : s.Latches ({ s with sense := sense } : State).countFrame := .of_same rfl
    refine (hcount.trans (.of_sides (State.drainTest_wireSide _) (State.drainTest_planSide _))).trans (.of_same rfl)
  · exact .refl s

/-- The frame held at the port outlasts the work of a frame end (R161). -/
theorem State.doWork_rxBuffer (s : State) (w : Work) : (s.doWork w).ctp.rxBuffer = s.ctp.rxBuffer := by
  refine Eq.trans (State.complete_ctp_rxBuffer _) ?_
  cases w with
  | settle i =>
    dsimp only
    split
    · exact State.rxBuffer_of_wireSide (s.settleEnds_wireSide i)
    · rfl
  | quiet tag => exact State.rxBuffer_of_wireSide (s.quietRunsOut_wireSide tag)
  | window tag => exact State.rxBuffer_of_wireSide (s.windowRunsOut_wireSide tag)
  | absence =>
    rw [s.peersGoAbsent_eq, State.rxBuffer_of_wireSide (State.orphanRoutes_wireSide _ _),
      State.rxBuffer_of_wireSide (State.absenceContexts_wireSide _ _), State.markAbsent_rxBuffer]
  | linger tag => exact State.rxBuffer_of_wireSide (s.freeIfDone_wireSide tag)
  | silence =>
    dsimp only
    unfold State.silenceComplete
    split <;> rfl
  | clear =>
    dsimp only
    unfold State.clearComplete
    split
    · exact (State.rxBuffer_of_wireSide (State.sponsorEvent_wireSide _)).trans rfl
    · rfl
  | backoff name => exact State.rxBuffer_of_wireSide (s.backoffRunsOut_wireSide name)
  | takeUp => exact State.rxBuffer_of_wireSide (wireSide_sponsorFree.takeUps s)

theorem State.caughtUp_rxBuffer (s : State) : s.caughtUp.ctp.rxBuffer = s.ctp.rxBuffer :=
  foldl_keeps _ (fun u : State => u.ctp.rxBuffer) State.doWork_rxBuffer _ _

/-! ### The bus -/

theorem State.timerDrives_latches (s : State) : s.Latches s.timerDrives := by
  unfold State.timerDrives
  split <;> exact .of_same rfl

theorem State.syncSeen_latches (s : State) : s.Latches s.syncSeen := by
  unfold State.syncSeen
  split <;> exact .of_same rfl

theorem State.frameTimerExpires_latches (s : State) : s.Latches s.frameTimerExpires := by
  unfold State.frameTimerExpires
  split
  · split
    · exact .of_same rfl
    · exact s.timerDrives_latches
  · exact .refl s

theorem State.searchSpanExpires_latches (s : State) : s.Latches s.searchSpanExpires := by
  unfold State.searchSpanExpires
  split
  · exact s.timerDrives_latches
  · exact .refl s

theorem BusState.speaks_iff (b : BusState) : b.speaks = true ↔ b = .onBus ∨ b = .draining := by
  cases b <;> simp [BusState.speaks]

theorem State.latched.not_speaks {s : State} (h : s.latched) : s.biu.busState.speaks = false := by
  obtain ⟨hb | hb, _⟩ := h <;> rw [hb] <;> rfl

theorem State.startOwnSlot_latches (s : State) : s.Latches s.startOwnSlot := by
  intro h
  unfold State.startOwnSlot
  rw [h.not_speaks]
  rfl

theorem State.peerSlot_latches (s : State) (n : Nat) (heard : Heard) : s.Latches (s.peerSlot n heard) := by
  cases heard with
  | nothing => exact .refl s
  | failed => exact .of_same rfl
  | good r =>
    have hpeer : s.Latches (s.peerHeard r) := by
      unfold State.peerHeard
      dsimp only
      split <;> exact .of_same rfl
    exact hpeer.trans (.of_sides (State.deliver_wireSide _ r) (State.deliver_planSide _ r))

/-- A latched node does not judge its own slot (R56; log 14). -/
theorem State.ownSlot_latches (s : State) (copy : Option SlotRecord) (heard : Heard) : s.Latches (s.ownSlot copy heard) := by
  rintro ⟨hb | hb, _⟩ <;> unfold State.ownSlot <;> rw [hb]

theorem State.endSlot_latches (s : State) (line : Bits) : s.Latches (s.endSlot line) := by
  unfold State.endSlot
  split
  · split
    · dsimp only
      split
      · exact (State.ownSlot_latches _ _ _).after rfl
      · exact (State.peerSlot_latches _ _ _).after rfl
    · exact .refl s
  · exact .refl s

/-! ### The controller port -/

/-- In DUPLICATE and PLAN FAULT the node neither leaves nor joins the bus (R53, R54). -/
theorem State.leave_latched {s : State} (h : s.latched) : s.leave = (.refused, s) ∧ s.join = (.refused, s) := by
  unfold State.leave State.join
  obtain ⟨hb | hb, _⟩ := h <;> rw [hb] <;> exact ⟨rfl, rfl⟩

theorem State.submit_latches (s : State) (j : Job) : s.Latches (s.submit j).2 := by
  unfold State.submit
  split
  · exact .refl s
  · exact .of_sides (State.sponsorEvent_wireSide _) (State.sponsorEvent_planSide _)

theorem State.cancelTaken_latches (s : State) (id : Nat) : s.Latches (s.cancelTaken id).2 := by
  have hstate : (s.cancelTaken id).2 = (s.cancelRequest id).2 := by
    unfold State.cancelTaken
    split <;> rename_i heq <;> rw [heq]
  rw [hstate]
  exact .of_sides (s.cancelRequest_wireSide id) (s.cancelRequest_planSide id)

theorem State.saveWearTaken_latches (s : State) : s.Latches s.saveWearTaken.2 := by
  unfold State.saveWearTaken State.beginSave
  cases s.pld.save <;> exact .of_same rfl

theorem State.carryOut_latches (s : State) (id : Nat) {body : RequestBody} (h : body ≠ .restart) :
    s.Latches (s.carryOut id body).2 := by
  cases body with
  | make | breakRoute | exchange | retrim => exact s.submit_latches _
  | cancel x => exact s.cancelTaken_latches x
  | saveWear => exact s.saveWearTaken_latches
  | leaveBus =>
    intro hs
    show s.leave.2.latch = _
    rw [(State.leave_latched hs).1]
  | joinBus =>
    intro hs
    show s.join.2.latch = _
    rw [(State.leave_latched hs).2]
  | restart => exact (h rfl).elim
  | takeNotice =>
    show s.Latches s.takeNotice.2
    unfold State.takeNotice
    split <;> exact .of_same rfl
  | clearFault i =>
    show s.Latches (s.clearFaultOf i).2
    unfold State.clearFaultOf
    split <;> exact .of_same rfl
  | clearEvents events =>
    show s.Latches (s.clearEventSet events).2
    unfold State.clearEventSet
    split <;> exact .of_same rfl
  | queryRoute | querySwitch | queryNode | setNotifyMap | wrongForm | unknownKind => exact .of_same rfl

/-- In PLAN FAULT a RESTART is refused (R163). -/
theorem State.takeRequest_latches (s : State) (r : Request) (h : s.biu.busState = .duplicate → r.body ≠ .restart) :
    s.Latches (s.takeRequest r) := by
  refine State.Latches.trans (t := (s.answer r).2) ?_ (.of_same rfl)
  unfold State.answer
  split
  · exact .refl s
  · rename_i hpass
    by_cases hr : r.body = .restart
    · rintro ⟨hb | hb, _⟩
      · rw [hr] at hpass
        simp [State.requestRefusal, hb, BusState.planless, RequestBody.kind] at hpass
      · exact absurd hr (h hb)
    · exact s.carryOut_latches r.id hr

theorem State.offer_latches (s : State) (r : Request) (h : s.biu.busState = .duplicate → r.body ≠ .restart) :
    s.Latches (s.offer r) := by
  unfold State.offer
  split
  · exact s.takeRequest_latches r h
  · exact .of_same rfl
  · exact .of_same rfl

theorem State.frameArrived_latches (s : State) (bytes : List Byte)
    (h : s.biu.busState = .duplicate → ∀ r, Request.ofFrame bytes = some r → r.body ≠ .restart) :
    s.Latches (s.frameArrived bytes) := by
  unfold State.frameArrived
  split
  · rename_i r hr
    exact s.offer_latches r fun hb => h hb r hr
  · exact .of_same rfl

theorem State.sendComplete_latches (s : State)
    (h : s.biu.busState = .duplicate → ∀ r, s.ctp.rxBuffer = some r → r.body ≠ .restart) : s.Latches s.sendComplete := by
  unfold State.sendComplete
  split
  · exact .refl s
  · dsimp only
    split
    · rename_i r hr
      refine (State.takeRequest_latches _ r ?_).after rfl
      exact fun hb => h hb r hr
    · exact .of_same rfl

/-! ### The load and the saves -/

/-- Once the load has ended no event of the load has an effect (R189; log 2). -/
theorem State.load_ended {s : State} (h : s.latched) : s.loading = false := by
  simp [State.loading, h.2]

theorem State.beginLoad_latches (s : State) (straps : Nat) (plan : List Byte) : s.Latches (s.beginLoad straps plan) := by
  intro h
  unfold State.beginLoad
  rw [if_neg fun e => h.2 e.1]

theorem State.rejectPlan_latches (s : State) : s.Latches s.rejectPlan := by
  intro h
  unfold State.rejectPlan
  rw [State.load_ended h]
  rfl

theorem State.acceptPlan_latches (s : State) (sense : SenseLevels) : s.Latches (s.acceptPlan sense) := by
  intro h
  unfold State.acceptPlan
  rw [State.load_ended h]
  rfl

theorem State.saveFailed_latches (s : State) (reached : Nat) : s.Latches (s.saveFailed reached) := by
  unfold State.saveFailed
  split <;> exact .of_same rfl

theorem State.saveAccepted_latches (s : State) : s.Latches s.saveAccepted := by
  unfold State.saveAccepted
  repeat' split
  all_goals exact .of_same rfl

theorem State.notAnswered_latches (s : State) (access : MemoryAccess) : s.Latches (s.notAnswered access) := by
  intro h
  cases access with
  | planRead | wearRead =>
    unfold State.notAnswered
    rw [State.load_ended h]
    rfl
  | saveWrite reached => exact s.saveFailed_latches reached h

/-! ### Every command -/

/-- A command that may take a latched node out of its state: a hardware reset, and in DUPLICATE a RESTART, as a row, as a frame or
from the receive buffer (R50, R56). -/
def State.unlatches (s : State) : Instr → Prop
  | .hardwareReset _ => True
  | .restart _ _ => s.biu.busState = .duplicate
  | .frameReceived bytes _ => s.biu.busState = .duplicate ∧ ∃ r, Request.ofFrame bytes = some r ∧ r.body = .restart
  | .responseSendComplete _ => s.biu.busState = .duplicate ∧ ∃ r, s.ctp.rxBuffer = some r ∧ r.body = .restart
  | _ => False

theorem State.event_latches {s u : State} (hact : s.latched → s.caughtUp.Latches u) : s.Latches u.complete :=
  fun h => (s.caughtUp_latches.trans ((hact h).trans (.of_same rfl))) h

/-- The bus state that a latched node has when the command acts. -/
theorem State.latched.caughtUp_busState {s : State} (h : s.latched) : s.caughtUp.biu.busState = s.biu.busState :=
  congrArg Prod.fst (s.caughtUp_latches h)

theorem State.exec_latches {s t : State} (c : Instr) (h : ¬s.unlatches c) (e : exec c s = .next t) : s.Latches t := by
  cases c <;> cases e
  case hardwareReset => exact (h trivial).elim
  case settleEnd | answerWindowExpiry | quietTimeout | lingerExpiry | backoffExpiry | takeUp | silenceCountComplete
    | clearCountComplete | peerAbsent => exact s.workNow_latches _
  all_goals refine State.event_latches fun hs => ?_
  case resetRelease straps plan => exact State.beginLoad_latches _ straps plan
  case memoryNoAnswer access => exact State.notAnswered_latches _ access
  case planRefused => exact State.rejectPlan_latches _
  case planAccepted sense => exact State.acceptPlan_latches _ sense
  case requestUnknownKind | make | breakRoute | exchange | retrim | cancel | takeNotice | queryNode | queryRoute | querySwitch
    | clearEvents | setNotifyMap | saveWear | leaveBus | joinBus =>
    refine State.offer_latches _ _ ?_
    exact fun _ h => nomatch h
  case clearFault =>
    refine (State.offer_latches _ _ ?_).after rfl
    exact fun _ h => nomatch h
  case restart =>
    refine (State.offer_latches _ _ ?_).after rfl
    exact fun hb => (h (hs.caughtUp_busState.symm.trans hb)).elim
  case frameReceived bytes sense =>
    refine (State.frameArrived_latches _ bytes ?_).after rfl
    exact fun hb r hr he => h ⟨hs.caughtUp_busState.symm.trans hb, r, hr, he⟩
  case responseSendComplete sense =>
    refine (State.sendComplete_latches _ ?_).after rfl
    exact fun hb r hr he => h ⟨hs.caughtUp_busState.symm.trans hb, r, s.caughtUp_rxBuffer.symm.trans hr, he⟩
  case frameGapTimeout | readyPulseExpiry => exact .of_same rfl
  case saveWearWriteAccepted => exact State.saveAccepted_latches _
  case saveWearWriteFailed reached => exact State.saveFailed_latches _ reached
  case syncRecognised => exact State.syncSeen_latches _
  case frameTimerExpiry => exact State.frameTimerExpires_latches _
  case searchSpanExpiry => exact State.searchSpanExpires_latches _
  case ownSlotStart => exact State.startOwnSlot_latches _
  case slotEnd line => exact State.endSlot_latches _ line
  case frameEnd sense => exact State.frameEnds_latches _ sense
  case detectorSample input level =>
    refine .of_sides (State.sampleTaken_wireSide _ input level) ?_
    unfold State.sampleTaken State.quietPasses
    exact (foldl_keeps _ State.planSide (by intros; rfl) _ _).trans rfl

/-- Settles O58: every command that is not one of `State.unlatches` holds a latched node in its state. -/
theorem latchedStatesHold : Obligations.LatchedStatesHold := by
  intro c rest s t hload hstep hreset
  have hexec : exec c (s.queued rest) = .next t := hstep
  have hlatched : s.biu.busState = .planFault ∨ s.biu.busState = .duplicate → ¬(s.queued rest).unlatches c →
      t.latch = s.latch := fun hb h => State.exec_latches (s := s.queued rest) c h hexec (State.latched_of_loadLawful (s := s.queued rest) hload hb)
  refine ⟨fun hb => ?_, fun hb hrestart hframe hbuffer => ?_⟩
  · have hnot : ¬(s.queued rest).unlatches c := by
      cases c with
      | hardwareReset reached => exact (hreset reached rfl).elim
      | restart => exact fun h => nomatch hb.symm.trans h
      | frameReceived | responseSendComplete => exact fun h => nomatch hb.symm.trans h.1
      | _ => exact id
    have h := hlatched (.inl hb) hnot
    simp only [State.latch, Prod.mk.injEq] at h
    exact ⟨h.1.trans hb, h.2.2.1⟩
  · have hnot : ¬(s.queued rest).unlatches c := by
      cases c with
      | hardwareReset reached => exact (hreset reached rfl).elim
      | restart id sense => exact (hrestart id sense rfl).elim
      | frameReceived bytes sense => exact fun ⟨_, r, hr, he⟩ => hframe bytes sense r rfl hr he
      | responseSendComplete sense => exact fun ⟨_, r, hr, he⟩ => hbuffer sense r rfl hr he
      | _ => exact id
    have h := hlatched (.inr hb) hnot
    simp only [State.latch, Prod.mk.injEq] at h
    exact ⟨h.1.trans hb, h.2.1⟩

end Sys2Proof.Machine
end

section
/-! SUPPORT. What a hardware reset leaves (R61, R196), and the bus states entered on request and by count (R51 to R54). -/

namespace Sys2Proof.Machine

/-! ### The wear area at a hardware reset (R192, R196) -/

/-- A wear area whose close mark stands open is LOST (R192). -/
theorem readWear_of_open {mem : List Host.Cell} (h : Memory.read mem Config.wearBase = some 0#8) : readWear mem = none := by
  unfold readWear
  rw [h]
  split
  · rename_i heq _ _
    cases heq
    exact if_neg fun e => absurd e.1 (by decide)
  · rfl

/-- Of a write cut off the memory holds the bytes that reached it, and elsewhere what it held (R195). -/
theorem SaveWrite.read_partly {w : SaveWrite} (h : w ≠ .closeMark) (copy : List Nat) (reached : Nat) (mem : List Host.Cell)
    (a : Nat) : Memory.read (w.partly copy reached mem) a =
      if (w.target copy).1 ≤ a ∧ a < (w.target copy).1 + min reached (w.target copy).2.length then
        (w.target copy).2[a - (w.target copy).1]?
      else Memory.read mem a := by
  have hbytes : w.partly copy reached mem = Memory.writeBytes mem (w.target copy).1 ((w.target copy).2.take reached) := by
    cases w with
    | closeMark => exact (h rfl).elim
    | openMark | count | check => rfl
  rw [hbytes, Memory.read_writeBytes, List.length_take]
  split
  · rw [List.getElem?_take_of_lt (by omega)]
  · rfl

/-- No write but those of the mark reaches the mark's byte (R195, R201). -/
theorem SaveWrite.target_above {w : SaveWrite} (hopen : w ≠ .openMark) (hclose : w ≠ .closeMark) (copy : List Nat) :
    Config.wearBase < (w.target copy).1 := by
  cases w with
  | openMark => exact (hopen rfl).elim
  | closeMark => exact (hclose rfl).elim
  | count | check => simp only [SaveWrite.target]; omega

/-- A save cut off after its opening write leaves the mark open (R196). -/
theorem SaveWrite.partly_open {w : SaveWrite} (hopen : w ≠ .openMark) (copy : List Nat) (reached : Nat) {mem : List Host.Cell}
    (h : Memory.read mem Config.wearBase = some 0#8) :
    Memory.read (w.partly copy reached mem) Config.wearBase = some 0#8 := by
  by_cases hclose : w = .closeMark
  · rw [hclose]
    exact h
  · have := SaveWrite.target_above hopen hclose copy
    rw [SaveWrite.read_partly hclose, if_neg (by omega), h]

/-- Settles O3, by where the save stands when the reset comes. -/
theorem hardwareResetKeepsOnlyMemory : Obligations.HardwareResetKeepsOnlyMemory := by
  intro reached s
  refine ⟨_, rfl, fun h => by rw [h], fun copy w h => ?_⟩
  rw [h]
  exact ⟨fun hopen hmark => readWear_of_open (SaveWrite.partly_open hopen copy reached hmark), fun hclose => by rw [hclose]; rfl,
    fun hclose => SaveWrite.read_partly hclose copy reached s.mem⟩

/-! ### The reset state -/

theorem State.reset_sponsorLawful : State.reset.sponsorLawful :=
  (State.sponsorLawful_iff _).mpr ⟨iff_of_true rfl rfl, fun name => by cases name <;> exact SponsorSlot.empty_lawful, fun _ => rfl⟩

theorem Rfg.reset_lawful : Rfg.reset.lawful := ⟨List.nodup_nil, by decide⟩

theorem State.reset_claimsFollow : State.reset.claimsFollow :=
  ⟨List.forall_mem_nil _, List.forall_mem_nil _, fun _ => ⟨rfl, rfl⟩, List.forall_mem_nil _, List.forall_mem_nil _⟩

theorem State.reset_flagsLawful : State.reset.flagsLawful := ⟨rfl, by decide, rfl, rfl⟩

theorem State.reset_countsLawful : State.reset.countsLawful :=
  ⟨Nat.zero_le _, Nat.zero_le _, Nat.zero_le _, Nat.zero_le _, by decide, List.forall_mem_nil _, Nat.zero_le _, Nat.zero_le _,
    Nat.zero_le _, Nat.zero_le _, Nat.zero_le _, by decide, List.forall_mem_nil _⟩

/-- Settles O2, block by block: no records, so the laws hold of them, and the cleared fields as R61 to R197 list them. -/
theorem resetLeavesEveryBlockCleared : Obligations.ResetLeavesEveryBlockCleared := by
  refine ⟨⟨Rfg.reset_lawful, ⟨List.nodup_nil, Nat.zero_le _⟩, List.nodup_nil, List.nodup_nil, State.reset_claimsFollow,
    ⟨List.forall_mem_nil _, List.forall_mem_nil _, List.forall_mem_nil _⟩, State.reset_sponsorLawful, List.forall_mem_nil _,
    State.reset_flagsLawful, State.reset_countsLawful, Memory.wf_reset⟩, ?_⟩
  exact ⟨rfl, rfl, rfl, rfl, rfl, rfl, rfl, rfl, by decide, rfl, rfl, rfl, rfl, rfl, rfl, rfl, by decide, by decide, rfl, rfl,
    rfl, rfl, rfl, rfl, rfl, rfl, rfl, rfl, rfl, rfl, rfl, rfl, rfl, rfl, rfl, rfl, rfl, rfl, rfl⟩

/-! ### Requests to leave and to join the bus (R53, R54) -/

/-- What an event of R130 leaves: all but the slots, the outbound list, the reservations and the port's queue and notices. -/
theorem State.sponsorEvent_kept (s : State) :
    s.sponsorEvent.cxe.contexts = s.cxe.contexts ∧ s.sponsorEvent.sbc = s.sbc ∧ s.sponsorEvent.rfg = s.rfg ∧
      s.sponsorEvent.rtb = s.rtb ∧ s.sponsorEvent.biu.peers = s.biu.peers := by
  have hbank := s.sponsorEvent_bankSide
  simp only [State.bankSide, Prod.mk.injEq] at hbank
  obtain ⟨hcontexts, _, _, _, hsbc, hrfg, hrtb⟩ := hbank
  exact ⟨hcontexts, hsbc, hrfg, hrtb, State.peers_of_wireSide s.sponsorEvent_wireSide⟩

/-- ON-BUS entered, an event of R130: the node stays ON-BUS, and the rest of it is left as it was. -/
theorem State.enterOnBus_kept (s : State) :
    let t := ({ s with biu := { s.biu with busState := .onBus } } : State).sponsorEvent
    t.biu.busState = .onBus ∧ t.cxe.contexts = s.cxe.contexts ∧ t.sbc = s.sbc ∧ t.rfg = s.rfg ∧ t.rtb = s.rtb ∧
      t.biu.peers = s.biu.peers ∧ t.planSide = s.planSide := by
  intro t
  have hbus : t.biu.busState = .onBus := by
    rw [State.biu_of_wireSide (State.sponsorEvent_wireSide _) (by exact nofun) (by exact nofun)]
  obtain ⟨hcontexts, hsbc, hrfg, hrtb, hpeers⟩ :=
    State.sponsorEvent_kept { s with biu := { s.biu with busState := .onBus } }
  exact ⟨hbus, hcontexts, hsbc, hrfg, hrtb, hpeers, State.sponsorEvent_planSide _⟩

theorem exec_leaveBus {id : Nat} {s : State} (hs : s.caughtUp.ctp.sending = none) (hp : s.caughtUp.biu.busState.planless = false) :
    exec (.leaveBus id) s =
      .next (s.caughtUp.leave.2.answered { id := id, body := .leaveBus } s.caughtUp.leave.1.result).complete := by
  have htaken : s.caughtUp.offer { id := id, body := .leaveBus } =
      s.caughtUp.leave.2.answered { id := id, body := .leaveBus } s.caughtUp.leave.1.result :=
    State.offer_taken hs (by simp [State.requestRefusal, hp, RequestBody.formOk])
  exact congrArg (fun u : State => Host.Outcome.next u.complete) htaken

theorem exec_joinBus {id : Nat} {s : State} (hs : s.caughtUp.ctp.sending = none) (hp : s.caughtUp.biu.busState.planless = false) :
    exec (.joinBus id) s =
      .next (s.caughtUp.join.2.answered { id := id, body := .joinBus } s.caughtUp.join.1.result).complete := by
  have htaken : s.caughtUp.offer { id := id, body := .joinBus } =
      s.caughtUp.join.2.answered { id := id, body := .joinBus } s.caughtUp.join.1.result :=
    State.offer_taken hs (by simp [State.requestRefusal, hp, RequestBody.formOk])
  exact congrArg (fun u : State => Host.Outcome.next u.complete) htaken

/-- JOIN BUS in OFF-BUS after twelve silent frames (R54). -/
theorem State.join_full {s : State} (hb : s.biu.busState = .offBus) (hf : s.biu.silence = Config.silenceFull) :
    s.join = (.taken, { s with biu := s.biu.enterListen }) := by
  unfold State.join
  rw [hb]
  exact Prod.ext rfl (if_pos hf)

theorem State.join_early {s : State} (hb : s.biu.busState = .offBus) (hf : s.biu.silence ≠ Config.silenceFull) :
    s.join = (.taken, { s with biu := { s.biu with busState := .silent } }) := by
  unfold State.join
  rw [hb]
  exact Prod.ext rfl (if_neg hf)

/-- JOIN BUS in DRAINING: ON-BUS again, an event of R130 (R54). -/
theorem State.join_draining {s : State} (hb : s.biu.busState = .draining) : ∃ t, s.join = (.taken, t) ∧
    t.biu.busState = .onBus ∧ t.cxe.contexts = s.cxe.contexts ∧ t.sbc = s.sbc ∧ t.rfg = s.rfg ∧ t.rtb = s.rtb ∧
      t.planSide = s.planSide := by
  have hjoin : s.join = (.taken, ({ s with biu := { s.biu with busState := .onBus } } : State).sponsorEvent) := by
    unfold State.join
    rw [hb]
  obtain ⟨hbus, hcontexts, hsbc, hrfg, hrtb, _, hplan⟩ := s.enterOnBus_kept
  exact ⟨_, hjoin, hbus, hcontexts, hsbc, hrfg, hrtb, hplan⟩

/-- Settles O20, by the bus state: each request is taken (`exec_leaveBus`, `exec_joinBus`) and answered by `State.leave` and
`State.join`. -/
theorem busRequestsByState : Obligations.BusRequestsByState := by
  rintro id s u rfl hs
  refine ⟨fun h => ?_, fun h => ?_, fun h => ?_, fun h => ?_, fun h => ?_, fun h hfull => ?_, fun h hfull => ?_, fun h => ?_,
    fun h => ?_, fun h => ?_⟩
  · rw [exec_leaveBus hs (by rw [h]; rfl), State.leave, h]; rfl
  · rw [exec_leaveBus hs (by rw [h]; rfl), State.leave, h]; rfl
  · rw [exec_leaveBus hs (by rw [h]; rfl), State.leave, h]; rfl
  · rcases h with h | h <;> (rw [exec_leaveBus hs (by rw [h]; rfl), State.leave, h]; rfl)
  · rw [exec_leaveBus hs (by rw [h]; rfl), State.leave, h]; rfl
  · rw [exec_joinBus hs (by rw [h]; rfl), State.join_full h hfull]; rfl
  · rw [exec_joinBus hs (by rw [h]; rfl), State.join_early h hfull]; rfl
  · obtain ⟨t, hjoin, hbus, hcontexts, hsbc, hrfg, hrtb, hplan⟩ := State.join_draining h
    rw [exec_joinBus hs (by rw [h]; rfl), hjoin]
    exact ⟨_, rfl, hbus, hcontexts, hsbc, hrfg, hrtb, (State.keeps_iff _ _).mpr hplan, rfl⟩
  · rcases h with h | h | h <;> (rw [exec_joinBus hs (by rw [h]; rfl), State.join, h]; rfl)
  · rw [exec_joinBus hs (by rw [h]; rfl), State.join, h]; rfl

/-! ### The counts complete (R51, R52) -/

theorem exec_silenceCountComplete {s : State} (h : Work.silence ∈ s.agenda) :
    exec .silenceCountComplete s = .next (s.taking .silence).silenceComplete.complete :=
  congrArg Host.Outcome.next (if_pos h)

theorem exec_clearCountComplete {s : State} (h : Work.clear ∈ s.agenda) :
    exec .clearCountComplete s = .next (s.taking .clear).clearComplete.complete :=
  congrArg Host.Outcome.next (if_pos h)

/-- Settles O35: the counts stand complete, and the event of R130 that follows the entry to ON-BUS leaves the rest. -/
theorem silenceThenClearJoinsBus : Obligations.SilenceThenClearJoinsBus := by
  constructor
  · rintro s u hw rfl hb hfull
    rw [exec_silenceCountComplete hw, State.silenceComplete, if_pos ⟨hb, hfull⟩]
    rfl
  · rintro s u hw rfl hb hfull
    rw [exec_clearCountComplete hw, State.clearComplete, if_pos ⟨hb, hfull⟩]
    obtain ⟨hbus, hcontexts, hsbc, hrfg, hrtb, hpeers, hplan⟩ := (s.taking .clear).enterOnBus_kept
    exact ⟨_, rfl, hbus, hsbc, hrtb, hcontexts, hpeers, hrfg, (State.keeps_iff _ _).mpr hplan⟩

/-! ### Syncs (R44, R45) -/

theorem Biu.awaitsSync_iff (b : Biu) : b.awaitsSync = true ↔ b.timerRunning = true ∧ (b.synced = false ∨ b.place = .idle) := by
  simp [Biu.awaitsSync]

/-- What a timer's expiry at a node that drives leaves (R44; log 27). -/
theorem State.timerDrives_eq (s : State) : s.timerDrives =
    { (if Config.syncBegun s.freeDraws then s else { s with biu := s.biu.beginFrame .sync }) with
      freeDraws := s.freeDraws + 1 } := by
  unfold State.timerDrives
  split <;> rfl

/-- Settles O26, by whether the node awaits a sync, its frame timer or its search span. -/
theorem syncBeginsFrame : Obligations.SyncBeginsFrame := by
  rintro s u rfl
  have hevent : ∀ {act : State → State} {v : State}, act s.caughtUp = v → s.event act = .next v.complete := fun h =>
    congrArg (fun u : State => Host.Outcome.next u.complete) h
  refine ⟨fun ht hw => hevent ?_, fun h => hevent ?_, fun ht hs hp hb => hevent ?_, fun ht hs hp hb => hevent ?_,
    fun h => hevent ?_, fun ht hs hb => hevent ?_, fun h => hevent ?_⟩
  · exact if_pos ((Biu.awaitsSync_iff _).mpr ⟨ht, hw⟩)
  · refine if_neg fun e => ?_
    obtain ⟨ht, hw⟩ := (Biu.awaitsSync_iff _).mp e
    simp_all
  · unfold State.frameTimerExpires
    rw [if_pos (by simp [ht, hs, hp]), if_neg hb, State.timerDrives_eq]
    rfl
  · unfold State.frameTimerExpires
    rw [if_pos (by simp [ht, hs, hp]), if_pos hb]
  · refine if_neg fun e => ?_
    simp only [Bool.and_eq_true, beq_iff_eq] at e
    simp_all
  · unfold State.searchSpanExpires
    rw [if_pos (by simp [ht, hs, hb]), State.timerDrives_eq]
    rfl
  · refine if_neg fun e => ?_
    simp only [Bool.and_eq_true, Bool.not_eq_true', bne_iff_ne] at e
    simp_all

end Sys2Proof.Machine
end

section
/-! SUPPORT. The slot record read back from its bits, field by field (section 12.1, R48, R198, R199). -/

namespace Sys2Proof.Machine

/-- A field read from the front of the bits, and the reading that goes on behind it. -/
theorem bind_takeField {α : Type} {width n : Nat} (h : n < 2 ^ width) (rest : Bits) (k : Nat × Bits → Option α) :
    (takeField width (bitsOf width n ++ rest)).bind k = k (n, rest) := by
  rw [takeField_bitsOf width n rest h]
  rfl

/-! ### Stage entries -/

theorem ObjectReason.ofCode_code (r : ObjectReason) : ObjectReason.ofCode r.code = some r := by cases r <;> rfl
theorem FailReason.ofCode_code (r : FailReason) : FailReason.ofCode r.code = some r := by cases r <;> rfl

/-- The detail of a SETTLED report gives back its level flag and its hot mark (R70). -/
theorem LevelFlag.ofCode_detail (f : LevelFlag) (hot : Bool) :
    LevelFlag.ofCode ((f.code + 4 * hot.toNat) % 4) = some f ∧ decide (4 ≤ f.code + 4 * hot.toNat) = hot ∧
      f.code + 4 * hot.toNat < 8 := by
  cases f <;> cases hot <;> decide

/-- A report within its codes is read back from its code, detail and value. -/
theorem Report.decode_fields {r : Report} (h : r.inCodes = true) : Report.decode r.code r.detail r.value = some r := by
  cases r with
  | accept v =>
    have hv : v ≤ 20000 := by simpa [Report.inCodes] using h
    exact if_pos ⟨rfl, hv⟩
  | object why =>
    show (if 0 = 0 then (ObjectReason.ofCode why.code).map Report.object else none) = _
    rw [if_pos rfl, ObjectReason.ofCode_code]
    rfl
  | quiet => rfl
  | settled f hot v =>
    have hv : v ≤ 185500 := by simpa [Report.inCodes] using h
    obtain ⟨hflag, hhot, hlt⟩ := f.ofCode_detail hot
    refine (if_pos ⟨hlt, hv⟩).trans ?_
    show (LevelFlag.ofCode ((f.code + 4 * hot.toNat) % 4)).map
      (fun g => Report.settled g (decide (4 ≤ f.code + 4 * hot.toNat)) v) = _
    rw [hflag, hhot]
    rfl
  | fail why =>
    show (if 0 = 0 then (FailReason.ofCode why.code).map Report.fail else none) = _
    rw [if_pos rfl, FailReason.ofCode_code]
    rfl
  | withdraw => rfl

theorem Report.fields_fit {r : Report} (h : r.inCodes = true) : r.code < 2 ^ 3 ∧ r.detail < 2 ^ 4 ∧ r.value < 2 ^ 18 := by
  cases r with
  | accept v =>
    have hv : v ≤ 20000 := by simpa [Report.inCodes] using h
    exact ⟨(by decide : 1 < 2 ^ 3), (by decide : 0 < 2 ^ 4), hv.trans_lt (by decide)⟩
  | settled f hot v =>
    have hv : v ≤ 185500 := by simpa [Report.inCodes] using h
    exact ⟨(by decide : 4 < 2 ^ 3), (f.ofCode_detail hot).2.2.trans (by decide), hv.trans_lt (by decide)⟩
  | object why | fail why => cases why <;> decide
  | quiet | withdraw => decide

theorem nodeOk_iff (n : Nat) : nodeOk n = true ↔ 1 ≤ n ∧ n ≤ 30 := by simp [nodeOk]

/-- A stage entry within its codes is read back from the front of the bits. -/
theorem StageEntry.read_bits {e : StageEntry} (h : e.inCodes = true) (rest : Bits) :
    StageEntry.read (e.bits ++ rest) = some (e, rest) := by
  simp only [StageEntry.inCodes, Bool.and_eq_true, decide_eq_true_eq, nodeOk_iff] at h
  obtain ⟨⟨⟨hsponsor, hseq⟩, hmake⟩, hreport⟩ := h
  obtain ⟨hcode, hdetail, hvalue⟩ := Report.fields_fit hreport
  have hmade : (e.make != 0) = true := by simpa using (by omega : e.make ≠ 0)
  simp only [StageEntry.read, StageEntry.bits, List.append_assoc, Option.bind_eq_bind, Option.bind_some,
    takeField_bitsOf 5 e.tag.sponsor _ (by omega), takeField_bitsOf 8 e.tag.seq _ (by omega),
    takeField_bitsOf 12 e.make _ (by omega), takeField_bitsOf 3 _ _ hcode, takeField_bitsOf 4 _ _ hdetail,
    takeField_bitsOf 18 _ _ hvalue, Report.decode_fields hreport, (nodeOk_iff _).mpr hsponsor, hmade, Bool.and_self, if_true]

theorem readEntries_bits : ∀ {es : List StageEntry} (_ : es.all StageEntry.inCodes = true) (rest : Bits),
    readEntries es.length (es.flatMap StageEntry.bits ++ rest) = some (es, rest)
  | [], _, _ => rfl
  | e :: es, h, rest => by
    rw [List.all_cons, Bool.and_eq_true] at h
    rw [List.flatMap_cons, List.append_assoc, List.length_cons]
    simp only [readEntries, StageEntry.read_bits h.1, readEntries_bits h.2 rest]

/-! ### Messages -/

theorem readFields_bits {width : Nat} : ∀ {l : List Nat} (_ : ∀ n ∈ l, n < 2 ^ width) (rest : Bits),
    readFields width l.length (l.flatMap (bitsOf width) ++ rest) = some (l, rest)
  | [], _, _ => rfl
  | n :: l, h, rest => by
    obtain ⟨hn, hl⟩ := List.forall_mem_cons.mp h
    rw [List.flatMap_cons, List.append_assoc, List.length_cons]
    simp only [readFields, takeField_bitsOf _ _ _ hn, readFields_bits hl rest]

/-- A flag and its companion field give back the value they stand for (R199). -/
theorem flagged_fields {o : Option Nat} {ok : Nat → Bool} (h : o.all ok = true) :
    flagged o.isSome.toNat (o.getD 0) ok = some o := by
  cases o with
  | none => rfl
  | some v => exact if_pos h

theorem toNat_lt_two (b : Bool) : b.toNat < 2 ^ 1 := by cases b <;> decide
theorem toNat_beq_one (b : Bool) : (b.toNat == 1) = b := by cases b <;> rfl

/-- The eight participant fields of a PROPOSE: the participants, then zeros (R199). -/
def Propose.fields (p : Propose) : List Nat := (p.participants ++ List.replicate 8 0).take 8

theorem Propose.fields_eq (p : Propose) : p.fields = (p.participants ++ List.replicate 8 0).take 8 := rfl

theorem Propose.fields_spec {p : Propose} (h1 : 1 ≤ p.participants.length) (h8 : p.participants.length ≤ 8) :
    p.fields.length = 8 ∧ p.fields.take (p.participants.length - 1 + 1) = p.participants ∧
      (p.fields.drop (p.participants.length - 1 + 1)).all (fun n => n == 0) = true := by
  rw [Nat.sub_add_cancel h1]
  have hfields : p.fields = p.participants ++ List.replicate (8 - p.participants.length) 0 := by
    rw [Propose.fields, List.take_append, List.take_of_length_le h8, List.take_replicate]
    congr 2
    omega
  rw [hfields]
  refine ⟨?_, List.take_left, ?_⟩
  · rw [List.length_append, List.length_replicate]
    omega
  · rw [List.drop_left]
    simp

/-- A PROPOSE within its codes is read back from the front of the bits. -/
theorem Propose.read_bits {p : Propose} (h : (Message.propose p).inCodes = true) (rest : Bits) :
    Propose.read (p.bits ++ rest) = some (p, rest) := by
  simp only [Message.inCodes, Bool.and_eq_true, decide_eq_true_eq] at h
  obtain ⟨⟨⟨⟨⟨⟨⟨⟨hseq, hmake⟩, hbrk⟩, hfrequency⟩, htarget⟩, htrim⟩, hcount⟩, hnodes⟩, hwindow⟩ := h
  obtain ⟨hlength, htake, hdrop⟩ := p.fields_spec hcount.1 hcount.2
  have hfit : ∀ n ∈ p.fields, n < 2 ^ 5 := by
    intro n hn
    rcases List.mem_append.mp (List.mem_of_mem_take hn) with hn | hn
    · have := (nodeOk_iff n).mp (List.all_eq_true.mp hnodes n hn)
      omega
    · rw [List.eq_of_mem_replicate hn]
      decide
  have hbrk12 : p.brk.getD 0 < 2 ^ 12 := by
    cases hb : p.brk with
    | none => decide
    | some b => simp [hb] at hbrk; simp; omega
  have htarget15 : p.target.getD 0 < 2 ^ 15 := by
    cases hb : p.target with
    | none => decide
    | some b => simp [hb] at htarget; simp; omega
  have htrim5 : p.trimNode.getD 0 < 2 ^ 5 := by
    cases hb : p.trimNode with
    | none => decide
    | some b => simp [hb, nodeOk_iff] at htrim; simp; omega
  have hbrkOk : p.brk.all (fun v => v != 0) = true := by
    cases hb : p.brk with
    | none => rfl
    | some b => simp [hb] at hbrk; simp; omega
  have hseq8 : p.seq < 2 ^ 8 := hseq
  have hmake12 : p.make < 2 ^ 12 := by omega
  have hfrequency16 : p.frequency < 2 ^ 16 := by omega
  have hcount3 : p.participants.length - 1 < 2 ^ 3 := by omega
  have hwindow5 : p.window - 1 < 2 ^ 5 := by omega
  have hread : ∀ {α : Type} (tail : Bits) (k : List Nat × Bits → Option α),
      (readFields 5 8 (p.fields.flatMap (bitsOf 5) ++ tail)).bind k = k (p.fields, tail) := by
    intro α tail k
    have := readFields_bits hfit tail
    rw [hlength] at this
    rw [this]
    rfl
  have hbits : p.bits ++ rest = bitsOf 8 p.seq ++ (bitsOf 12 p.make ++ (bitsOf 1 p.brk.isSome.toNat ++
      (bitsOf 12 (p.brk.getD 0) ++ (bitsOf 16 p.frequency ++ (bitsOf 1 p.target.isSome.toNat ++ (bitsOf 15 (p.target.getD 0) ++
      (bitsOf 1 p.trimNode.isSome.toNat ++ (bitsOf 5 (p.trimNode.getD 0) ++ (bitsOf 3 (p.participants.length - 1) ++
      (p.fields.flatMap (bitsOf 5) ++ (bitsOf 5 (p.window - 1) ++ (bitsOf 1 p.hotTolerant.toNat ++ rest)))))))))))) := by
    simp only [Propose.bits, ← p.fields_eq, List.append_assoc]
  rw [hbits]
  unfold Propose.read
  refine (bind_takeField hseq8 _ _).trans ?_
  refine (bind_takeField hmake12 _ _).trans ?_
  refine (bind_takeField (toNat_lt_two _) _ _).trans ?_
  refine (bind_takeField hbrk12 _ _).trans ?_
  refine (bind_takeField hfrequency16 _ _).trans ?_
  refine (bind_takeField (toNat_lt_two _) _ _).trans ?_
  refine (bind_takeField htarget15 _ _).trans ?_
  refine (bind_takeField (toNat_lt_two _) _ _).trans ?_
  refine (bind_takeField htrim5 _ _).trans ?_
  refine (bind_takeField hcount3 _ _).trans ?_
  refine (hread _ _).trans ?_
  refine (bind_takeField hwindow5 _ _).trans ?_
  refine (bind_takeField (toNat_lt_two _) _ _).trans ?_
  dsimp only
  rw [flagged_fields hbrkOk, flagged_fields htarget, flagged_fields htrim, htake, hdrop, hnodes, toNat_beq_one,
    Nat.sub_add_cancel (by omega)]
  refine (if_pos ?_).trans rfl
  simp only [Bool.and_eq_true, decide_eq_true_eq, bne_iff_ne, and_true]
  omega

/-- A message within its codes is read back from the front of the bits, by its kind. -/
theorem readMessage_bits {m : Option Message} (h : m.all Message.inCodes = true) (rest : Bits) :
    readMessage (messageKind m) (messageBits m ++ rest) = some (m, rest) := by
  cases m with
  | none => rfl
  | some m =>
    cases m with
    | propose p =>
      show (Propose.read (p.bits ++ rest)).map (fun r => (some (Message.propose r.1), r.2)) = _
      rw [Propose.read_bits h rest]
      rfl
    | release route force =>
      have hroute : 1 ≤ route ∧ route ≤ 4095 := by simpa [Message.inCodes] using h
      have hbits : messageBits (some (.release route force)) ++ rest = bitsOf 12 route ++ (bitsOf 1 force.toNat ++ rest) :=
        List.append_assoc _ _ _
      rw [hbits]
      have hroute12 : route < 2 ^ 12 := by omega
      unfold readMessage messageKind
      refine (bind_takeField hroute12 _ _).trans ?_
      refine (bind_takeField (toNat_lt_two _) _ _).trans ?_
      dsimp only
      rw [toNat_beq_one]
      exact if_pos (by simp; omega)

/-! ### The record (R48) -/

theorem messageKind_lt (m : Option Message) : messageKind m < 2 ^ 2 := by
  rcases m with _ | _ | _ <;> simp [messageKind]

/-- A record's fields are read back from its body. -/
theorem SlotRecord.ofBody_body {r : SlotRecord} (h : r.inCodes = true) : SlotRecord.ofBody r.body = some r := by
  simp only [SlotRecord.inCodes, Bool.and_eq_true, decide_eq_true_eq] at h
  obtain ⟨⟨⟨hsender, hcount⟩, hentries⟩, hmessage⟩ := h
  have hnode := (nodeOk_iff _).mp hsender
  have hbody : r.body = bitsOf 5 r.sender ++ (bitsOf 1 r.draining.toNat ++ (bitsOf 3 r.entries.length ++
      (bitsOf 2 (messageKind r.message) ++ (r.entries.flatMap StageEntry.bits ++ (messageBits r.message ++ []))))) := by
    simp only [SlotRecord.body, List.append_assoc, List.append_nil]
  rw [hbody]
  have hsender5 : r.sender < 2 ^ 5 := by omega
  have hcount3 : r.entries.length < 2 ^ 3 := by omega
  unfold SlotRecord.ofBody
  refine (bind_takeField hsender5 _ _).trans ?_
  refine (bind_takeField (toNat_lt_two _) _ _).trans ?_
  refine (bind_takeField hcount3 _ _).trans ?_
  refine (bind_takeField (messageKind_lt _) _ _).trans ?_
  dsimp only
  rw [if_neg (by omega), readEntries_bits hentries]
  refine Eq.trans (b := (readMessage (messageKind r.message) (messageBits r.message ++ [])).bind _) rfl ?_
  rw [readMessage_bits hmessage]
  simp [hsender]

theorem SlotRecord.decode_bits {r : SlotRecord} (h : r.inCodes = true) :
    SlotRecord.decode (r.body ++ bitsOf 16 (crc16 r.body).toNat) = some r := by
  have hlength : (r.body ++ bitsOf 16 (crc16 r.body).toNat).length - 16 = r.body.length := by simp
  have hcheck : bitsValue (bitsOf 16 (crc16 r.body).toNat) = (crc16 r.body).toNat := by
    rw [bitsValue_bitsOf, Nat.mod_eq_of_lt (crc16 r.body).isLt]
  unfold SlotRecord.decode
  rw [if_neg (by simp), hlength]
  dsimp only
  rw [List.take_left, List.drop_left, if_pos hcheck, SlotRecord.ofBody_body h]

/-- What a slot's number judges of a record it drove (R48). -/
theorem judgeSlot_bits {r : SlotRecord} (h : r.inCodes = true) : judgeSlot r.sender r.bits = .good r := by
  have hbits : r.bits = startPattern ++ (r.body ++ bitsOf 16 (crc16 r.body).toNat) := List.append_assoc _ _ _
  unfold judgeSlot
  rw [hbits, if_pos (by rfl), List.drop_left' (by rfl), SlotRecord.decode_bits h]
  exact if_pos rfl

/-! ### Its length -/

theorem StageEntry.bits_length (e : StageEntry) : e.bits.length = 50 := by
  simp [StageEntry.bits]

theorem messageBits_length {m : Option Message} (h : m.all Message.inCodes = true) : (messageBits m).length ≤ 120 := by
  rcases m with _ | p | _
  · exact Nat.zero_le _
  · simp only [Option.all_some, Message.inCodes, Bool.and_eq_true, decide_eq_true_eq] at h
    obtain ⟨⟨⟨_, hcount⟩, _⟩, _⟩ := h
    have hfields : (p.fields.flatMap (bitsOf 5)).length = 40 := by
      rw [List.length_flatMap]
      simp [(p.fields_spec hcount.1 hcount.2).1]
    simp only [messageBits, Propose.bits, ← p.fields_eq, List.length_append, bitsOf_length, hfields]
    omega
  · simp [messageBits]

/-- Settles O59: `judgeSlot_bits`, and the widths of the fields of section 12.1 summed. -/
theorem slotRecordRoundTrip : Obligations.SlotRecordRoundTrip := by
  intro r h
  refine ⟨judgeSlot_bits h, ?_⟩
  simp only [SlotRecord.inCodes, Bool.and_eq_true, decide_eq_true_eq] at h
  obtain ⟨⟨⟨_, hcount⟩, _⟩, hmessage⟩ := h
  have hentries : (r.entries.flatMap StageEntry.bits).length = 50 * r.entries.length := by
    rw [List.length_flatMap]
    simp [StageEntry.bits_length, Nat.mul_comm]
  have := messageBits_length hmessage
  simp only [SlotRecord.bits, SlotRecord.body, List.length_append, bitsOf_length, hentries, startPattern, List.length_cons,
    List.length_nil]
  omega

end Sys2Proof.Machine
end

section
/-! SUPPORT. The start of the node's own slot: the withdrawal test, the message taken, and the record formed (R46, R47, R87, R140). -/

namespace Sys2Proof.Machine

/-! ### The withdrawal test (R87, R140) -/

/-- The tags whose withdrawal is tested past the commit point (R87). -/
def State.lateTags (s : State) : List Tag :=
  (s.cxe.contexts.filter (fun c => c.withdrawal == .pending && c.tooLate)).map Context.tag

/-- A slot told that the cancels of some tags came too late (R140). -/
def SponsorSlot.toldLate (late : List Tag) (x : SponsorSlot) : SponsorSlot :=
  { x with cancel := if x.cancel = .taken ∧ ∃ tag ∈ late, x.tag = some tag then .late else x.cancel }

theorem SponsorSlot.foldl_cancelLate : ∀ (late : List Tag) (x : SponsorSlot),
    late.foldl (fun y tag => y.cancelLate tag) x = x.toldLate late
  | [], x => by simp [SponsorSlot.toldLate]
  | tag :: late, x => by
    rw [List.foldl_cons, SponsorSlot.foldl_cancelLate late]
    by_cases h : x.tag = some tag ∧ x.cancel = .taken
    · simp [SponsorSlot.cancelLate, SponsorSlot.toldLate, h.1, h.2]
    · by_cases ht : x.cancel = .taken
      · have hne : x.tag ≠ some tag := fun e => h ⟨e, ht⟩
        simp [SponsorSlot.cancelLate, SponsorSlot.toldLate, hne, ht]
      · simp [SponsorSlot.cancelLate, SponsorSlot.toldLate, ht]

/-- The withdrawal test changes the contexts under test and the slots that hold the late tags, and nothing else. -/
theorem State.testWithdrawals_eq (s : State) : s.testWithdrawals =
    { s with
      cxe := { s.cxe with contexts := s.cxe.contexts.map Context.testWithdrawal }
      spu := { s.spu with slotA := s.spu.slotA.toldLate s.lateTags, slotB := s.spu.slotB.toldLate s.lateTags } } := by
  have hfold : ∀ (late : List Tag) (u : State),
      late.foldl (fun (u : State) tag => { u with spu := { u.spu with
        slotA := u.spu.slotA.cancelLate tag, slotB := u.spu.slotB.cancelLate tag } }) u =
      { u with spu := { u.spu with
        slotA := late.foldl (fun y tag => y.cancelLate tag) u.spu.slotA
        slotB := late.foldl (fun y tag => y.cancelLate tag) u.spu.slotB } } := by
    intro late
    induction late with
    | nil => intro u; rfl
    | cons tag late ih => intro u; rw [List.foldl_cons, ih]; rfl
  refine (hfold s.lateTags _).trans ?_
  simp only [SponsorSlot.foldl_cancelLate]

theorem State.testWithdrawals_slot (s : State) (name : SlotName) :
    s.testWithdrawals.slot name = (s.slot name).toldLate s.lateTags := by
  rw [s.testWithdrawals_eq]
  cases name <;> rfl

theorem State.mem_lateTags {s : State} {tag : Tag} : tag ∈ s.lateTags ↔
    ∃ c ∈ s.cxe.contexts, c.withdrawal = .pending ∧ c.passedCommit = true ∧ c.tag = tag := by
  simp [State.lateTags, Context.tooLate, and_assoc]

/-- A TAKEN cancel goes LATE where the context of the slot's tag is tested past its commit point (R140). -/
theorem State.toldLate_lateTags (s : State) (x : SponsorSlot) : x.toldLate s.lateTags =
    { x with cancel := if x.cancel = .taken ∧ ∃ c ∈ s.cxe.contexts, c.withdrawal = .pending ∧ c.passedCommit = true ∧
      x.tag = some c.tag then .late else x.cancel } := by
  have hlate : (∃ tag ∈ s.lateTags, x.tag = some tag) ↔
      ∃ c ∈ s.cxe.contexts, c.withdrawal = .pending ∧ c.passedCommit = true ∧ x.tag = some c.tag := by
    simp only [State.mem_lateTags]
    exact ⟨fun ⟨_, ⟨c, hc, hp, hm, e⟩, ht⟩ => ⟨c, hc, hp, hm, e ▸ ht⟩, fun ⟨c, hc, hp, hm, ht⟩ => ⟨_, ⟨c, hc, hp, hm, rfl⟩, ht⟩⟩
  unfold SponsorSlot.toldLate
  simp only [hlate]

/-! ### The record formed (R46) -/

/-- The record the node forms in its own slot. -/
def State.ownRecord (s : State) : SlotRecord :=
  { sender := s.me, draining := s.biu.busState == .draining, entries := s.testWithdrawals.stageEntries
    message := s.biu.outbound.head?.map Outbound.message }

theorem State.testWithdrawals_biu (s : State) : s.testWithdrawals.biu = s.biu := by rw [s.testWithdrawals_eq]

/-- The oldest message leaves the list (R47). -/
theorem State.takeMessage_list (s : State) : s.takeMessage.1 = s.biu.outbound.head?.map Outbound.message ∧
    s.takeMessage.2.biu = { s.biu with outbound := s.biu.outbound.tail } := by
  unfold State.takeMessage
  split
  · rename_i h
    refine ⟨by rw [h]; rfl, ?_⟩
    show s.biu = { s.biu with outbound := s.biu.outbound.tail }
    rw [h, List.tail_nil, ← h]
  · rename_i o rest h
    refine ⟨by rw [h]; rfl, (State.setSlot_biu _ _ _).trans ?_⟩
    rw [h]
    rfl

/-- What the start of the own slot leaves at a node that drives in it (R46): the oldest message gone from the list and its slot
told, the record driven and kept. -/
theorem State.startOwnSlot_eq {s : State} (hb : s.biu.busState = .onBus ∨ s.biu.busState = .draining) (hsynced : s.biu.synced = true)
    (hplace : s.biu.place = .slots s.me) (hcopy : s.biu.ownCopy = none) :
    s.startOwnSlot = { s.testWithdrawals.takeMessage.2 with
      biu := { s.biu with drive := .record, ownCopy := some s.ownRecord, outbound := s.biu.outbound.tail } } := by
  have hspeaks : s.biu.busState.speaks = true := (BusState.speaks_iff _).mpr hb
  obtain ⟨hmessage, hbiu⟩ := s.testWithdrawals.takeMessage_list
  rw [s.testWithdrawals_biu] at hmessage hbiu
  unfold State.startOwnSlot
  rw [if_pos (by simp [hspeaks, hsynced, hplace, hcopy])]
  dsimp only
  unfold State.me
  rw [hmessage, hbiu]
  rfl

/-- A message taken from the list tells its slot alone (R47). -/
theorem State.takeMessage_slot {s : State} :
    (s.biu.outbound = [] → s.takeMessage.2 = s) ∧
    ∀ o rest, s.biu.outbound = o :: rest →
      s.takeMessage.2.slot o.slot = { s.slot o.slot with sent := true } ∧
      s.takeMessage.2.slot (otherSlot o.slot) = s.slot (otherSlot o.slot) := by
  unfold State.takeMessage
  refine ⟨fun h => by rw [h], fun o rest h => ?_⟩
  rw [h]
  exact ⟨State.slot_setSlot _ _ _, (State.slot_setSlot_other _ _ _).trans (by cases o.slot <;> rfl)⟩

/-- A message taken changes no field of a slot but whether its message was sent. -/
theorem State.takeMessage_sent (s : State) (name : SlotName) :
    s.takeMessage.2.slot name = { s.slot name with sent := (s.takeMessage.2.slot name).sent } := by
  cases ho : s.biu.outbound with
  | nil => rw [State.takeMessage_slot.1 ho]
  | cons o rest =>
    obtain ⟨hsame, hother⟩ := State.takeMessage_slot.2 o rest ho
    by_cases h : name = o.slot
    · rw [h, hsame]
    · have hn : name = otherSlot o.slot := by
        revert h
        cases name <;> cases o.slot <;> simp [otherSlot]
      rw [hn, hother]

/-- A message taken touches the outbound list and a slot, and nothing else. -/
theorem State.takeMessage_rest (s : State) :
    s.takeMessage.2.cxe = s.cxe ∧ s.takeMessage.2.sbc = s.sbc ∧ s.takeMessage.2.rtb = s.rtb ∧ s.takeMessage.2.rfg = s.rfg ∧
      s.takeMessage.2.spu.seq = s.spu.seq ∧ s.takeMessage.2.ctp = s.ctp ∧ s.takeMessage.2.planSide = s.planSide := by
  unfold State.takeMessage
  split
  · exact ⟨rfl, rfl, rfl, rfl, rfl, rfl, rfl⟩
  · refine ⟨?_, ?_, ?_, ?_, ?_, ?_, ?_⟩ <;> simp
    rfl

/-- The end of an event reads the port's state and the bus state alone (R167, R180, R184). -/
theorem State.complete_ctp_congr {s t : State} (hctp : t.ctp = s.ctp) (hbus : t.biu.busState = s.biu.busState) :
    t.complete.ctp = s.complete.ctp := by
  unfold State.complete
  simp only [hctp, hbus]

/-- Settles O27: the withdrawal test (`State.testWithdrawals_eq`), then the record of `State.startOwnSlot_eq`. -/
theorem ownSlotFormsRecord : Obligations.OwnSlotFormsRecord := by
  intro s u hu
  have hexec : exec .ownSlotStart s = .next u.startOwnSlot.complete := by rw [hu]; rfl
  rw [hexec]
  refine ⟨fun hb hsynced hplace hcopy => ?_, fun hon hdrain => ?_⟩
  · rw [State.startOwnSlot_eq hb hsynced hplace hcopy]
    obtain ⟨hcxe, hsbc, hrtb, hrfg, hseq, hctp, hplan⟩ := u.testWithdrawals.takeMessage_rest
    obtain ⟨hnone, hsome⟩ := State.takeMessage_slot (s := u.testWithdrawals)
    rw [u.testWithdrawals_biu] at hnone hsome
    have hcontexts : u.testWithdrawals.cxe = { u.cxe with contexts := u.cxe.contexts.map Context.testWithdrawal } := by
      rw [u.testWithdrawals_eq]
    have hsent : ∀ name, (u.testWithdrawals.slot name).sent = (u.slot name).sent := fun name => by
      rw [u.testWithdrawals_slot]
      rfl
    have hslot : ∀ name, u.testWithdrawals.takeMessage.2.slot name = { u.slot name with
        sent := (u.testWithdrawals.takeMessage.2.slot name).sent
        cancel := if (u.slot name).cancel = .taken ∧ ∃ c ∈ u.cxe.contexts, c.withdrawal = .pending ∧
          c.passedCommit = true ∧ (u.slot name).tag = some c.tag then .late else (u.slot name).cancel } := by
      intro name
      refine (u.testWithdrawals.takeMessage_sent name).trans ?_
      rw [u.testWithdrawals_slot, u.toldLate_lateTags]
    generalize u.testWithdrawals.takeMessage.2 = t at *
    have hread : ∀ name, ({ t with biu := { u.biu with
        drive := .record, ownCopy := some u.ownRecord, outbound := u.biu.outbound.tail } } : State).complete.slot name =
        t.slot name := fun name => by cases name <;> rfl
    refine ⟨_, u.ownRecord, rfl, rfl, rfl, rfl, rfl, congrArg Cxe.contexts (hcxe.trans hcontexts), ?_, fun ho => ?_,
      fun o rest ho => ?_, fun name => ?_, rfl, ?_, ?_, ?_, ?_, ?_, ?_, ?_⟩
    · show u.testWithdrawals.stageEntries = t.cxe.contexts.filterMap _
      rw [hcxe]
      rfl
    · obtain rfl := hnone ho
      refine ⟨by rw [State.ownRecord, ho]; rfl, congrArg List.tail ho, fun name => ?_⟩
      rw [hread]
      exact hsent name
    · obtain ⟨hsame, hother⟩ := hsome o rest ho
      refine ⟨by rw [State.ownRecord, ho]; rfl, congrArg List.tail ho, ?_, ?_⟩
      · rw [hread, hsame]
      · rw [hread, hother]
        exact hsent _
    · rw [hread]
      exact hslot name
    · exact (congrArg Cxe.reservations hcxe).trans (by rw [hcontexts])
    · exact hsbc.trans (by rw [u.testWithdrawals_eq])
    · exact hrtb.trans (by rw [u.testWithdrawals_eq])
    · exact hrfg.trans (by rw [u.testWithdrawals_eq])
    · exact hseq.trans (by rw [u.testWithdrawals_eq])
    · exact State.complete_ctp_congr (hctp.trans (by rw [u.testWithdrawals_eq])) rfl
    · exact (State.keeps_iff _ _).mpr (hplan.trans u.testWithdrawals_planSide)
  · unfold State.startOwnSlot
    rw [if_neg]
    simp [BusState.speaks_iff, hon, hdrain]

end Sys2Proof.Machine
end

section
/-! SUPPORT. The end of a peer's slot, and a record delivered (R48, R49, R57, R59, R66). -/

namespace Sys2Proof.Machine

/-! ### What a slot is judged (R48) -/

theorem judgeSlot_silent {slot : Nat} {line : Bits} (h : line.take 8 ≠ startPattern) : judgeSlot slot line = .nothing := if_neg h

/-- Bits that start a record and give none of the slot's own sender fail. -/
theorem judgeSlot_failed {slot : Nat} {line : Bits} (h : line.take 8 = startPattern)
    (hbad : ∀ r, SlotRecord.decode (line.drop 8) = some r → r.sender ≠ slot) : judgeSlot slot line = .failed := by
  unfold judgeSlot
  rw [if_pos h]
  split
  · rename_i r hr
    exact if_neg (hbad r hr)
  · rfl

theorem judgeSlot_good {slot : Nat} {line : Bits} {r : SlotRecord} (h : line.take 8 = startPattern)
    (hr : SlotRecord.decode (line.drop 8) = some r) (hs : r.sender = slot) : judgeSlot slot line = .good r := by
  unfold judgeSlot
  rw [if_pos h, hr]
  exact if_pos hs

/-! ### A record delivered (R49, R66) -/

theorem State.releaseHeard_me (s : State) (sender route : Nat) (force : Bool) : (s.releaseHeard sender route force).2.me = s.me := by
  unfold State.releaseHeard
  repeat' split
  all_goals rfl

/-- A message taken whole, a RELEASE answering the sponsor slot where the sender is this node (R37, R65, R134). -/
def State.hears (s : State) (sender : Nat) : Option Message → State
  | none => s
  | some (.propose p) => s.proposeHeard sender p
  | some (.release route force) =>
    if sender = s.me then
      (s.releaseHeard sender route force).2.releaseAnswered ((s.releaseHeard sender route force).1 == .honoured)
    else (s.releaseHeard sender route force).2

theorem State.messageHeard_release (s : State) (sender : Nat) (changeovers : Bool) (route : Nat) (force : Bool) :
    s.messageHeard sender changeovers (some (.release route force)) = s.hears sender (some (.release route force)) := by
  unfold State.messageHeard State.hears
  dsimp only
  rw [s.releaseHeard_me]

theorem State.messageHeard_whole (s : State) (sender : Nat) (m : Option Message) :
    s.messageHeard sender true m = s.hears sender m := by
  rcases m with _ | _ | ⟨route, force⟩
  · rfl
  · rfl
  · exact s.messageHeard_release sender true route force

/-- Outside ON-BUS and DRAINING a PROPOSE is not taken, and every other message is (R49). -/
theorem State.messageHeard_releaseOnly (s : State) (sender : Nat) (m : Option Message) :
    ((∀ p, m ≠ some (.propose p)) → s.messageHeard sender false m = s.hears sender m) ∧
      ((∃ p, m = some (.propose p)) → s.messageHeard sender false m = s) := by
  rcases m with _ | p | ⟨route, force⟩
  · exact ⟨fun _ => rfl, fun ⟨_, h⟩ => nomatch h⟩
  · exact ⟨fun h => absurd rfl (h p), fun _ => rfl⟩
  · exact ⟨fun _ => s.messageHeard_release sender false route force, fun ⟨_, h⟩ => nomatch h⟩

/-- The stage entries of a record taken in order, then the test of what they leave out (R66, R71, R72). -/
def State.entriesTaken (s : State) (r : SlotRecord) : State :=
  (r.entries.foldl (State.takeEntry r.sender) s).participantFreed r.sender r.entries

theorem State.deliver_speaks {s : State} (h : s.biu.busState.speaks = true) (r : SlotRecord) :
    s.deliver r = (s.entriesTaken r).hears r.sender r.message := by
  unfold State.deliver
  rw [if_pos h]
  exact State.messageHeard_whole _ _ _

theorem State.deliver_quiet {s : State} (h : s.biu.busState.speaks = false) (r : SlotRecord) :
    s.deliver r = s.messageHeard r.sender false r.message := by
  unfold State.deliver
  rw [if_neg (by rw [h]; exact nofun)]

/-- With an empty table the stage entries of a record meet no context. -/
theorem State.entriesTaken_empty {s : State} (h : s.cxe.contexts = []) (r : SlotRecord) : s.entriesTaken r = s := by
  have hentry : ∀ e, State.takeEntry r.sender s e = s := by
    intro e
    unfold State.takeEntry State.context?
    rw [h]
    rfl
  have hfold : ∀ es : List StageEntry, es.foldl (State.takeEntry r.sender) s = s := by
    intro es
    induction es with
    | nil => rfl
    | cons e es ih => rw [List.foldl_cons, hentry, ih]
  unfold State.entriesTaken State.participantFreed
  rw [hfold, h]
  rfl

/-- A record without a message changes nothing at a node with an empty table. -/
theorem State.deliver_nothing {s : State} (h : s.cxe.contexts = []) {r : SlotRecord} (hm : r.message = none) : s.deliver r = s := by
  cases hb : s.biu.busState.speaks with
  | true => rw [State.deliver_speaks hb, State.entriesTaken_empty h, hm]; rfl
  | false => rw [State.deliver_quiet hb, hm]; rfl

/-! ### The end of a slot -/

/-- The next slot's end awaited, the line no more driven. -/
def State.slotPassed (s : State) (n : Nat) : State := { s with biu := { s.biu with place := .slots (n + 1), drive := .nothing } }

/-- The end of a slot at a synced node: what was heard in it is judged, and taken as the own slot's or as a peer's (R48). -/
theorem State.endSlot_judged {s : State} {n : Nat} {line : Bits} (ht : s.biu.timerRunning = true) (hs : s.biu.synced = true)
    (hp : s.biu.place = .slots n) (hn : n ≤ 30) : s.endSlot line =
      if n = s.me then
        ({ s.slotPassed n with biu := { (s.slotPassed n).biu with ownCopy := none } } : State).ownSlot s.biu.ownCopy (judgeSlot n line)
      else (s.slotPassed n).peerSlot n (judgeSlot n line) := by
  unfold State.endSlot
  rw [hp]
  exact if_pos (by simp [ht, hs, hn])

/-- The end of a peer's slot. -/
theorem State.endSlot_peer {s : State} {n : Nat} {line : Bits} (ht : s.biu.timerRunning = true) (hs : s.biu.synced = true)
    (hp : s.biu.place = .slots n) (hn : n ≤ 30) (hme : n ≠ s.me) :
    s.endSlot line = (s.slotPassed n).peerSlot n (judgeSlot n line) := by
  rw [State.endSlot_judged ht hs hp hn, if_neg hme]

theorem State.peerPresent_iff (s : State) (n : Nat) :
    s.peerPresent n = true ↔ ∃ p ∈ s.biu.peers, p.node = n ∧ p.presence = .present := by
  simp [State.peerPresent]

/-- Settles O28: the slot judged (`judgeSlot_silent`, `judgeSlot_failed`, `judgeSlot_bits`), then the record delivered. -/
theorem peerSlotJudged : Obligations.PeerSlotJudged := by
  constructor
  · intro line s u n hu ht hs hp _ hn hme
    have hexec : exec (.slotEnd line) s = .next ((u.slotPassed n).peerSlot n (judgeSlot n line)).complete := by
      rw [← State.endSlot_peer ht hs hp hn hme, hu]
      rfl
    rw [hexec]
    refine ⟨fun h => ?_, fun h hbad => ?_, fun r hr hline hsender => ⟨fun h => ?_, fun h => ?_, ?_⟩⟩
    · rw [judgeSlot_silent h]
      rfl
    · rw [judgeSlot_failed h hbad]
      rfl
    · subst hsender
      rw [hline, judgeSlot_bits hr, State.peerSlot, State.peerHeard,
        if_pos ((State.peerPresent_iff (u.slotPassed r.sender) r.sender).mpr h)]
      rfl
    · subst hsender
      have habsent : ¬(u.slotPassed r.sender).peerPresent r.sender = true := fun e => by
        obtain ⟨p, hp, hnode, hpresent⟩ := (State.peerPresent_iff _ _).mp e
        exact h p hp hnode hpresent
      rw [hline, judgeSlot_bits hr, State.peerSlot, State.peerHeard, if_neg habsent]
      rfl
    · intro hc hm
      refine State.deliver_nothing ?_ hm
      exact hc
  · intro v r
    refine ⟨fun h => State.deliver_speaks ((BusState.speaks_iff _).mpr h) r, fun h hm => ?_, fun h hm => ?_⟩
    all_goals rw [State.deliver_quiet (Bool.eq_false_iff.mpr (mt (BusState.speaks_iff _).mp h))]
    · exact (State.messageHeard_releaseOnly v r.sender r.message).1 hm
    · exact (State.messageHeard_releaseOnly v r.sender r.message).2 hm

end Sys2Proof.Machine
end

section
/-! SUPPORT. Contexts closed one after another, as an absence and the entry to DUPLICATE close them (R83, R84, R147, R156). -/

namespace Sys2Proof.Machine

/-! ### A run of closes -/

/-- Contexts closed FAILED in their order, each with its close record. -/
def State.closeAll (record : Context → CloseRecord) (cs : List Context) (s : State) : State :=
  cs.foldl (fun u c => u.closeFailed c (record c)) s

theorem State.context_of_mem {s : State} (h : (s.cxe.contexts.map Context.tag).Nodup) {c : Context} (hc : c ∈ s.cxe.contexts) :
    s.context? c.tag = some c := by
  cases hf : s.context? c.tag with
  | none => exact absurd (List.find?_eq_none.mp hf c hc) (by simp)
  | some d =>
    obtain ⟨hd, htag⟩ := State.context_spec hf
    rw [context_unique h hd hc htag]

theorem State.closeFailed_tags (s : State) (c : Context) (r : CloseRecord) :
    (s.closeFailed c r).cxe.contexts.map Context.tag = s.cxe.contexts.map Context.tag := by
  rw [(s.closeFailed_kept c r).1, List.map_map]
  refine List.map_congr_left fun x _ => ?_
  simp only [Function.comp]
  split <;> rfl

/-- A context of another tag is left by a close. -/
theorem State.closeFailed_mem {s : State} {c x : Context} (r : CloseRecord) (hx : x ∈ s.cxe.contexts) (hne : x.tag ≠ c.tag) :
    x ∈ (s.closeFailed c r).cxe.contexts := by
  rw [(s.closeFailed_kept c r).1]
  exact List.mem_map.mpr ⟨x, hx, if_neg hne⟩

/-- Closes by tag of contexts that stand open under tags of their own are closes of those contexts. -/
theorem State.closeOpen_foldl (record : Context → CloseRecord) : ∀ {cs : List Context} {s : State},
    (s.cxe.contexts.map Context.tag).Nodup → (cs.map Context.tag).Nodup →
    (∀ c ∈ cs, c ∈ s.cxe.contexts ∧ c.isOpen = true) →
    (cs.map Context.tag).foldl (State.closeOpen record) s = State.closeAll record cs s
  | [], _, _, _, _ => rfl
  | c :: cs, s, h, hcs, hopen => by
    obtain ⟨⟨hmem, hc⟩, hrest⟩ := List.forall_mem_cons.mp hopen
    rw [List.map_cons, List.nodup_cons] at hcs
    have hclose : State.closeOpen record s c.tag = s.closeFailed c (record c) := by
      unfold State.closeOpen
      rw [State.context_of_mem h hmem]
      exact if_pos hc
    rw [List.map_cons, List.foldl_cons, hclose]
    refine State.closeOpen_foldl record (by rw [State.closeFailed_tags]; exact h) hcs.2 fun x hx => ⟨?_, (hrest x hx).2⟩
    exact State.closeFailed_mem _ (hrest x hx).1 fun e => hcs.1 (e ▸ List.mem_map_of_mem hx)

/-- The contexts after a run of closes, where no two hold one tag. -/
theorem State.closeAll_contexts (record : Context → CloseRecord) : ∀ {cs : List Context} {s : State},
    (s.cxe.contexts.map Context.tag).Nodup → (cs.map Context.tag).Nodup → (∀ c ∈ cs, c ∈ s.cxe.contexts) →
    (State.closeAll record cs s).cxe.contexts =
      s.cxe.contexts.map (fun x => if x ∈ cs then x.closed .failed (record x) else x)
  | [], s, _, _, _ => by simp [State.closeAll]
  | c :: cs, s, h, hcs, hmem => by
    obtain ⟨hc, hrest⟩ := List.forall_mem_cons.mp hmem
    rw [List.map_cons, List.nodup_cons] at hcs
    have htag : ∀ x ∈ cs, x.tag ≠ c.tag := fun x hx e => hcs.1 (e ▸ List.mem_map_of_mem hx)
    refine (State.closeAll_contexts record (s := s.closeFailed c (record c)) (by rw [State.closeFailed_tags]; exact h) hcs.2
      fun x hx => State.closeFailed_mem _ (hrest x hx) (htag x hx)).trans ?_
    rw [(s.closeFailed_kept c (record c)).1, List.map_map]
    refine List.map_congr_left fun x hx => ?_
    simp only [Function.comp]
    by_cases hxc : x.tag = c.tag
    · obtain rfl := context_unique h hx hc hxc
      have hnot : x.closed .failed (record x) ∉ cs := fun hin => htag _ hin rfl
      rw [if_pos rfl, if_pos List.mem_cons_self, if_neg hnot]
    · have hne : x ≠ c := fun e => hxc (e ▸ rfl)
      simp only [if_neg hxc, List.mem_cons, hne, false_or]

theorem State.closeAll_cons (record : Context → CloseRecord) (c : Context) (cs : List Context) (s : State) :
    State.closeAll record (c :: cs) s = State.closeAll record cs (s.closeFailed c (record c)) := rfl

/-- The switches after a run of closes (R11). -/
theorem State.closeAll_sbc (record : Context → CloseRecord) : ∀ (cs : List Context) (s : State),
    (State.closeAll record cs s).sbc = s.sbc.map (fun w => cs.foldl (fun w c => w.dropTag c.tag) w)
  | [], s => (List.map_id' s.sbc).symm
  | c :: cs, s => by
    rw [State.closeAll_cons, State.closeAll_sbc record cs, (s.closeFailed_kept c (record c)).2.1, List.map_map]
    rfl

/-- The route records after a run of closes (R31). -/
theorem State.closeAll_rtb (record : Context → CloseRecord) : ∀ (cs : List Context) (s : State),
    (State.closeAll record cs s).rtb =
      { s.rtb with routes := s.rtb.routes.map (fun r => cs.foldl (fun r c => r.unbusy c.tag) r) }
  | [], s => by
    simp only [List.foldl_nil, List.map_id']
    rfl
  | c :: cs, s => by
    obtain ⟨_, _, hroutes, hstray, _⟩ := s.closeFailed_kept c (record c)
    rw [State.closeAll_cons, State.closeAll_rtb record cs]
    simp only [hroutes, hstray, List.map_map]
    rfl

/-- A reading that a close leaves is left by a run of them. -/
theorem State.closeAll_keeps {β : Type} {g : State → β} (h : ∀ (u : State) (c : Context) (r : CloseRecord), g (u.closeFailed c r) = g u)
    (record : Context → CloseRecord) (cs : List Context) (s : State) : g (State.closeAll record cs s) = g s :=
  foldl_keeps _ g (fun u c => h u c (record c)) cs s

theorem State.closeFailed_events (s : State) (c : Context) (r : CloseRecord) : (s.closeFailed c r).ctp.events = s.ctp.events :=
  events_sponsorFree.closeFailed (fun _ _ _ _ _ => rfl) s c r

/-- A busy tag goes with a run of closes where one of them holds it (R31). -/
theorem Route.foldl_unbusy : ∀ (cs : List Context) (r : Route), cs.foldl (fun r c => r.unbusy c.tag) r =
    { r with busy := if cs.any (fun c => r.busy == some c.tag) then none else r.busy }
  | [], r => rfl
  | c :: cs, r => by
    rw [List.foldl_cons, Route.foldl_unbusy cs]
    by_cases h : r.busy = some c.tag
    · simp [Route.unbusy, h]
    · simp [Route.unbusy, h]

/-- An entry that a tag's drop leaves is one that stood, less a successor (R11). -/
theorem Switch.dropTag_entry {tag : Tag} {w : Switch} {e : Claim} (h : e ∈ (w.dropTag tag).claims) :
    ∃ d ∈ w.claims, e.holder = d.holder ∧ ∀ x ∈ e.successor, x ∈ d.successor := by
  rw [Switch.dropTag_claims] at h
  obtain ⟨d, hd, he⟩ := List.mem_filterMap.mp h
  obtain ⟨_, hholder, _, hsuccessor⟩ := Claim.withoutTag_spec he
  exact ⟨d, hd, hholder, fun x hx => ((hsuccessor x).mp hx).1⟩

/-- The established claims of a switch, each with its position. -/
def Switch.standing (w : Switch) : List (Nat × Option Nat) :=
  w.claims.filterMap (fun e => e.route?.map (fun route => (route, e.position)))

/-- A tag's drop leaves every established claim as it stood (R11). -/
theorem Switch.dropTag_standing (tag : Tag) (w : Switch) : (w.dropTag tag).standing = w.standing := by
  unfold Switch.standing
  rw [Switch.dropTag_claims, List.filterMap_filterMap]
  refine List.filterMap_congr fun c _ => ?_
  cases he : c.withoutTag tag with
  | none =>
    have hpending : c.holder = .pending tag := by
      unfold Claim.withoutTag at he
      split at he
      · assumption
      · cases he
    simp [Claim.route?, hpending]
  | some d =>
    obtain ⟨_, hholder, hposition, _⟩ := Claim.withoutTag_spec he
    simp [Claim.route?, hholder, hposition]

/-- No claim of a tag stays on a switch once it is dropped, whatever is dropped after it (R11). -/
theorem Switch.foldl_dropTag_none : ∀ (cs : List Context) (w : Switch) (tag : Tag),
    (tag ∈ cs.map Context.tag ∨ ∀ e ∈ w.claims, e.holder ≠ .pending tag ∧ ∀ x ∈ e.successor, x.tag ≠ tag) →
    ∀ e ∈ (cs.foldl (fun w c => w.dropTag c.tag) w).claims, e.holder ≠ .pending tag ∧ ∀ x ∈ e.successor, x.tag ≠ tag
  | [], _, _, h => h.resolve_left List.not_mem_nil
  | c :: cs, w, tag, h => by
    refine Switch.foldl_dropTag_none cs (w.dropTag c.tag) tag ?_
    rcases h with h | h
    · rcases List.mem_cons.mp h with ht | hin
      · exact .inr (ht ▸ w.dropTag_none c.tag)
      · exact .inl hin
    · refine .inr fun e he => ?_
      obtain ⟨d, hd, hholder, hsuccessor⟩ := Switch.dropTag_entry he
      exact ⟨hholder ▸ (h d hd).1, fun x hx => (h d hd).2 x (hsuccessor x hx)⟩

end Sys2Proof.Machine
end

section
/-! SUPPORT. The end of the node's own slot: the own record delivered, and the entry to DUPLICATE (R49, R55, R56, R156, R157). -/

namespace Sys2Proof.Machine

/-! ### A request's end -/

/-- Where nothing else waits for a slot or for a retry, the end of a request tells its notice, frees its slot and tests for the
end of DRAINING (R53, R129, R142). -/
theorem State.endRequest_idle {s : State} {name : SlotName} (hq : s.ctp.queue = []) (ho : (s.slot (otherSlot name)).state ≠ .backoff)
    (n : Notice) : s.endRequest name n = ((s.notice n).setSlot name .empty).drainTest := by
  have hempty : SponsorSlot.empty.state ≠ .backoff := nofun
  refine State.sponsorEvent_idle _ ?_ ?_ ?_
  · rw [State.drainTest_ctp, State.setSlot_ctp]
    exact hq
  · rw [State.drainTest_spu]
    cases name
    · exact hempty
    · exact ho
  · rw [State.drainTest_spu]
    cases name
    · exact ho
    · exact hempty

/-- The slot whose message went out in the own slot: A where both have sent (log 21). -/
theorem State.sentSlot_of {s : State} {name : SlotName} (hstate : (s.slot name).state = .sending) (hsent : (s.slot name).sent = true)
    (hfirst : name = .b → ¬(s.spu.slotA.state = .sending ∧ s.spu.slotA.sent = true)) : s.sentSlot? = some name := by
  cases name with
  | a => exact if_pos ⟨hstate, hsent⟩
  | b => exact (if_neg (hfirst rfl)).trans (if_pos ⟨hstate, hsent⟩)

theorem State.releaseAnswered_sent {s : State} {name : SlotName} {j : Job} (hsent : s.sentSlot? = some name)
    (hj : (s.slot name).job = some j) (honoured : Bool) : s.releaseAnswered honoured = s.endRequest name
      (if honoured then j.notice .released .ok (s.slot name).attempts else j.notice .failed .notHolder (s.slot name).attempts) := by
  unfold State.releaseAnswered
  rw [hsent]
  dsimp only
  rw [hj]

theorem State.proposeNotOpened_sent {s : State} {name : SlotName} {j : Job} (hsent : s.sentSlot? = some name)
    (hj : (s.slot name).job = some j) :
    s.proposeNotOpened = s.endRequest name (j.notice .failed .noAnswer (s.slot name).attempts) := by
  unfold State.proposeNotOpened
  rw [hsent]
  dsimp only
  rw [hj]

/-! ### In DUPLICATE the end of a request sets nothing in motion (R156, R157) -/

/-- The Bus Interface Unit with its outbound list, and the table's reservations. -/
def State.outward (s : State) : Biu × List SlotName := (s.biu, s.cxe.reservations)

theorem State.endRequest_duplicate {s : State} (h : s.biu.busState = .duplicate) (name : SlotName) (n : Notice) :
    s.endRequest name n = (s.notice n).setSlot name .empty := by
  have hb : ((s.notice n).setSlot name .empty).biu.busState = .duplicate := by
    rw [State.setSlot_biu]
    exact h
  have hdrain : ((s.notice n).setSlot name .empty).drainTest = (s.notice n).setSlot name .empty :=
    if_neg fun hd => by rw [hb] at hd; cases hd.1
  unfold State.endRequest State.freeSlot
  rw [hdrain]
  exact State.sponsorEvent_silent _ (by rw [hb]; rfl)

theorem State.busState_of_outward {s t : State} (h : t.outward = s.outward) : t.biu.busState = s.biu.busState :=
  congrArg (fun q => q.1.busState) h

theorem State.setSlot_outward (s : State) (name : SlotName) (x : SponsorSlot) : (s.setSlot name x).outward = s.outward := by
  cases name <;> rfl

theorem State.endRequest_outward {s : State} (h : s.biu.busState = .duplicate) (name : SlotName) (n : Notice) :
    (s.endRequest name n).outward = s.outward := by
  rw [State.endRequest_duplicate h, State.setSlot_outward]
  rfl

theorem State.judgeClose_outward {s : State} (h : s.biu.busState = .duplicate) (name : SlotName) (slot : SponsorSlot) (j : Job)
    (hand : HandOff) : (s.judgeClose name slot j hand).outward = s.outward := by
  rcases s.judgeClose_cases name slot j hand with ⟨n, _, e⟩ | ⟨_, _, _, e⟩ <;> rw [e]
  · exact State.endRequest_outward h name n
  · exact s.setSlot_outward name _

theorem State.handOver_outward {s : State} (h : s.biu.busState = .duplicate) (c : Context) (done : Bool) (record : CloseRecord) :
    (s.handOver c done record).outward = s.outward := by
  unfold State.handOver State.takeHandOff
  split
  · split
    · rfl
    · split
      · exact State.judgeClose_outward h _ _ _ _
      · rfl
  · rfl

theorem State.closeFailed_outward {s : State} (h : s.biu.busState = .duplicate) (c : Context) (record : CloseRecord) :
    (s.closeFailed c record).outward = s.outward := by
  unfold State.closeFailed
  dsimp only
  refine (State.handOver_outward ?_ _ _ _).trans ?_
  · split
    · split <;> exact h
    · split <;> exact h
  · split
    · split <;> rfl
    · split <;> rfl

theorem State.closeAll_outward (record : Context → CloseRecord) : ∀ (cs : List Context) {s : State},
    s.biu.busState = .duplicate → (State.closeAll record cs s).outward = s.outward
  | [], _, _ => rfl
  | c :: cs, s, h => by
    have hclose := State.closeFailed_outward h c (record c)
    have hbus := (State.busState_of_outward hclose).trans h
    rw [State.closeAll_cons, State.closeAll_outward record cs hbus, hclose]

theorem State.endSilent_outward {s : State} (h : s.biu.busState = .duplicate) (name : SlotName) :
    (s.endSilent name).outward = s.outward := by
  unfold State.endSilent
  split
  · exact State.endRequest_outward h _ _
  · rfl

/-- The slot ended holds no request, and the other stands as it did. -/
theorem State.endSilent_slot {s : State} (h : s.biu.busState = .duplicate) (name : SlotName) :
    ((s.endSilent name).slot name).job = none ∧ (s.endSilent name).slot (otherSlot name) = s.slot (otherSlot name) := by
  unfold State.endSilent
  split
  · rw [State.endRequest_duplicate h, State.slot_setSlot, State.slot_setSlot_other]
    refine ⟨rfl, ?_⟩
    cases name <;> rfl
  · exact ⟨‹_›, rfl⟩

/-! ### The entry to DUPLICATE (R56, R156, R157) -/

/-- Every open context closed for the loss of this node. -/
def State.contextsLost (s : State) : State :=
  State.closeAll (fun _ => .at .peerLost (some s.me)) (s.cxe.contexts.filter Context.isOpen) { s with cxe := { s.cxe with reservations := [] } }

theorem State.fallSilent_eq {s : State} (h : (s.cxe.contexts.map Context.tag).Nodup) :
    s.fallSilent = (s.contextsLost.endSilent .a).endSilent .b := by
  unfold State.fallSilent State.contextsLost
  dsimp only
  rw [State.closeOpen_foldl]
  · rfl
  · exact h
  · exact (List.filter_sublist.map _).nodup h
  · exact fun c hc => List.mem_filter.mp hc

theorem State.contextsLost_contexts {s : State} (h : (s.cxe.contexts.map Context.tag).Nodup) :
    ∀ c ∈ s.contextsLost.cxe.contexts, c.isOpen = false := by
  intro c hc
  unfold State.contextsLost at hc
  rw [State.closeAll_contexts] at hc
  · obtain ⟨x, hx, rfl⟩ := List.mem_map.mp hc
    split
    · rfl
    · rename_i hnot
      exact Bool.eq_false_iff.mpr fun ho => hnot (List.mem_filter.mpr ⟨hx, ho⟩)
  · exact h
  · exact (List.filter_sublist.map _).nodup h
  · exact fun c hc => (List.mem_filter.mp hc).1

theorem State.fallSilent_events (s : State) : s.fallSilent.ctp.events = s.ctp.events := by
  unfold State.fallSilent
  dsimp only
  rw [events_sponsorFree.endSilent, events_sponsorFree.endSilent]
  exact foldl_keeps _ (fun s : State => s.ctp.events)
    (fun u tag => events_sponsorFree.closeOpen (fun _ _ _ _ _ => rfl) _ u tag) _ _

/-- A node fallen silent in DUPLICATE: its unit on the bus as it stood, no place reserved, no request in a slot, every context
closed. -/
theorem State.fallSilent_spec {s : State} (h : (s.cxe.contexts.map Context.tag).Nodup) (hb : s.biu.busState = .duplicate) :
    s.fallSilent.biu = s.biu ∧ s.fallSilent.cxe.reservations = [] ∧ s.fallSilent.spu.slotA.job = none ∧
      s.fallSilent.spu.slotB.job = none ∧ ∀ c ∈ s.fallSilent.cxe.contexts, c.isOpen = false := by
  rw [State.fallSilent_eq h]
  have hlost : s.contextsLost.outward = (s.biu, []) :=
    State.closeAll_outward _ _ (s := { s with cxe := { s.cxe with reservations := [] } }) hb
  have hopen := State.contextsLost_contexts h
  generalize s.contextsLost = v at hlost hopen
  have hv : v.biu.busState = .duplicate := (congrArg (fun q => q.1.busState) hlost).trans hb
  have ha := State.endSilent_outward hv .a
  have hav := (State.busState_of_outward ha).trans hv
  have hboth : ((v.endSilent .a).endSilent .b).outward = (s.biu, []) := (State.endSilent_outward hav .b).trans (ha.trans hlost)
  have hcontexts : ((v.endSilent .a).endSilent .b).cxe.contexts = v.cxe.contexts :=
    congrArg Prod.fst (((v.endSilent .a).endSilent_bankSide .b).trans (v.endSilent_bankSide .a))
  refine ⟨congrArg Prod.fst hboth, congrArg Prod.snd hboth, ?_, (State.endSilent_slot hav .b).1, hcontexts ▸ hopen⟩
  exact (congrArg SponsorSlot.job (State.endSilent_slot hav .b).2).trans (State.endSilent_slot hv .a).1

/-- The entry to DUPLICATE (R56, R156, R157). -/
theorem State.enterDuplicate_spec (s : State) (cause : DuplicateCause) (h : (s.cxe.contexts.map Context.tag).Nodup) :
    (s.enterDuplicate cause).biu = { s.biu with busState := .duplicate, cause := some cause, outbound := [] } ∧
      (s.enterDuplicate cause).cxe.reservations = [] ∧ (s.enterDuplicate cause).spu.slotA.job = none ∧
      (s.enterDuplicate cause).spu.slotB.job = none ∧ (∀ c ∈ (s.enterDuplicate cause).cxe.contexts, c.isOpen = false) :=
  State.fallSilent_spec (s := ({ s with biu := { s.biu with busState := .duplicate, cause := some cause, outbound := [] } } : State).fire
    .duplicate (.cause cause)) h rfl

/-- The state and cause that the entry to DUPLICATE leaves, whatever stood. -/
theorem State.enterDuplicate_bus (s : State) (cause : DuplicateCause) :
    (s.enterDuplicate cause).biu.busState = .duplicate ∧ (s.enterDuplicate cause).biu.cause = some cause := by
  have hwire := State.fallSilent_wireSide
    (({ s with biu := { s.biu with busState := .duplicate, cause := some cause, outbound := [] } } : State).fire .duplicate (.cause cause))
  have hbiu := State.biu_of_wireSide hwire nofun nofun
  exact ⟨congrArg Biu.busState hbiu, congrArg Biu.cause hbiu⟩

/-- DUPLICATE fires with its cause (R56). -/
theorem State.enterDuplicate_event (s : State) (cause : DuplicateCause) {e : EventStatus}
    (he : e ∈ (s.enterDuplicate cause).complete.ctp.events) (hn : e.name = .duplicate) :
    e.raised = true ∧ e.source = some (.cause cause) := by
  obtain ⟨x, hx, hname, _, hsource, _, hraised⟩ := State.complete_event he
  unfold State.enterDuplicate at hx
  dsimp only at hx
  rw [State.fallSilent_events] at hx
  have hxn : x.name = .duplicate := hname ▸ hn
  obtain ⟨hup, hcause⟩ := State.fire_raised hx hxn
  exact ⟨(hraised (by rw [hxn]; rfl)).trans hup, hsource.trans hcause⟩

/-! ### The own slot -/

theorem judgeSlot_starts {line : Bits} (slot : Nat) (h : line.take 8 = startPattern) : judgeSlot slot line ≠ .nothing := by
  unfold judgeSlot
  rw [if_pos h]
  split
  · split <;> nofun
  · nofun

/-- The node after its own slot ended, before what it heard in it is judged. -/
def State.ownSlotPassed (s : State) : State :=
  { s with biu := { s.biu with place := .slots (s.me + 1), drive := .nothing, ownCopy := none } }

/-- What the entry to DUPLICATE at the end of the own slot leaves once its event is complete. -/
theorem State.ownSlotPassed_enterDuplicate (u : State) (cause : DuplicateCause) (h : (u.cxe.contexts.map Context.tag).Nodup) :
    ∃ t, (u.ownSlotPassed.enterDuplicate cause).complete = t ∧ t.biu.busState = .duplicate ∧ t.biu.cause = some cause ∧
      t.biu.outbound = [] ∧ t.cxe.reservations = [] ∧ t.spu.slotA.job = none ∧ t.spu.slotB.job = none ∧
      (∀ c ∈ t.cxe.contexts, c.isOpen = false) ∧ t.biu.peers = u.biu.peers ∧ u.keeps t ∧
      ∀ e ∈ t.ctp.events, e.name = .duplicate → e.raised = true ∧ e.source = some (.cause cause) := by
  obtain ⟨hbiu, hreservations, ha, hb, hopen⟩ := u.ownSlotPassed.enterDuplicate_spec cause h
  have hkeeps : u.keeps (u.ownSlotPassed.enterDuplicate cause).complete :=
    (State.keeps_iff _ _).mpr (u.ownSlotPassed.enterDuplicate_planSide cause)
  have hpeers : (u.ownSlotPassed.enterDuplicate cause).biu.peers = u.biu.peers := by rw [hbiu]; rfl
  have hevent := fun e => u.ownSlotPassed.enterDuplicate_event cause (e := e)
  generalize u.ownSlotPassed.enterDuplicate cause = v at *
  exact ⟨_, rfl, congrArg Biu.busState hbiu, congrArg Biu.cause hbiu, congrArg Biu.outbound hbiu, hreservations, ha, hb, hopen,
    hpeers, hkeeps, hevent⟩

theorem State.endSlot_own {s : State} {line : Bits} (ht : s.biu.timerRunning = true) (hs : s.biu.synced = true)
    (hp : s.biu.place = .slots s.me) (hme : s.me ≤ 30) :
    s.endSlot line = s.ownSlotPassed.ownSlot s.biu.ownCopy (judgeSlot s.me line) := by
  rw [State.endSlot_judged ht hs hp hme, if_pos rfl]
  rfl

/-- A speaking node drove a record and what it heard is not that record (R55). -/
theorem State.ownSlot_wrong {s : State} (hb : s.biu.busState = .onBus ∨ s.biu.busState = .draining) {copy : SlotRecord} :
    s.ownSlot (some copy) .failed = s.enterDuplicate .ownRecordFailed ∧
      s.ownSlot (some copy) .nothing = s.enterDuplicate .ownRecordFailed ∧
      ∀ r, s.ownSlot (some copy) (.good r) = if copy = r then s.deliver r else s.enterDuplicate .ownRecordAltered := by
  unfold State.ownSlot
  rcases hb with hb | hb
  all_goals
    rw [hb]
    refine ⟨rfl, rfl, fun r => ?_⟩
    simp only [Option.some.injEq]

/-- In a frame begun in LISTEN a signal in the own slot shows its number in use (R52). -/
theorem State.ownSlot_listen_signal {s : State} (hb : s.biu.busState = .listen) (hbegun : s.biu.begunInListen = true)
    (copy : Option SlotRecord) {heard : Heard} (hsignal : heard ≠ .nothing) :
    ∃ v : State, s.ownSlot copy heard = v.enterDuplicate .ownSlotInUse := by
  unfold State.ownSlot
  rw [hb]
  cases heard with
  | nothing => exact absurd rfl hsignal
  | failed => exact ⟨s, if_pos hbegun⟩
  | good r => exact ⟨s.deliver r, if_pos hbegun⟩

theorem State.ownSlot_listen_clear {s : State} (hb : s.biu.busState = .listen) (copy : Option SlotRecord) {heard : Heard}
    (hclear : heard = .nothing ∨ s.biu.begunInListen = false) : s.ownSlot copy heard = s := by
  unfold State.ownSlot
  rw [hb]
  rcases hclear with rfl | hbegun
  · rfl
  · cases heard with
    | nothing => rfl
    | failed => exact if_neg (Bool.eq_false_iff.mp hbegun)
    | good r => exact if_neg (Bool.eq_false_iff.mp hbegun)

theorem State.ownSlot_offBus {s : State} (hb : s.biu.busState = .offBus) (copy : Option SlotRecord) (heard : Heard) :
    s.ownSlot copy heard = match heard with
      | .nothing => s
      | .failed => { s with biu := s.biu.signalHeard }
      | .good r => ({ s with biu := s.biu.signalHeard } : State).deliver r := by
  unfold State.ownSlot
  rw [hb]
  cases heard <;> rfl

/-- In SILENT and DUPLICATE the own slot is not judged (R51, R56). -/
theorem State.ownSlot_unjudged {s : State} (hb : s.biu.busState = .silent ∨ s.biu.busState = .duplicate) (copy : Option SlotRecord)
    (heard : Heard) : s.ownSlot copy heard = s := by
  unfold State.ownSlot
  rcases hb with hb | hb <;> rw [hb]

/-- Settles O29: the own slot judged by bus state (`State.ownSlot`), the entry to DUPLICATE by `State.enterDuplicate_spec`, and
the end of the slot's request by `State.endRequest_idle`. -/
theorem ownSlotJudged : Obligations.OwnSlotJudged := by
  constructor
  · intro line s u hu ht hs hp hme
    have hexec : exec (.slotEnd line) s =
        .next (u.ownSlotPassed.ownSlot u.biu.ownCopy (judgeSlot u.me line)).complete := by
      rw [← State.endSlot_own ht hs hp hme, hu]
      rfl
    rw [hexec]
    clear hexec hu
    refine ⟨fun hb hlaw copy hcopy => ?_, fun hb => ?_, fun hb => ?_, fun hb => ?_⟩
    · obtain ⟨hfailed, hnothing, hgood⟩ := State.ownSlot_wrong (s := u.ownSlotPassed) hb (copy := copy)
      have hwrong := fun cause => u.ownSlotPassed_enterDuplicate cause hlaw.1
      rw [hcopy]
      refine ⟨fun hl hg => ?_, fun hl hbad => ?_, fun r hl hg hne => ?_, fun hl => ?_⟩
      · rw [judgeSlot_good hl hg.1 hg.2, hgood, if_pos rfl]
        rfl
      · rw [judgeSlot_failed hl fun r hr hs => hbad r ⟨hr, hs⟩, hfailed]
        obtain ⟨t, ht, hspec⟩ := hwrong .ownRecordFailed
        exact ⟨t, congrArg Host.Outcome.next ht, hspec⟩
      · rw [judgeSlot_good hl hg.1 hg.2, hgood, if_neg (Ne.symm hne)]
        obtain ⟨t, ht, hspec⟩ := hwrong .ownRecordAltered
        exact ⟨t, congrArg Host.Outcome.next ht, hspec⟩
      · rw [judgeSlot_silent hl, hnothing]
        obtain ⟨t, ht, hspec⟩ := hwrong .ownRecordFailed
        exact ⟨t, congrArg Host.Outcome.next ht, hspec⟩
    · refine ⟨fun hl hbegun => ?_, fun hor => ?_⟩
      · obtain ⟨v, hv⟩ := State.ownSlot_listen_signal (s := u.ownSlotPassed) hb hbegun u.biu.ownCopy (judgeSlot_starts u.me hl)
        rw [hv]
        exact ⟨_, rfl, v.enterDuplicate_bus .ownSlotInUse⟩
      · rw [State.ownSlot_listen_clear (s := u.ownSlotPassed) hb _ (hor.imp_left judgeSlot_silent)]
        rfl
    · refine ⟨fun r hl hg => ?_, fun hl hbad => ?_, fun hl => ?_⟩
      · rw [judgeSlot_good hl hg.1 hg.2, State.ownSlot_offBus (s := u.ownSlotPassed) hb]
        rfl
      · rw [judgeSlot_failed hl fun r hr hs => hbad r ⟨hr, hs⟩, State.ownSlot_offBus (s := u.ownSlotPassed) hb]
        rfl
      · rw [judgeSlot_silent hl, State.ownSlot_offBus (s := u.ownSlotPassed) hb]
        rfl
    · rw [State.ownSlot_unjudged (s := u.ownSlotPassed) hb]
      rfl
  · intro s name j hstate hsent hj hfirst hq ho
    have hslot := State.sentSlot_of hstate hsent hfirst
    refine ⟨?_, ?_, ?_⟩
    · rw [State.releaseAnswered_sent hslot hj, State.endRequest_idle hq ho]
      rfl
    · rw [State.releaseAnswered_sent hslot hj, State.endRequest_idle hq ho]
      rfl
    · rw [State.proposeNotOpened_sent hslot hj, State.endRequest_idle hq ho]
      rfl

end Sys2Proof.Machine
end

section
/-! SUPPORT. Peers gone ABSENT: what the marking of the peers, the absence notice to the contexts and the orphaning of the routes
each leave (R58, R146, R147, R149). -/

namespace Sys2Proof.Machine

/-! ### The peers (R58) -/

theorem State.absentees_iff (s : State) (n : Nat) :
    n ∈ s.absentees ↔ ∃ p ∈ s.biu.peers, p.node = n ∧ p.presence = .present ∧ p.missed = 8 := by
  simp only [State.absentees, Config.missedFull, List.mem_map, List.mem_filter, Bool.and_eq_true, beq_iff_eq]
  exact ⟨fun ⟨p, ⟨hp, hs⟩, hn⟩ => ⟨p, hp, hn, hs⟩, fun ⟨p, hp, hn, hs⟩ => ⟨p, ⟨hp, hs⟩, hn⟩⟩

theorem State.markAbsent_cons (s : State) (n : Nat) (absent : List Nat) : s.markAbsent (n :: absent) =
    ((s.onPeer n (fun p => { p with presence := .absent })).fire .peer (.node n)).markAbsent absent := rfl

theorem State.markAbsent_peers : ∀ (absent : List Nat) (s : State), (s.markAbsent absent).biu.peers =
    s.biu.peers.map (fun p => if p.node ∈ absent then { p with presence := .absent } else p)
  | [], s => by simp [State.markAbsent]
  | n :: absent, s => by
    rw [State.markAbsent_cons, State.markAbsent_peers absent]
    change (s.biu.peers.map (fun p => if p.node = n then { p with presence := .absent } else p)).map _ = _
    rw [List.map_map]
    refine List.map_congr_left fun p _ => ?_
    by_cases hn : p.node = n
    · simp [hn]
    · simp [hn]

/-- A reading that no change of the peers and no firing touches. -/
theorem State.markAbsent_keeps {β : Type} {g : State → β}
    (h : ∀ (u : State) (n : Nat), g ((u.onPeer n (fun p => { p with presence := .absent })).fire .peer (.node n)) = g u)
    (s : State) (absent : List Nat) : g (s.markAbsent absent) = g s :=
  foldl_keeps _ g h absent s

theorem State.markAbsent_rest (s : State) (absent : List Nat) :
    (s.markAbsent absent).cxe = s.cxe ∧ (s.markAbsent absent).sbc = s.sbc ∧ (s.markAbsent absent).rtb = s.rtb ∧
      (s.markAbsent absent).ctp.notices = s.ctp.notices ∧ (s.markAbsent absent).me = s.me :=
  ⟨State.markAbsent_keeps (g := State.cxe) (by intros; rfl) s absent, State.markAbsent_keeps (g := State.sbc) (by intros; rfl) s absent,
    State.markAbsent_keeps (g := State.rtb) (by intros; rfl) s absent,
    State.markAbsent_keeps (g := fun u => u.ctp.notices) (by intros; rfl) s absent,
    State.markAbsent_keeps (g := State.me) (by intros; rfl) s absent⟩

/-- An event of the port stands raised. -/
def State.raises (s : State) (name : EventName) : Prop := ∀ e ∈ s.ctp.events, e.name = name → e.raised = true

theorem State.raises.markAbsent {name : EventName} : ∀ (absent : List Nat) {s : State}, s.raises name → (s.markAbsent absent).raises name
  | [], _, h => h
  | n :: absent, s, h => by
    rw [State.markAbsent_cons]
    refine State.raises.markAbsent absent ?_
    exact State.fire_keeps_raised (s := s.onPeer n (fun p => { p with presence := .absent })) h .peer (.node n)

/-- A peer gone ABSENT fires PEER. -/
theorem State.markAbsent_raises {absent : List Nat} {n : Nat} (hn : n ∈ absent) (s : State) : (s.markAbsent absent).raises .peer := by
  cases absent with
  | nil => exact absurd hn List.not_mem_nil
  | cons m absent =>
    rw [State.markAbsent_cons]
    exact State.raises.markAbsent absent fun e he hname => (State.fire_raised he hname).1

/-! ### The contexts (R147) -/

/-- The close record an absence gives a context. -/
def peerLost (absent : List Nat) (c : Context) : CloseRecord :=
  .at .peerLost (firstAbsent absent (c.participants ++ [c.tag.sponsor]))

theorem State.absenceContexts_eq {s : State} (h : (s.cxe.contexts.map Context.tag).Nodup) (absent : List Nat) :
    s.absenceContexts absent = State.closeAll (peerLost absent) (s.cxe.contexts.filter (Context.namedBy absent)) s := by
  refine State.closeOpen_foldl (peerLost absent) h ((List.filter_sublist.map _).nodup h) fun c hc => ?_
  obtain ⟨hmem, hnamed⟩ := List.mem_filter.mp hc
  exact ⟨hmem, (Bool.and_eq_true_iff.mp hnamed).1⟩

theorem State.absenceContexts_contexts {s : State} (h : (s.cxe.contexts.map Context.tag).Nodup) (absent : List Nat) :
    (s.absenceContexts absent).cxe.contexts = s.cxe.contexts.map (fun c =>
      if Context.namedBy absent c = true then c.closed .failed (peerLost absent c) else c) := by
  rw [State.absenceContexts_eq h, State.closeAll_contexts _ h ((List.filter_sublist.map _).nodup h)
    fun c hc => (List.mem_filter.mp hc).1]
  refine List.map_congr_left fun c hc => ?_
  simp only [List.mem_filter, hc, true_and]

theorem State.absenceContexts_rtb {s : State} (h : (s.cxe.contexts.map Context.tag).Nodup) (absent : List Nat) :
    (s.absenceContexts absent).rtb = { s.rtb with routes := s.rtb.routes.map (fun r => { r with
      busy := if s.cxe.contexts.any (fun c => Context.namedBy absent c && r.busy == some c.tag) then none else r.busy }) } := by
  rw [State.absenceContexts_eq h, State.closeAll_rtb]
  simp only [Route.foldl_unbusy, List.any_filter]

/-- The switches lose the claims of the contexts named, and keep every other part and every established claim (R11). -/
theorem State.absenceContexts_sbc {s : State} (h : (s.cxe.contexts.map Context.tag).Nodup) (absent : List Nat) :
    (∀ c ∈ s.cxe.contexts, Context.namedBy absent c = true → ∀ w ∈ (s.absenceContexts absent).sbc, ∀ e ∈ w.claims,
        e.holder ≠ .pending c.tag ∧ ∀ x ∈ e.successor, x.tag ≠ c.tag) ∧
      (s.absenceContexts absent).sbc.map (fun w => ({ w with claims := [] }, w.standing)) =
        s.sbc.map (fun w => (({ w with claims := [] } : Switch), w.standing)) := by
  rw [State.absenceContexts_eq h, State.closeAll_sbc]
  constructor
  · intro c hc hnamed w hw
    obtain ⟨x, _, rfl⟩ := List.mem_map.mp hw
    exact Switch.foldl_dropTag_none _ x c.tag (.inl (List.mem_map_of_mem (List.mem_filter.mpr ⟨hc, hnamed⟩)))
  · rw [List.map_map]
    refine List.map_congr_left fun w _ => ?_
    exact foldl_keeps _ (fun w : Switch => (({ w with claims := [] } : Switch), w.standing))
      (fun u c => by rw [Switch.dropTag_standing]; rfl) _ w

theorem State.absenceContexts_events (s : State) (absent : List Nat) : (s.absenceContexts absent).ctp.events = s.ctp.events :=
  foldl_keeps _ (fun u : State => u.ctp.events) (fun u tag => events_sponsorFree.closeOpen (fun _ _ _ _ _ => rfl) _ u tag) _ s

/-- The close of a context another node sponsors tells nothing at this node's port (R82). -/
theorem State.closeFailed_ctp {s : State} {c : Context} (h : c.tag.sponsor ≠ s.me) (r : CloseRecord) :
    (s.closeFailed c r).ctp = s.ctp ∧ (s.closeFailed c r).me = s.me := by
  unfold State.closeFailed
  dsimp only
  rw [State.handOver_other]
  · split
    · split <;> exact ⟨rfl, rfl⟩
    · split <;> exact ⟨rfl, rfl⟩
  · split
    · split <;> exact h
    · split <;> exact h

theorem State.closeAll_ctp (record : Context → CloseRecord) : ∀ {cs : List Context} {s : State}, (∀ c ∈ cs, c.tag.sponsor ≠ s.me) →
    (State.closeAll record cs s).ctp = s.ctp
  | [], _, _ => rfl
  | c :: cs, s, h => by
    obtain ⟨hc, hrest⟩ := List.forall_mem_cons.mp h
    obtain ⟨hctp, hme⟩ := State.closeFailed_ctp hc (record c)
    rw [State.closeAll_cons, State.closeAll_ctp record (by rw [hme]; exact hrest), hctp]

/-! ### The routes (R149) -/

theorem Route.orphanedBy_eq (absent : List Nat) (r : Route) :
    r.orphanedBy absent = (r.state == .established && r.established.any (fun n => absent.contains n)) := by
  unfold Route.orphanedBy firstAbsent
  rw [List.isSome_find?]

theorem State.orphan_foldl_rtb (absent : List Nat) : ∀ (rs : List Route) (s : State), (rs.foldl (State.orphan absent) s).rtb =
    { s.rtb with routes := s.rtb.routes.map (fun q =>
      if q.plan.id ∈ rs.map (fun r => r.plan.id) then { q with state := .orphaned } else q) }
  | [], s => by simp
  | r :: rs, s => by
    rw [List.foldl_cons, State.orphan_foldl_rtb absent rs]
    change ({ s.rtb with routes := (s.rtb.routes.map (fun q => if q.plan.id = r.plan.id then { q with state := .orphaned } else q)).map _ }
      : Rtb) = _
    rw [List.map_map]
    refine congrArg (fun l => ({ s.rtb with routes := l } : Rtb)) (List.map_congr_left fun q _ => ?_)
    by_cases hq : q.plan.id = r.plan.id
    · simp [hq]
    · simp [hq]

/-- With one record for each route, an absence orphans the records it concerns (R149). -/
theorem State.orphanRoutes_rtb {s : State} (h : s.routesLawful) (absent : List Nat) : (s.orphanRoutes absent).rtb =
    { s.rtb with routes := s.rtb.routes.map (fun r => if r.orphanedBy absent = true then { r with state := .orphaned } else r) } := by
  unfold State.orphanRoutes
  rw [State.orphan_foldl_rtb]
  refine congrArg (fun l => ({ s.rtb with routes := l } : Rtb)) (List.map_congr_left fun q hq => if_congr ?_ rfl rfl)
  constructor
  · intro hid
    obtain ⟨r, hr, hqr⟩ := List.mem_map.mp hid
    obtain ⟨hmem, horphaned⟩ := List.mem_filter.mp hr
    have hone := State.route_of_mem h hmem
    rw [hqr, State.route_of_mem h hq] at hone
    rw [Option.some.inj hone]
    exact horphaned
  · exact fun horphaned => List.mem_map.mpr ⟨q, List.mem_filter.mpr ⟨hq, horphaned⟩, rfl⟩

theorem State.orphan_foldl_notices (absent : List Nat) : ∀ (rs : List Route) (s : State), (rs.foldl (State.orphan absent) s).ctp.notices =
    rs.foldl (fun q r => joinNotice q (orphanNotice r.plan.id (firstAbsent absent r.established))) s.ctp.notices
  | [], _ => rfl
  | r :: rs, s => by
    rw [List.foldl_cons, State.orphan_foldl_notices absent rs]
    rfl

/-- The last record orphaned is the source of ORPHAN (R149, R181). -/
theorem State.orphan_foldl_event (absent : List Nat) (pre : List Route) (r : Route) (s : State) {e : EventStatus}
    (he : e ∈ ((pre ++ [r]).foldl (State.orphan absent) s).ctp.events) (hname : e.name = .orphan) :
    e.raised = true ∧ e.source = some (.route r.plan.id) := by
  rw [List.foldl_append] at he
  exact State.fire_raised he hname

theorem State.raises.orphanRoutes {name : EventName} {s : State} (h : s.raises name) (absent : List Nat) :
    (s.orphanRoutes absent).raises name := by
  have hfold : ∀ (rs : List Route) {u : State}, u.raises name → (rs.foldl (State.orphan absent) u).raises name := by
    intro rs
    induction rs with
    | nil => exact fun hu => hu
    | cons r rs ih =>
      intro u hu
      refine ih (u := State.orphan absent u r) ?_
      exact State.fire_keeps_raised (s := u.onRoute r.plan.id (fun q => { q with state := .orphaned })) hu .orphan (.route r.plan.id)
  exact hfold _ h

theorem State.orphanRoutes_cxe (s : State) (absent : List Nat) : (s.orphanRoutes absent).cxe = s.cxe :=
  foldl_keeps _ State.cxe (by intros; rfl) _ s

theorem State.orphanRoutes_sbc (s : State) (absent : List Nat) : (s.orphanRoutes absent).sbc = s.sbc :=
  foldl_keeps _ State.sbc (by intros; rfl) _ s

/-! ### The absence taken whole -/

theorem exec_peerAbsent {s : State} (h : Work.absence ∈ s.agenda) :
    exec .peerAbsent s = .next (s.taking .absence).peersGoAbsent.complete :=
  congrArg Host.Outcome.next (if_pos h)

/-- The node after its contexts have taken the absence, its routes not yet. -/
def State.contextsTaken (s : State) : State := (s.markAbsent s.absentees).absenceContexts s.absentees

theorem State.peersGoAbsent_peers (s : State) : s.peersGoAbsent.biu.peers =
    s.biu.peers.map (fun p => if s.absentees.contains p.node = true then { p with presence := .absent } else p) := by
  rw [s.peersGoAbsent_eq, State.peers_of_wireSide (State.orphanRoutes_wireSide _ _),
    State.peers_of_wireSide (State.absenceContexts_wireSide _ _), State.markAbsent_peers]
  simp only [List.contains_iff_mem]

section
variable {s : State}

theorem State.peersGoAbsent_raises {n : Nat} (hn : n ∈ s.absentees) : s.peersGoAbsent.raises .peer := by
  rw [s.peersGoAbsent_eq]
  refine State.raises.orphanRoutes ?_ _
  unfold State.raises
  rw [State.absenceContexts_events]
  exact State.markAbsent_raises hn s

theorem State.peersGoAbsent_contexts (h : s.cxe.lawful) : s.peersGoAbsent.cxe.contexts = s.cxe.contexts.map (fun c =>
    if Context.namedBy s.absentees c = true then c.closed .failed (peerLost s.absentees c) else c) := by
  obtain ⟨hcxe, _⟩ := s.markAbsent_rest s.absentees
  rw [s.peersGoAbsent_eq, State.orphanRoutes_cxe, State.absenceContexts_contexts (by rw [hcxe]; exact h.1), hcxe]

theorem State.peersGoAbsent_sbc (h : s.cxe.lawful) :
    (∀ c ∈ s.cxe.contexts, Context.namedBy s.absentees c = true → ∀ w ∈ s.peersGoAbsent.sbc, ∀ e ∈ w.claims,
        e.holder ≠ .pending c.tag ∧ ∀ x ∈ e.successor, x.tag ≠ c.tag) ∧
      s.peersGoAbsent.sbc.map (fun w => ({ w with claims := [] }, w.standing)) =
        s.sbc.map (fun w => (({ w with claims := [] } : Switch), w.standing)) := by
  obtain ⟨hcxe, hsbc, _⟩ := s.markAbsent_rest s.absentees
  have hboth := State.absenceContexts_sbc (s := s.markAbsent s.absentees) (by rw [hcxe]; exact h.1) s.absentees
  rw [hcxe, hsbc] at hboth
  rw [s.peersGoAbsent_eq, State.orphanRoutes_sbc]
  exact hboth

theorem State.contextsTaken_rtb (h : s.cxe.lawful) : s.contextsTaken.rtb =
    { s.rtb with routes := s.rtb.routes.map (fun r => { r with
      busy := if s.cxe.contexts.any (fun c => Context.namedBy s.absentees c && r.busy == some c.tag) then none else r.busy }) } := by
  obtain ⟨hcxe, _, hrtb, _⟩ := s.markAbsent_rest s.absentees
  unfold State.contextsTaken
  rw [State.absenceContexts_rtb (by rw [hcxe]; exact h.1), hcxe, hrtb]

theorem State.peersGoAbsent_rtb (h : s.cxe.lawful) (hr : s.routesLawful) : s.peersGoAbsent.rtb =
    { s.rtb with routes := s.rtb.routes.map (fun r => { r with
      state := if r.orphanedBy s.absentees = true then .orphaned else r.state
      busy := if s.cxe.contexts.any (fun c => Context.namedBy s.absentees c && r.busy == some c.tag) then none else r.busy }) } := by
  have htaken := State.contextsTaken_rtb h
  have hlaw : s.contextsTaken.routesLawful := by
    unfold State.routesLawful
    rw [htaken, List.map_map]
    exact hr
  rw [s.peersGoAbsent_eq]
  change (s.contextsTaken.orphanRoutes s.absentees).rtb = _
  rw [State.orphanRoutes_rtb hlaw, htaken]
  simp only [List.map_map]
  refine congrArg (fun l => ({ s.rtb with routes := l } : Rtb)) (List.map_congr_left fun r _ => ?_)
  have hsame : ∀ busy, ({ r with busy := busy } : Route).orphanedBy s.absentees = r.orphanedBy s.absentees := fun _ => rfl
  simp only [Function.comp, hsame]
  split <;> rfl

/-- The records that the absence orphans, as they stand when the Route Table takes it. -/
theorem State.contextsTaken_orphans (h : s.cxe.lawful) : ∃ f : Route → Route,
    (∀ r, (f r).plan = r.plan ∧ (f r).established = r.established) ∧
      s.contextsTaken.rtb.routes.filter (Route.orphanedBy s.absentees) = (s.rtb.routes.filter (Route.orphanedBy s.absentees)).map f := by
  rw [State.contextsTaken_rtb h]
  exact ⟨fun r => { r with
    busy := if s.cxe.contexts.any (fun c => Context.namedBy s.absentees c && r.busy == some c.tag) then none else r.busy },
    fun _ => ⟨rfl, rfl⟩, List.filter_map⟩

theorem State.peersGoAbsent_orphan (h : s.cxe.lawful) {pre : List Route} {r : Route}
    (hlast : s.rtb.routes.filter (Route.orphanedBy s.absentees) = pre ++ [r]) {e : EventStatus}
    (he : e ∈ s.peersGoAbsent.ctp.events) (hname : e.name = .orphan) : e.raised = true ∧ e.source = some (.route r.plan.id) := by
  obtain ⟨f, hf, horphans⟩ := State.contextsTaken_orphans h
  rw [hlast, List.map_append] at horphans
  have he : e ∈ (s.contextsTaken.orphanRoutes s.absentees).ctp.events := he
  unfold State.orphanRoutes at he
  rw [horphans] at he
  have hlastFired := State.orphan_foldl_event s.absentees (pre.map f) (f r) s.contextsTaken he hname
  rwa [(hf r).1] at hlastFired

theorem State.peersGoAbsent_notices (h : s.cxe.lawful)
    (hothers : ∀ c ∈ s.cxe.contexts, Context.namedBy s.absentees c = true → c.tag.sponsor ≠ s.me) :
    s.peersGoAbsent.ctp.notices = (s.rtb.routes.filter (Route.orphanedBy s.absentees)).foldl
      (fun q r => joinNotice q (orphanNotice r.plan.id (firstAbsent s.absentees r.established))) s.ctp.notices := by
  obtain ⟨f, hf, horphans⟩ := State.contextsTaken_orphans h
  obtain ⟨hcxe, _, _, hnotices, hme⟩ := s.markAbsent_rest s.absentees
  have htaken : s.contextsTaken.ctp.notices = s.ctp.notices := by
    unfold State.contextsTaken
    rw [State.absenceContexts_eq (by rw [hcxe]; exact h.1), hcxe, State.closeAll_ctp, hnotices]
    intro c hc
    obtain ⟨hmem, hnamed⟩ := List.mem_filter.mp hc
    rw [hme]
    exact hothers c hmem hnamed
  rw [s.peersGoAbsent_eq]
  change (s.contextsTaken.orphanRoutes s.absentees).ctp.notices = _
  unfold State.orphanRoutes
  rw [State.orphan_foldl_notices, horphans, List.foldl_map, htaken]
  simp only [hf]

end

/-- Settles O36: the marking of the peers, the closes and the orphaned records taken together part by part
(`State.peersGoAbsent_contexts`, `State.peersGoAbsent_rtb`, `State.peersGoAbsent_notices`). -/
theorem peerAbsentTakesEverythingDown : Obligations.PeerAbsentTakesEverythingDown := by
  intro s u hw hu hlaw hroutes gone nodes named lost kept
  have hgone : gone = fun n => u.absentees.contains n := by
    funext n
    rw [Bool.eq_iff_iff, List.contains_iff_mem, State.absentees_iff]
    simp [gone, and_assoc]
  have hlost : lost = Route.orphanedBy u.absentees := by
    funext r
    rw [Route.orphanedBy_eq, ← hgone]
  have hnamed : named = Context.namedBy u.absentees := by
    funext c
    unfold Context.namedBy
    rw [← hgone]
  rw [exec_peerAbsent hw, ← hu]
  clear_value gone named lost
  subst hgone hlost hnamed
  have hkeeps : u.keeps u.peersGoAbsent.complete := (State.keeps_iff _ _).mpr u.peersGoAbsent_planSide
  have hraises : ∀ n ∈ u.absentees, u.peersGoAbsent.raises .peer := fun n hn => State.peersGoAbsent_raises hn
  have hpeers := u.peersGoAbsent_peers
  have hcontexts := State.peersGoAbsent_contexts hlaw
  have hrtb := State.peersGoAbsent_rtb hlaw hroutes
  obtain ⟨hdropped, hkept⟩ := State.peersGoAbsent_sbc hlaw
  have horphan := fun pre r (hlast : _ = pre ++ [r]) e => State.peersGoAbsent_orphan hlaw hlast (e := e)
  have hnotices := State.peersGoAbsent_notices hlaw
  generalize u.peersGoAbsent = t at *
  refine ⟨_, rfl, hkeeps, hpeers, ?_, hcontexts, hrtb, hdropped, hkept, ?_, hnotices⟩
  · rintro ⟨n, hn⟩ e he hname
    obtain ⟨x, hx, hxe, _, _, _, hraised⟩ := State.complete_event he
    have hxn : x.name = .peer := hxe ▸ hname
    rw [hraised (by rw [hxn]; rfl)]
    exact hraises n (List.contains_iff_mem.mp hn) x hx hxn
  · intro pre r hlast e he hname
    obtain ⟨x, hx, hxe, _, hsource, _, hraised⟩ := State.complete_event he
    have hxn : x.name = .orphan := hxe ▸ hname
    obtain ⟨hup, hroute⟩ := horphan pre r hlast x hx hxn
    exact ⟨(hraised (by rw [hxn]; rfl)).trans hup, hsource.trans hroute⟩

end Sys2Proof.Machine
end

section
/-! SUPPORT. The frame end: what its counts leave in every block, and which work stands in the agenda for it (R43; log 1). -/

namespace Sys2Proof.Machine

/-! ### The counts (R16, R51, R52, R58, R74, R76, R85, R137) -/

theorem Context.isOpen_eq_false (c : Context) : c.isOpen = false ↔ c.phase = .done ∨ c.phase = .failed := by
  unfold Context.isOpen
  cases c.phase <;> simp

theorem Context.frameEnd_eq (c : Context) : c.frameEnd = { c with
    window := if c.phase = .answer ∧ 1 < c.window then c.window - 1 else c.window,
    quietLeft := if c.phase = .cold ∧ c.quietWait ∧ 1 < c.quietLeft then c.quietLeft - 1 else c.quietLeft,
    linger := if c.phase = .done ∨ c.phase = .failed then c.linger - 1 else c.linger } := by
  have hlinger : (if c.isOpen then c.linger else c.linger - 1) =
      if c.phase = .done ∨ c.phase = .failed then c.linger - 1 else c.linger := by
    simp only [← Context.isOpen_eq_false]
    cases c.isOpen <;> rfl
  unfold Context.frameEnd
  rw [hlinger]

theorem SponsorSlot.frameEnd_state (x : SponsorSlot) : x.frameEnd.state = x.state := by
  unfold SponsorSlot.frameEnd
  split <;> rfl

/-- The counts at a frame end and the test for the end of DRAINING (R43, R53). -/
def State.counted (s : State) (sense : SenseLevels) : State := ({ s with sense := sense } : State).countFrame.drainTest

theorem State.counted_slot (s : State) (sense : SenseLevels) (name : SlotName) :
    (s.counted sense).slot name = (s.slot name).frameEnd := by
  unfold State.counted
  rw [State.drainTest_slot]
  cases name <;> rfl

theorem State.counted_sbc (s : State) (sense : SenseLevels) : (s.counted sense).sbc = s.sbc.map Switch.settleTick := by
  unfold State.counted
  rw [State.drainTest_sbc]
  rfl

theorem State.counted_cxe (s : State) (sense : SenseLevels) :
    (s.counted sense).cxe = { s.cxe with contexts := s.cxe.contexts.map Context.frameEnd } := by
  unfold State.counted
  rw [State.drainTest_cxe]
  rfl

/-- Of the Bus Interface Unit the end of DRAINING touches the bus state and the silence count alone (R53). -/
theorem State.counted_biu (s : State) (sense : SenseLevels) :
    (s.counted sense).biu = s.biu.frameEnd ∨
      ((s.counted sense).biu = { s.biu.frameEnd with busState := .offBus, silence := 12 } ∧ s.biu.busState = .draining) := by
  unfold State.counted
  rcases ({ s with sense := sense } : State).countFrame.drainTest_cases with ⟨e, hb⟩ | e
  · rw [e]
    exact .inr ⟨rfl, hb⟩
  · rw [e]
    exact .inl rfl

theorem State.counted_steady {s : State} (h : s.biu.busState ≠ .draining) (sense : SenseLevels) :
    (s.counted sense).biu = s.biu.frameEnd :=
  (s.counted_biu sense).resolve_right fun hd => h hd.2

/-- An empty table and two FREE slots end DRAINING, and nothing else does (R53). -/
theorem State.counted_draining {s : State} (h : s.biu.busState = .draining) (sense : SenseLevels) :
    (s.cxe.contexts = [] → s.spu.slotA.state = .free → s.spu.slotB.state = .free →
        (s.counted sense).biu.busState = .offBus ∧ (s.counted sense).biu.silence = 12) ∧
      (s.cxe.contexts ≠ [] ∨ s.spu.slotA.state ≠ .free ∨ s.spu.slotB.state ≠ .free →
        (s.counted sense).biu.busState = .draining) := by
  unfold State.counted State.drainTest
  constructor
  · intro hc ha hb
    rw [if_pos]
    · exact ⟨rfl, rfl⟩
    · exact ⟨h, List.map_eq_nil_iff.mpr hc, (SponsorSlot.frameEnd_state _).trans ha, (SponsorSlot.frameEnd_state _).trans hb⟩
  · intro hor
    rw [if_neg]
    · exact h
    · rintro ⟨_, hc, ha, hb⟩
      rcases hor with hor | hor | hor
      · exact hor (List.map_eq_nil_iff.mp hc)
      · exact hor ((SponsorSlot.frameEnd_state _).symm.trans ha)
      · exact hor ((SponsorSlot.frameEnd_state _).symm.trans hb)

/-- What the counts of a frame end do not count. -/
theorem State.counted_rest (s : State) (sense : SenseLevels) :
    (s.counted sense).spu.seq = s.spu.seq ∧ (s.counted sense).rtb = s.rtb ∧ (s.counted sense).rfg = s.rfg ∧
      (s.counted sense).ctp = s.ctp ∧ (s.counted sense).mem = s.mem ∧ (s.counted sense).ltu = s.ltu ∧
      (s.counted sense).pld = s.pld ∧ (s.counted sense).sense = sense ∧ (s.counted sense).freeDraws = s.freeDraws ∧
      (s.counted sense).pending = s.pending := by
  unfold State.counted
  rcases ({ s with sense := sense } : State).countFrame.drainTest_cases with ⟨e, _⟩ | e
  all_goals
    rw [e]
    exact ⟨rfl, rfl, rfl, rfl, rfl, rfl, rfl, rfl, rfl, rfl⟩

/-! ### The work owed -/

/-- The partner of a switch that is there, while it is MOVING (R18). -/
theorem State.movingPartner_iff {s : State} {i : Nat} {w : Switch} (hw : s.switch? i = some w) (x : Switch) :
    s.movingPartner? i = some x ↔ ∃ p, w.plan.partner = some p ∧ s.switch? p = some x ∧ x.state = .moving := by
  cases hp : w.plan.partner with
  | none => simp [State.movingPartner_alone hw hp]
  | some p =>
    cases hx : s.switch? p with
    | none => simp [State.movingPartner?, State.partner?, hw, hp, hx]
    | some y =>
      rw [State.movingPartner_pair hw hx hp]
      by_cases hm : y.state = .moving
      · rw [if_pos hm]
        constructor
        · rintro ⟨⟩
          exact ⟨p, rfl, hx, hm⟩
        · rintro ⟨q, ⟨⟩, hq, _⟩
          exact hx.symm.trans hq
      · rw [if_neg hm]
        constructor
        · exact nofun
        · rintro ⟨q, ⟨⟩, hq, hqm⟩
          rw [hx] at hq
          cases hq
          exact absurd hqm hm

/-- A settle has ended, and its switch stands for the pair, exactly where its count has run out and that of a partner that moves
too, of no lower index (R16, R18). -/
theorem State.settleDue_iff {s : State} {i : Nat} {w : Switch} (hw : s.switch? i = some w) :
    (s.settleEnded i = true ∧ s.settleUnit i = i) ↔ w.state = .moving ∧ w.settleLeft = 0 ∧
      ∀ p x, w.plan.partner = some p → s.switch? p = some x → x.state = .moving → x.settleLeft = 0 ∧ i ≤ p := by
  have hpartner := State.movingPartner_iff hw
  unfold State.settleEnded State.settleUnit
  rw [hw]
  dsimp only
  cases hm : s.movingPartner? i with
  | none =>
    have hnone : ∀ p x, w.plan.partner = some p → s.switch? p = some x → x.state ≠ .moving := fun p x hp hx hmoves => by
      have hsome := (hpartner x).mpr ⟨p, hp, hx, hmoves⟩
      rw [hm] at hsome
      cases hsome
    simp only [Bool.and_true, Bool.and_eq_true, beq_iff_eq, and_true]
    exact ⟨fun ⟨ha, hb⟩ => ⟨ha, hb, fun p x hp hx hmoves => absurd hmoves (hnone p x hp hx)⟩, fun ⟨ha, hb, _⟩ => ⟨ha, hb⟩⟩
  | some y =>
    obtain ⟨q, hq, hqy, hymoves⟩ := (hpartner y).mp hm
    have hindex := (State.switch_spec hqy).2
    simp only [Bool.and_eq_true, beq_iff_eq, hindex, min_eq_left_iff]
    constructor
    · rintro ⟨⟨⟨ha, hb⟩, hy⟩, hle⟩
      refine ⟨ha, hb, fun p x hp hx _ => ?_⟩
      obtain rfl : q = p := Option.some.inj (hq.symm.trans hp)
      obtain rfl : y = x := Option.some.inj (hqy.symm.trans hx)
      exact ⟨hy, hle⟩
    · rintro ⟨ha, hb, hall⟩
      obtain ⟨hy, hle⟩ := hall q y hq hqy hymoves
      exact ⟨⟨⟨ha, hb⟩, hy⟩, hle⟩

section
variable (s : State) (cs : List Context)

theorem State.owed_settle (i : Nat) : Work.settle i ∈ s.owed cs ↔ ∃ w, s.switch? i = some w ∧ w.state = .moving ∧
    w.settleLeft = 0 ∧ ∀ p x, w.plan.partner = some p → s.switch? p = some x → x.state = .moving → x.settleLeft = 0 ∧ i ≤ p := by
  have hmem : Work.settle i ∈ s.owed cs ↔
      (∃ w ∈ s.sbc, w.plan.index = i) ∧ s.settleEnded i = true ∧ s.settleUnit i = i := by
    simp [State.owed]
  rw [hmem]
  constructor
  · rintro ⟨_, hdue⟩
    cases hw : s.switch? i with
    | none =>
      have hended := hdue.1
      unfold State.settleEnded at hended
      rw [hw] at hended
      cases hended
    | some w => exact ⟨w, rfl, (State.settleDue_iff hw).mp hdue⟩
  · rintro ⟨w, hw, hdue⟩
    exact ⟨⟨w, State.switch_spec hw⟩, (State.settleDue_iff hw).mpr hdue⟩

theorem State.owed_quiet (tag : Tag) : Work.quiet tag ∈ s.owed cs ↔
    ∃ c ∈ cs, c.tag = tag ∧ c.phase = .cold ∧ c.quietWait = true ∧ c.quietLeft ≤ 1 := by
  have hmem : Work.quiet tag ∈ s.owed cs ↔ ∃ c ∈ cs, c.quietEnds = true ∧ c.tag = tag := by simp [State.owed, and_assoc]
  simp only [hmem, Context.quietEnds, Bool.and_eq_true, beq_iff_eq, decide_eq_true_eq, and_assoc, and_comm (b := Context.tag _ = tag)]

theorem State.owed_window (tag : Tag) : Work.window tag ∈ s.owed cs ↔
    ∃ c ∈ cs, c.tag = tag ∧ c.phase = .answer ∧ c.window ≤ 1 := by
  have hmem : Work.window tag ∈ s.owed cs ↔ ∃ c ∈ cs, c.windowEnds = true ∧ c.tag = tag := by simp [State.owed, and_assoc]
  simp only [hmem, Context.windowEnds, Bool.and_eq_true, beq_iff_eq, decide_eq_true_eq, and_comm (b := Context.tag _ = tag)]

theorem State.owed_absence : Work.absence ∈ s.owed cs ↔ ∃ p ∈ s.biu.peers, p.presence = .present ∧ p.missed = 8 := by
  have hmem : Work.absence ∈ s.owed cs ↔ s.absentees ≠ [] := by simp [State.owed]
  rw [hmem]
  constructor
  · intro hne
    obtain ⟨n, hn⟩ := List.exists_mem_of_ne_nil _ hne
    obtain ⟨p, hp, _, hgone⟩ := (s.absentees_iff n).mp hn
    exact ⟨p, hp, hgone⟩
  · rintro ⟨p, hp, hgone⟩
    exact List.ne_nil_of_mem ((s.absentees_iff p.node).mpr ⟨p, hp, rfl, hgone⟩)

theorem State.owed_linger (tag : Tag) : Work.linger tag ∈ s.owed cs ↔
    ∃ c ∈ s.cxe.contexts, c.tag = tag ∧ (c.phase = .done ∨ c.phase = .failed) ∧ c.linger = 0 ∧ c.driven = [] := by
  have hmem : Work.linger tag ∈ s.owed cs ↔
      ∃ c ∈ s.cxe.contexts, (c.isOpen = false ∧ c.linger = 0 ∧ c.driven = []) ∧ c.tag = tag := by simp [State.owed, and_assoc]
  simp only [hmem, Context.isOpen_eq_false, and_comm (b := Context.tag _ = tag)]

theorem State.owed_silence : Work.silence ∈ s.owed cs ↔ s.biu.busState = .silent ∧ s.biu.silence = 12 := by
  have hmem : Work.silence ∈ s.owed cs ↔ s.biu.busState = .silent ∧ s.biu.silence = Config.silenceFull := by simp [State.owed]
  exact hmem

theorem State.owed_clear : Work.clear ∈ s.owed cs ↔ s.biu.busState = .listen ∧ s.biu.clear = 2 := by
  have hmem : Work.clear ∈ s.owed cs ↔ s.biu.busState = .listen ∧ s.biu.clear = Config.clearFull := by simp [State.owed]
  exact hmem

theorem State.owed_backoff (name : SlotName) :
    Work.backoff name ∈ s.owed cs ↔ (s.slot name).state = .backoff ∧ (s.slot name).backoff = 0 := by
  cases name <;> simp [State.owed, SponsorSlot.retryDue, State.slot]

theorem State.owed_takeUp : Work.takeUp ∈ s.owed cs ↔ s.biu.busState = .onBus := by
  simp [State.owed]

end

/-! ### The frame end -/

theorem levelRaised_congr {b c : BusState} (h : b = .planFault ↔ c = .planFault) (notices : List Notice) (hold : Bool) :
    levelRaised notices hold b = levelRaised notices hold c := by
  funext e raised
  cases e
  case plan => exact Bool.eq_iff_iff.mpr (by simpa [levelRaised] using h)
  all_goals rfl

/-- The end of an event judges the port by the port and by whether the node stands in PLAN FAULT. -/
theorem State.complete_ctp_planFault {s t : State} (hctp : t.ctp = s.ctp)
    (hbus : t.biu.busState = .planFault ↔ s.biu.busState = .planFault) : t.complete.ctp = s.complete.ctp := by
  unfold State.complete
  simp only [hctp, levelRaised_congr hbus]

theorem Biu.frameEnds_iff (b : Biu) :
    b.frameEnds = true ↔ b.timerRunning = true ∧ b.synced = true ∧ (b.place = .slots 31 ∨ b.place = .unjudged) := by
  simp [Biu.frameEnds, and_assoc]

/-- The frame end: the counts, and the work they leave (R43). -/
theorem State.frameEnds_counted {s : State} (h : s.biu.frameEnds = true) (sense : SenseLevels) :
    s.frameEnds sense = { s.counted sense with agenda := (s.counted sense).owed s.cxe.contexts } := if_pos h

theorem exec_frameEnd (sense : SenseLevels) (s : State) :
    exec (.frameEnd sense) s = .next ((s.before (.frameEnd sense)).frameEnds sense).complete := rfl

/-- Settles O30: the counts by `State.counted`'s lemmas, the work by those of `State.owed`. -/
theorem frameEndCounts : Obligations.FrameEndCounts := by
  intro sense s u hu
  rw [exec_frameEnd, ← hu]
  refine ⟨fun ht hs hp => ?_, fun hno => ?_⟩
  · rw [State.frameEnds_counted ((Biu.frameEnds_iff _).mpr ⟨ht, hs, hp⟩)]
    have hslot := u.counted_slot sense
    have hsbc := u.counted_sbc sense
    have hcxe := u.counted_cxe sense
    have hbiu := u.counted_biu sense
    have hsteady := fun h => u.counted_steady h sense
    have hdraining := fun h => u.counted_draining h sense
    obtain ⟨hseq, hrtb, hrfg, hctp, hmem, hltu, hpld, hsense, hdraws, hpending⟩ := u.counted_rest sense
    have hfault : (u.counted sense).biu.busState = .planFault ↔ u.biu.busState = .planFault := by
      rcases hbiu with e | ⟨e, hd⟩
      · rw [e]; rfl
      · rw [e, hd]; exact ⟨nofun, nofun⟩
    have hwire : (u.counted sense).biu.place = .idle ∧
        (u.counted sense).biu.peers = u.biu.peers.map (Peer.frameEnd u.biu.heard) ∧
        (u.counted sense).biu.outbound = u.biu.outbound := by
      rcases hbiu with e | ⟨e, _⟩
      · rw [e]; exact ⟨rfl, rfl, rfl⟩
      · rw [e]; exact ⟨rfl, rfl, rfl⟩
    have hport := State.complete_ctp_planFault hctp hfault
    obtain ⟨hplace, hpeers, hout⟩ := hwire
    generalize u.counted sense = v at *
    refine ⟨_, rfl, hplace, hsbc, ?_, hslot, hpeers, ?_, fun hd => (hdraining hd).1, fun hd => (hdraining hd).2, ?_, hout, hseq, hrtb, hrfg, hport, hmem, hltu, hpld, hsense, hdraws, hpending,
      v.owed_settle _, v.owed_quiet _, v.owed_window _, v.owed_absence _, v.owed_linger _, v.owed_silence _, v.owed_clear _,
      v.owed_backoff _, v.owed_takeUp _⟩
    · exact (congrArg Cxe.contexts hcxe).trans (List.map_congr_left fun c _ => c.frameEnd_eq)
    · intro hd
      have e := hsteady hd
      exact ⟨(congrArg Biu.busState e :), (congrArg Biu.silence e :), (congrArg Biu.clear e :)⟩
    · exact (congrArg Cxe.reservations hcxe :)
  · have hnot : ¬u.biu.frameEnds = true := fun h => by
      obtain ⟨ht, hs, hp⟩ := (Biu.frameEnds_iff _).mp h
      rcases hno with hno | hno | ⟨hslots, hunjudged⟩
      · rw [ht] at hno; cases hno
      · rw [hs] at hno; cases hno
      · exact hp.elim hslots hunjudged
    unfold State.frameEnds
    rw [if_neg hnot]

end Sys2Proof.Machine
end

section
/-! SUPPORT. What a close FAILED leaves of every block (R82 to R84, R99, R151). -/

namespace Sys2Proof.Machine

/-! ### The close but for its hand-off -/

/-- The guard after a close FAILED: released in COLD, and in MOVE where the context has driven nothing (R99, R151). -/
def State.guardAfterClose (s : State) (c : Context) : Rfg :=
  if c.phase = .cold ∨ (c.phase = .move ∧ c.driven = []) then s.rfg.closeGuard c.tag else s.rfg

/-- In ANSWER, and in MOVE with a switch driven, a close leaves the guard (R99, R151). -/
theorem State.guardAfterClose_kept {s : State} {c : Context} (h : c.phase = .answer ∨ (c.phase = .move ∧ c.driven ≠ [])) :
    s.guardAfterClose c = s.rfg := by
  refine if_neg ?_
  rcases h with hp | ⟨hp, hd⟩
  · simp [hp]
  · simp [hp, hd]

/-- The state in which a context has closed FAILED, nothing handed over yet (R83, R84). -/
def State.closedFailed (s : State) (c : Context) (record : CloseRecord) : State :=
  { s with
    cxe := { s.cxe with contexts := s.cxe.contexts.map (fun x => if x.tag = c.tag then x.closed .failed record else x) }
    sbc := s.sbc.map (Switch.dropTag c.tag)
    rtb := { s.rtb with routes := s.rtb.routes.map (Route.unbusy c.tag) }
    rfg := s.guardAfterClose c }

theorem State.closeFailed_eq (s : State) (c : Context) (record : CloseRecord) :
    s.closeFailed c record = (s.closedFailed c record).handOver c false record := by
  unfold State.closeFailed State.closedFailed State.guardAfterClose
  cases hp : c.phase
  case move => cases hd : c.driven <;> rfl
  all_goals rfl

/-- Of the changeover table a hand-off changes the reservations alone (R82, R136). -/
theorem State.handOver_cxe (s : State) (c : Context) (done : Bool) (record : CloseRecord) :
    (s.handOver c done record).cxe = { s.cxe with reservations := (s.handOver c done record).cxe.reservations } := by
  have hrestored := congrArg State.cxe (s.handOver_restored c done record)
  exact congrArg (fun x : Cxe => { x with reservations := (s.handOver c done record).cxe.reservations }) hrestored

/-- Everything a close FAILED leaves but what the Sponsor Unit holds. -/
theorem State.closeFailed_blocks (s : State) (c : Context) (record : CloseRecord) :
    (s.closeFailed c record).cxe = { s.cxe with
        contexts := s.cxe.contexts.map (fun x => if x.tag = c.tag then x.closed .failed record else x)
        reservations := (s.closeFailed c record).cxe.reservations } ∧
      (s.closeFailed c record).sbc = s.sbc.map (Switch.dropTag c.tag) ∧
      (s.closeFailed c record).rtb = { s.rtb with routes := s.rtb.routes.map (Route.unbusy c.tag) } ∧
      (s.closeFailed c record).rfg = s.guardAfterClose c := by
  rw [State.closeFailed_eq]
  obtain ⟨_, hsbc, hrfg, hrtb⟩ := (s.closedFailed c record).handOver_kept c false record
  exact ⟨(s.closedFailed c record).handOver_cxe c false record, hsbc, hrtb, hrfg⟩

/-- The close of a context another node sponsors leaves the Sponsor Unit, the bus and the port (R82). -/
theorem State.closeFailed_other {s : State} {c : Context} (h : c.tag.sponsor ≠ s.me) (record : CloseRecord) :
    s.closeFailed c record = s.closedFailed c record := by
  rw [State.closeFailed_eq, State.handOver_other _ _ _ _ (show c.tag.sponsor ≠ (s.closedFailed c record).me from h)]

theorem State.closeFailed_contextOf (s : State) (c : Context) (record : CloseRecord) (g : Tag) :
    (s.closeFailed c record).context? g =
      if g = c.tag then (s.context? g).map (Context.closed .failed record) else s.context? g := by
  have : (s.closeFailed c record).context? g = (s.onContext c.tag (Context.closed .failed record)).context? g := by
    unfold State.context?
    rw [(s.closeFailed_blocks c record).1]; rfl
  rw [this, State.context_onContext s c.tag g (Context.closed .failed record) (fun _ => rfl)]

theorem State.closeFailed_unclaimed (s : State) (c : Context) (record : CloseRecord) :
    ∀ w ∈ (s.closeFailed c record).sbc, ∀ e ∈ w.claims, e.holder ≠ .pending c.tag ∧ ∀ u ∈ e.successor, u.tag ≠ c.tag := by
  intro w hw
  rw [(s.closeFailed_blocks c record).2.1] at hw
  obtain ⟨v, _, rfl⟩ := List.mem_map.mp hw
  exact Switch.dropTag_none c.tag v

/-- What a close leaves of a switch's claims, each in its place: the tag's entries gone, and its successors (R11). -/
theorem Switch.dropTag_claims_filter (g : Tag) (w : Switch) :
    (w.dropTag g).claims = (w.claims.filter (fun e => e.holder != .pending g)).map (fun e =>
      { e with successor := e.successor.filter (fun x => x.tag != g) }) := by
  refine List.map_congr_left fun e _ => ?_
  obtain ⟨holder, position, successor⟩ := e
  cases successor with
  | none => rfl
  | some u => by_cases h : u.tag = g <;> simp [Option.filter, h]

theorem State.closeFailed_switch {s : State} {i : Nat} {w : Switch} (hw : s.switch? i = some w) (c : Context)
    (record : CloseRecord) : (s.closeFailed c record).switch? i = some (w.dropTag c.tag) := by
  have : (s.closeFailed c record).switch? i = (s.dropTagClaims c.tag).switch? i :=
    State.switch_of_sbc (s.closeFailed_blocks c record).2.1 i
  rw [this, State.dropTagClaims, State.switch_onSwitches s i (Switch.dropTag c.tag) (fun _ => rfl), hw]
  rfl

theorem Rfg.closeGuard_releasedFor (g : Rfg) (tag : Tag) : g.releasedFor (g.closeGuard tag) tag :=
  ⟨Rfg.closeGuard_none, fun _ he => Rfg.closeGuard_some he⟩

theorem State.closeFailed_handsOver {s : State} {c : Context} (h : c.tag.sponsor = s.me) (record : CloseRecord) :
    s.handsOver (s.closeFailed c record) (c.handOff false record) := by
  rw [State.closeFailed_eq]
  exact State.handOver_handsOver h rfl rfl rfl rfl

end Sys2Proof.Machine
end

section
/-! SUPPORT. A settle outcome told to a context, and the freeing of a context (R79, R85, R151). -/

namespace Sys2Proof.Machine

/-! ### A settle outcome taken (R79) -/

/-- A context with the switches of a settled unit gone from both its sets. -/
def Context.leaving (x : Context) (switches : List Nat) : Context :=
  { x with waitSet := x.waitSet.filter (fun i => i ∉ switches), driven := x.driven.filter (fun i => i ∉ switches) }

@[simp] theorem Context.leaving_underlying (x : Context) (l : List Nat) : (x.leaving l).underlying = x.underlying := rfl

theorem Context.takeOutcome_right (x : Context) (l : List Nat) : x.takeOutcome l .right = (x.leaving l).settleReport := rfl
theorem Context.takeOutcome_sense (x : Context) (l : List Nat) : x.takeOutcome l .sense = (x.leaving l).moveFail .sense := rfl
theorem Context.takeOutcome_skew (x : Context) (l : List Nat) : x.takeOutcome l .skew = (x.leaving l).moveFail .skew := rfl

theorem Context.movesTo_takeOutcome (x : Context) (l : List Nat) (o : SettleOutcome) : (x.leaving l).MovesTo (x.takeOutcome l o) := by
  cases o
  case right => exact (x.leaving l).movesTo_settleReport
  case sense => exact (x.leaving l).movesTo_moveFail .sense
  case skew => exact (x.leaving l).movesTo_moveFail .skew

theorem Context.takeOutcome_sets (x : Context) (l : List Nat) (o : SettleOutcome) :
    (x.takeOutcome l o).waitSet = (x.leaving l).waitSet ∧ (x.takeOutcome l o).driven = (x.leaving l).driven ∧
      (x.takeOutcome l o).hotMark = x.hotMark := by
  cases o
  case right => exact (x.leaving l).settleReport_sets
  all_goals exact ⟨Context.moveFail_waitSet _ _, Context.moveFail_driven _ _, Context.moveFail_hotMark _ _⟩

/-- Outside MOVE an outcome leaves the own report (R79, R151). -/
theorem Context.takeOutcome_notMove {x : Context} (h : x.phase ≠ .move) (l : List Nat) (o : SettleOutcome) :
    x.takeOutcome l o = x.leaving l := by
  have hphase : ((x.leaving l).phase == .move) = false := beq_eq_false_iff_ne.mpr h
  cases o
  case right => rw [Context.takeOutcome_right, Context.settleReport, hphase]; rfl
  case sense => rw [Context.takeOutcome_sense, Context.moveFail, hphase]; rfl
  case skew => rw [Context.takeOutcome_skew, Context.moveFail, hphase]; rfl

/-- An own report that is not QUIET is left by every outcome (R69). -/
theorem Context.takeOutcome_notQuiet {x : Context} (h : x.phase ≠ .move ∨ x.underlying ≠ some .quiet) (l : List Nat)
    (o : SettleOutcome) : (x.takeOutcome l o).underlying = x.underlying := by
  rcases h with h | h
  · rw [Context.takeOutcome_notMove h, Context.leaving_underlying]
  · exact (x.movesTo_takeOutcome l o).quiet h

/-- In MOVE the QUIET report waits while the wait set holds a switch, settles when it empties, and fails at a fault (R79). -/
theorem Context.takeOutcome_quiet {x : Context} (hp : x.phase = .move) (hq : x.underlying = some .quiet) (l : List Nat) :
    ((x.leaving l).waitSet ≠ [] → (x.takeOutcome l .right).underlying = some .quiet) ∧
      ((x.leaving l).waitSet = [] → (x.takeOutcome l .right).underlying = some x.settledReport) ∧
      (x.takeOutcome l .sense).underlying = some (.fail .sense) ∧ (x.takeOutcome l .skew).underlying = some (.fail .skew) := by
  refine ⟨fun hw => ?_, fun hw => ?_, ?_, ?_⟩
  · rw [Context.takeOutcome_right, Context.settleReport_waiting hw, Context.leaving_underlying, hq]
  · rw [Context.takeOutcome_right, Context.settleReport_settled (x := x.leaving l) hp hw hq]; rfl
  · exact Context.moveFail_underlying (x := x.leaving l) hp hq .sense
  · exact Context.moveFail_underlying (x := x.leaving l) hp hq .skew

/-! ### A context freed (R85) -/

/-- The state with a context gone from the table and from every waiter set, DRAINING not yet tested (R85). -/
def State.without (s : State) (tag : Tag) : State :=
  { s with
    cxe := { s.cxe with contexts := s.cxe.contexts.filter (fun c => c.tag != tag) }
    sbc := s.sbc.map (fun w => { w with waiters := w.waiters.filter (fun t => t != tag) }) }

theorem State.without_context (s : State) (tag x : Tag) :
    (s.without tag).context? x = if x = tag then none else s.context? x := by
  unfold State.context? State.without
  rw [List.find?_filter]
  split
  · subst x
    refine List.find?_eq_none.mpr fun c _ => by simp
  · rename_i hx
    congr 1
    funext c
    by_cases hc : c.tag = x <;> simp [hc, hx]

theorem State.without_waiters (s : State) (tag : Tag) : ∀ w ∈ (s.without tag).sbc, tag ∉ w.waiters := by
  intro w hw
  obtain ⟨v, _, rfl⟩ := List.mem_map.mp hw
  simp

/-- Freeing a context changes no switch but in its waiter set. -/
theorem State.without_sbc (s : State) (tag : Tag) :
    (s.without tag).sbc.map (fun w => { w with waiters := [] }) = s.sbc.map (fun w => { w with waiters := [] }) := by
  show (s.sbc.map _).map _ = _
  rw [List.map_map]; rfl

theorem State.drainTest_steady {s : State} (h : s.biu.busState ≠ .draining) : s.drainTest = s := if_neg fun hd => h hd.1

/-- A context is freed once it is closed, its linger has run out and nothing it drove is still to settle (R85). -/
theorem State.freeIfDone_frees {s : State} {tag : Tag} {c : Context} (hc : s.context? tag = some c)
    (hp : c.phase = .done ∨ c.phase = .failed) (hl : c.linger = 0) (hd : c.driven = []) :
    s.freeIfDone tag = (s.without tag).drainTest := by
  unfold State.freeIfDone
  rw [hc]
  exact if_pos (by simp [(Context.isOpen_eq_false c).mpr hp, hl, hd])

theorem State.freeIfDone_keeps {s : State} {tag : Tag} {c : Context} (hc : s.context? tag = some c)
    (h : c.isOpen = true ∨ c.linger ≠ 0 ∨ c.driven ≠ []) : s.freeIfDone tag = s := by
  unfold State.freeIfDone
  rw [hc]
  refine if_neg fun hfree => ?_
  simp only [Bool.and_eq_true, Bool.not_eq_true', beq_iff_eq, List.isEmpty_iff] at hfree
  obtain ⟨⟨hopen, hlinger⟩, hdriven⟩ := hfree
  rcases h with h | h | h
  · rw [h] at hopen; cases hopen
  · exact h hlinger
  · exact h hdriven

/-! ### A settle outcome told (R79, R151) -/

theorem State.context_takeOutcome {s : State} {tag : Tag} {c : Context} (hc : s.context? tag = some c) (l : List Nat)
    (o : SettleOutcome) : (s.onContext tag (fun x => x.takeOutcome l o)).context? tag = some (c.takeOutcome l o) := by
  rw [State.context_onContext s tag tag (fun x => x.takeOutcome l o) (fun x => x.takeOutcome_tag l o), if_pos rfl, hc]
  rfl

theorem State.tellOutcome_none {s : State} {tag : Tag} (h : s.context? tag = none) (report : SettleReport) :
    State.tellOutcome report s tag = s := by
  unfold State.tellOutcome
  rw [h]

/-- An open context takes the outcome, and nothing else changes (R79). -/
theorem State.tellOutcome_open {s : State} {tag : Tag} {c : Context} (hc : s.context? tag = some c) (hopen : c.isOpen = true)
    (report : SettleReport) :
    State.tellOutcome report s tag = s.onContext tag (fun x => x.takeOutcome report.switches report.outcome) := by
  have hphase : (c.phase == .failed) = false := by
    unfold Context.isOpen at hopen
    cases hp : c.phase <;> simp [hp] at hopen ⊢
  unfold State.tellOutcome
  rw [hc]
  simp only [hphase, Bool.false_and, Bool.false_eq_true, if_false]
  refine State.freeIfDone_keeps (State.context_takeOutcome hc _ _) (.inl ?_)
  have hkeeps := (c.movesTo_takeOutcome report.switches report.outcome).phase
  unfold Context.isOpen at hopen ⊢
  rwa [hkeeps]

/-- A closed context takes the outcome: its lines are released where it closed FAILED and its driven set empties now (R151), and
it is tested for its freeing (R85). -/
def State.outcomeAtClosed (s : State) (c : Context) (report : SettleReport) (tag : Tag) : State :=
  let t := s.onContext tag (fun x => x.takeOutcome report.switches report.outcome)
  if c.phase = .failed ∧ c.driven ≠ [] ∧ (c.leaving report.switches).driven = [] then t.closeGuard tag else t

theorem State.tellOutcome_closed {s : State} {tag : Tag} {c : Context} (hc : s.context? tag = some c) (report : SettleReport) :
    State.tellOutcome report s tag = (s.outcomeAtClosed c report tag).freeIfDone tag := by
  unfold State.tellOutcome State.outcomeAtClosed
  rw [hc]
  have hset := (c.takeOutcome_sets report.switches report.outcome).2.1
  simp only [hset, Bool.and_eq_true, beq_iff_eq, Bool.not_eq_true', List.isEmpty_eq_false_iff, List.isEmpty_iff, and_assoc]

end Sys2Proof.Machine
end

section
/-! SUPPORT. A close FAILED and a settle outcome told, as the obligation on both states them (R79, R82 to R85, R151). -/

namespace Sys2Proof.Machine

/-! ### What an outcome leaves of the node -/

theorem State.outcomeAtClosed_eq (s : State) (c : Context) (report : SettleReport) (tag : Tag) :
    s.outcomeAtClosed c report tag =
      { s.onContext tag (fun x => x.takeOutcome report.switches report.outcome) with
        rfg := if c.phase = .failed ∧ c.driven ≠ [] ∧ (c.leaving report.switches).driven = [] then s.rfg.closeGuard tag
               else s.rfg } := by
  unfold State.outcomeAtClosed
  dsimp only
  split <;> rfl

theorem State.outcomeAtClosed_context {s : State} {tag : Tag} {c : Context} (hc : s.context? tag = some c)
    (hp : c.phase = .done ∨ c.phase = .failed) (report : SettleReport) :
    (s.outcomeAtClosed c report tag).context? tag = some (c.leaving report.switches) := by
  have hmove : c.phase ≠ .move := by rcases hp with h | h <;> rw [h] <;> exact nofun
  rw [State.outcomeAtClosed_eq, ← Context.takeOutcome_notMove hmove report.switches report.outcome]
  exact State.context_takeOutcome hc _ _

/-- A closed context the outcome frees (R85). -/
theorem State.tellOutcome_frees {s : State} {tag : Tag} {c : Context} (hc : s.context? tag = some c)
    (hp : c.phase = .done ∨ c.phase = .failed) {report : SettleReport} (hl : c.linger = 0)
    (hd : (c.leaving report.switches).driven = []) :
    State.tellOutcome report s tag = ((s.outcomeAtClosed c report tag).without tag).drainTest := by
  rw [State.tellOutcome_closed hc]
  exact State.freeIfDone_frees (c := c.leaving report.switches) (State.outcomeAtClosed_context hc hp report) hp hl hd

/-- A closed context that still lingers or still has a driven switch to settle (R85, R151). -/
theorem State.tellOutcome_lingers {s : State} {tag : Tag} {c : Context} (hc : s.context? tag = some c)
    (hp : c.phase = .done ∨ c.phase = .failed) {report : SettleReport}
    (h : c.linger ≠ 0 ∨ (c.leaving report.switches).driven ≠ []) :
    State.tellOutcome report s tag = s.outcomeAtClosed c report tag := by
  rw [State.tellOutcome_closed hc]
  exact State.freeIfDone_keeps (c := c.leaving report.switches) (State.outcomeAtClosed_context hc hp report) (.inr h)

/-- The phases of a context: open in the first three (R82). -/
theorem Context.isOpen_eq_true (c : Context) : c.isOpen = true ↔ c.phase = .answer ∨ c.phase = .cold ∨ c.phase = .move := by
  unfold Context.isOpen
  cases c.phase <;> simp

/-- An outcome told changes the context, perhaps the guard, and perhaps frees the context; nothing else. -/
theorem State.tellOutcome_shape {s : State} {tag : Tag} {c : Context} (hc : s.context? tag = some c) (report : SettleReport) :
    ∃ rfg, let v : State := { s.onContext tag (fun x => x.takeOutcome report.switches report.outcome) with rfg := rfg }
      State.tellOutcome report s tag = v ∨ State.tellOutcome report s tag = (v.without tag).drainTest := by
  cases hopen : c.isOpen with
  | true => exact ⟨s.rfg, .inl (State.tellOutcome_open hc hopen report)⟩
  | false =>
    have hp := (Context.isOpen_eq_false c).mp hopen
    have hv : ({ s.onContext tag (fun x => x.takeOutcome report.switches report.outcome) with
        rfg := (s.outcomeAtClosed c report tag).rfg } : State) = s.outcomeAtClosed c report tag := by
      rw [State.outcomeAtClosed_eq]
    refine ⟨(s.outcomeAtClosed c report tag).rfg, ?_⟩
    dsimp only
    rw [hv]
    by_cases h : c.linger = 0 ∧ (c.leaving report.switches).driven = []
    · exact .inr (State.tellOutcome_frees hc hp h.1 h.2)
    · exact .inl (State.tellOutcome_lingers hc hp (by rwa [not_and_or] at h))

/-- What an outcome told never touches. -/
theorem State.tellOutcome_frame {s : State} {tag : Tag} {c : Context} (hc : s.context? tag = some c) (report : SettleReport) :
    let t := State.tellOutcome report s tag
    (∀ x, x ≠ tag → t.context? x = s.context? x) ∧
      t.sbc.map (fun w => { w with waiters := [] }) = s.sbc.map (fun w => { w with waiters := [] }) ∧
      t.rtb = s.rtb ∧ t.spu = s.spu ∧ t.ctp = s.ctp ∧ (s.biu.busState ≠ .draining → t.biu = s.biu) := by
  obtain ⟨rfg, hshape⟩ := State.tellOutcome_shape hc report
  set v : State := { s.onContext tag (fun x => x.takeOutcome report.switches report.outcome) with rfg := rfg } with hv
  have hcontext : ∀ x, x ≠ tag → v.context? x = s.context? x := fun x hx =>
    (State.context_onContext s tag x (fun x => x.takeOutcome report.switches report.outcome)
      (fun x => x.takeOutcome_tag _ _)).trans (if_neg hx)
  rcases hshape with e | e <;> rw [e] <;> dsimp only
  · exact ⟨hcontext, rfl, rfl, rfl, rfl, fun _ => rfl⟩
  · refine ⟨fun x hx => ?_, (congrArg _ (v.without tag).drainTest_sbc).trans (v.without_sbc tag), (v.without tag).drainTest_rtb,
      (v.without tag).drainTest_spu, (v.without tag).drainTest_ctp, fun hb => ?_⟩
    · have : (v.without tag).drainTest.context? x = (v.without tag).context? x := by
        unfold State.context?
        rw [State.drainTest_cxe]
      rw [this, State.without_context, if_neg hx, hcontext x hx]
    · rw [State.drainTest_steady (s := v.without tag) hb]
      rfl

/-! ### An outcome told to an open and to a closed context -/

/-- An outcome told to an open context (R79). -/
theorem State.tellOutcome_atOpen {s : State} {tag : Tag} {c : Context} (hc : s.context? tag = some c)
    (hp : c.phase = .answer ∨ c.phase = .cold ∨ c.phase = .move) (report : SettleReport) :
    let t := State.tellOutcome report s tag
    t.rfg = s.rfg ∧ t.sbc = s.sbc ∧ ∃ d, t.context? tag = some d ∧
      d = { c.leaving report.switches with report := d.report, kept := d.kept } ∧
      (c.report = some .withdraw ↔ d.report = some .withdraw) ∧ (c.report ≠ some .withdraw → d.kept = c.kept) ∧
      (c.phase ≠ .move ∨ c.underlying ≠ some .quiet → d.underlying = c.underlying) ∧
      (c.phase = .move → c.underlying = some .quiet →
        (report.outcome = .right → (c.leaving report.switches).waitSet ≠ [] → d.underlying = some .quiet) ∧
        (report.outcome = .right → (c.leaving report.switches).waitSet = [] → d.underlying = some c.settledReport) ∧
        (report.outcome = .sense → d.underlying = some (.fail .sense)) ∧
        (report.outcome = .skew → d.underlying = some (.fail .skew))) := by
  rw [State.tellOutcome_open hc ((Context.isOpen_eq_true c).mpr hp)]
  have hmoves := c.movesTo_takeOutcome report.switches report.outcome
  obtain ⟨hwait, hdriven, hhot⟩ := c.takeOutcome_sets report.switches report.outcome
  refine ⟨rfl, rfl, _, State.context_takeOutcome hc _ _, ?_, hmoves.withdraw, hmoves.kept,
    fun h => Context.takeOutcome_notQuiet h _ _, fun hm hq => ?_⟩
  · have := hmoves.eq
    rwa [hwait, hdriven, hhot] at this
  · obtain ⟨hwaits, hsettles, hsense, hskew⟩ := Context.takeOutcome_quiet hm hq report.switches
    exact ⟨fun h => h ▸ hwaits, fun h => h ▸ hsettles, fun h => h ▸ hsense, fun h => h ▸ hskew⟩

/-- An outcome told to a closed context (R85, R151). -/
theorem State.tellOutcome_atClosed {s : State} {tag : Tag} {c : Context} (hc : s.context? tag = some c)
    (hp : c.phase = .done ∨ c.phase = .failed) (report : SettleReport) :
    let t := State.tellOutcome report s tag
    let left := c.leaving report.switches
    (c.phase = .failed → c.driven ≠ [] → left.driven = [] → s.rfg.releasedFor t.rfg tag) ∧
    (c.phase = .done ∨ c.driven = [] ∨ left.driven ≠ [] → t.rfg = s.rfg) ∧
    (c.linger = 0 → left.driven = [] → t.context? tag = none ∧ ∀ w ∈ t.sbc, tag ∉ w.waiters) ∧
    (c.linger ≠ 0 ∨ left.driven ≠ [] → t.sbc = s.sbc ∧ t.context? tag = some left) := by
  dsimp only
  have hguard : (State.tellOutcome report s tag).rfg = (s.outcomeAtClosed c report tag).rfg := by
    by_cases h : c.linger = 0 ∧ (c.leaving report.switches).driven = []
    · rw [State.tellOutcome_frees hc hp h.1 h.2]
      exact ((s.outcomeAtClosed c report tag).without tag).drainTest_rfg
    · rw [State.tellOutcome_lingers hc hp (by rwa [not_and_or] at h)]
  rw [State.outcomeAtClosed_eq] at hguard
  refine ⟨fun hf hd hl => ?_, fun h => ?_, fun hl hd => ?_, fun h => ?_⟩
  · rw [hguard, if_pos ⟨hf, hd, hl⟩]
    exact s.rfg.closeGuard_releasedFor tag
  · rw [hguard, if_neg]
    rintro ⟨hf, hd, hl⟩
    rcases h with h | h | h
    · rw [hf] at h; cases h
    · exact hd h
    · exact h hl
  · rw [State.tellOutcome_frees hc hp hl hd]
    refine ⟨?_, ?_⟩
    · unfold State.context?
      rw [State.drainTest_cxe]
      exact ((s.outcomeAtClosed c report tag).without_context tag tag).trans (if_pos rfl)
    · rw [State.drainTest_sbc]
      exact (s.outcomeAtClosed c report tag).without_waiters tag
  · rw [State.tellOutcome_lingers hc hp h]
    refine ⟨?_, State.outcomeAtClosed_context hc hp report⟩
    rw [State.outcomeAtClosed_eq]
    rfl

/-- Settles O50: a close by its blocks and its hand-off, an outcome by what it leaves of an open and of a closed context. -/
theorem closesAndOutcomesTakeDown : Obligations.ClosesAndOutcomesTakeDown := by
  refine ⟨fun s c record hc => ?_, fun s report tag => ⟨fun h => State.tellOutcome_none h report, fun c hc => ?_⟩⟩
  · obtain ⟨hcxe, hsbc, hrtb, hrfg⟩ := s.closeFailed_blocks c record
    refine ⟨State.closeFailed_context hc record, fun x hx => (s.closeFailed_contextOf c record x).trans (if_neg hx),
      s.closeFailed_unclaimed c record, ?_, fun i w hw => ⟨_, State.closeFailed_switch hw c record, w.dropTag_claims_filter c.tag⟩,
      hrtb, ?_, fun h => ?_, fun h => ?_, (s.keeps_iff _).mpr (s.closeFailed_planSide c record), fun h => ?_,
      fun h => State.closeFailed_handsOver h record⟩
    · rw [hsbc]
      exact map_bare_onSwitches s _ (Switch.dropTag_bare c.tag)
    · rw [hcxe]
    · rw [hrfg, State.guardAfterClose, if_pos h]
      exact s.rfg.closeGuard_releasedFor c.tag
    · exact hrfg.trans (State.guardAfterClose_kept h)
    · rw [State.closeFailed_other h]
      exact ⟨rfl, rfl, rfl⟩
  · obtain ⟨hcontext, hsbc, hrtb, hspu, hctp, hbiu⟩ := State.tellOutcome_frame hc report
    exact ⟨hcontext, hsbc, hrtb, hspu, hctp, hbiu, (s.keeps_iff _).mpr (State.tellOutcome_planSide report s tag),
      fun hp => State.tellOutcome_atOpen hc hp report, fun hp => State.tellOutcome_atClosed hc hp report⟩

end Sys2Proof.Machine
end

section
/-! SUPPORT. The counts that run out: the answer window (R74), the quiet wait (R76) and the linger of a closed context (R85). -/

namespace Sys2Proof.Machine

/-! ### The work of a frame end, asked for by its row -/

theorem exec_answerWindowExpiry {s : State} {tag : Tag} (h : Work.window tag ∈ s.agenda) :
    exec (.answerWindowExpiry tag) s = .next ((s.taking (.window tag)).windowRunsOut tag).complete :=
  congrArg Host.Outcome.next (if_pos h)

theorem exec_quietTimeout {s : State} {tag : Tag} (h : Work.quiet tag ∈ s.agenda) :
    exec (.quietTimeout tag) s = .next ((s.taking (.quiet tag)).quietRunsOut tag).complete :=
  congrArg Host.Outcome.next (if_pos h)

theorem exec_lingerExpiry {s : State} {tag : Tag} (h : Work.linger tag ∈ s.agenda) :
    exec (.lingerExpiry tag) s = .next ((s.taking (.linger tag)).freeIfDone tag).complete :=
  congrArg Host.Outcome.next (if_pos h)

/-! ### The answer window (R74) -/

/-- A context with the last frame end of its window counted. -/
def Context.windowCounted (x : Context) : Context := { x with window := 0 }

/-- The state with the last frame end of a context's window counted. -/
def State.windowCounted (s : State) (tag : Tag) : State := s.onContext tag Context.windowCounted

/-- The close of a context whose answer window has run out: NO ANSWER, at the first participant not heard (R74). -/
def Context.unanswered (c : Context) : CloseRecord :=
  .at .noAnswer ((c.standing.find? (fun x => x.rank == .none)).map Standing.node)

theorem State.windowRunsOut_eq {s : State} {tag : Tag} {c : Context} (hc : s.context? tag = some c) (hp : c.phase = .answer)
    (hw : c.window ≤ 1) :
    s.windowRunsOut tag = (s.windowCounted tag).closeFailed c.windowCounted c.unanswered := by
  unfold State.windowRunsOut
  rw [hc]
  exact if_pos ⟨hp, hw⟩

theorem State.windowCounted_context {s : State} {tag : Tag} {c : Context} (hc : s.context? tag = some c) :
    (s.windowCounted tag).context? tag = some c.windowCounted := by
  unfold State.windowCounted
  rw [State.context_onContext s tag tag Context.windowCounted (fun _ => rfl), if_pos rfl, hc]
  rfl

/-- Settles O33: the expiry is a close FAILED of the context with its window counted. -/
theorem windowExpiryClosesContext : Obligations.WindowExpiryClosesContext := by
  intro tag s u c hwork hu hc hp hw
  obtain rfl : c.tag = tag := (State.context_spec hc).2
  have hcounted := State.windowCounted_context hc
  have hrun := State.windowRunsOut_eq hc hp hw
  obtain ⟨_, _, hrtb, hrfg⟩ := (u.windowCounted c.tag).closeFailed_blocks c.windowCounted c.unanswered
  have hplan := u.windowRunsOut_planSide c.tag
  refine ⟨(u.windowRunsOut c.tag).complete, by rw [exec_answerWindowExpiry hwork, ← hu], ?_, ?_, ?_, ?_,
    (u.keeps_iff _).mpr hplan, fun hs => ?_⟩ <;> rw [hrun]
  · exact State.closeFailed_context (c := c.windowCounted) hcounted c.unanswered
  · exact (u.windowCounted c.tag).closeFailed_unclaimed c.windowCounted c.unanswered
  · intro r hr
    rw [State.complete_rtb, hrtb] at hr
    obtain ⟨q, _, rfl⟩ := List.mem_map.mp hr
    exact q.unbusy_busy c.tag
  · exact hrfg.trans (State.guardAfterClose_kept (.inl hp))
  · rw [State.closeFailed_other (s := u.windowCounted c.tag) (c := c.windowCounted) hs]
    exact ⟨rfl, rfl, rfl, rfl⟩

/-! ### The quiet wait (R76, R102) -/

/-- A context whose quiet wait has run out: its last frame end counted, and an ACCEPT become FAIL HOT (R69, R76). -/
def Context.quietRunOut (x : Context) : Context := { x with quietLeft := 0 }.quietFail

theorem State.quietRunsOut_eq {s : State} {tag : Tag} {c : Context} (hc : s.context? tag = some c) (hp : c.phase = .cold)
    (hq : c.quietWait = true) (hl : c.quietLeft ≤ 1) :
    s.quietRunsOut tag = { s.onContext tag Context.quietRunOut with rfg := s.rfg.endWatch tag } := by
  unfold State.quietRunsOut
  rw [hc]
  exact if_pos ⟨hp, hq, hl⟩

theorem State.onContext_quietRunOut {s : State} {tag : Tag} {c : Context} (hc : s.context? tag = some c) :
    (s.onContext tag Context.quietRunOut).context? tag = some c.quietRunOut := by
  rw [State.context_onContext s tag tag Context.quietRunOut (fun x => Context.quietFail_tag _), if_pos rfl, hc]
  rfl

/-- The own report, still ACCEPT, fails where no WITHDRAW stands. -/
theorem Context.quietRunOut_accept {c : Context} (hp : c.phase = .cold) (hq : c.quietWait = true) {v : Nat}
    (hr : c.report = some (.accept v)) :
    c.quietRunOut = { c with report := some (.fail .hot), quietWait := false, quietLeft := 0 } := by
  simp [Context.quietRunOut, Context.quietFail, Context.underlying, Context.setReport, isAccept, hp, hq, hr]

/-- While a WITHDRAW stands the report kept aside fails (R86; log 18). -/
theorem Context.quietRunOut_withdraw {c : Context} (hp : c.phase = .cold) (hq : c.quietWait = true) {v : Nat}
    (hr : c.report = some .withdraw) (hk : c.kept = some (.accept v)) :
    c.quietRunOut = { c with kept := some (.fail .hot), quietWait := false, quietLeft := 0 } := by
  simp [Context.quietRunOut, Context.quietFail, Context.underlying, Context.setReport, isAccept, hp, hq, hr, hk]

theorem Rfg.endWatch_watch (g : Rfg) (tag : Tag) : ∀ e ∈ (g.endWatch tag).guards, e.tag = tag → e.watch = false := by
  intro e he ht
  obtain ⟨x, _, rfl⟩ := List.mem_map.mp he
  split at ht
  · rw [if_pos ‹_›]
  · exact absurd ht ‹_›

/-! ### The linger (R85, R53) -/

/-- The end of DRAINING once a context is gone: every context was of its tag, and both slots are FREE (R53). -/
theorem State.without_drainTest (s : State) (tag : Tag) :
    (s.without tag).drainTest =
      if s.biu.busState = .draining ∧ (∀ x ∈ s.cxe.contexts, x.tag = tag) ∧ s.spu.slotA.state = .free ∧
        s.spu.slotB.state = .free
      then { s.without tag with biu := { s.biu with busState := .offBus, silence := 12 } } else s.without tag := by
  have hempty : (s.without tag).cxe.contexts = [] ↔ ∀ x ∈ s.cxe.contexts, x.tag = tag := by
    show s.cxe.contexts.filter _ = [] ↔ _
    simp
  unfold State.drainTest
  simp only [hempty]
  rfl

/-- Settles O34: the quiet wait by the report it fails, the linger by the freeing of the context. -/
theorem quietAndLingerRunOut : Obligations.QuietAndLingerRunOut := by
  refine ⟨fun tag s u c v hwork hu hc hp hq hl hr => ?_, fun tag s u c hwork hu hc hp hl hd => ?_⟩
  · have hplan := u.quietRunsOut_planSide tag
    refine ⟨(u.quietRunsOut tag).complete, by rw [exec_quietTimeout hwork, ← hu], ?_⟩
    rw [State.quietRunsOut_eq hc hp hq hl] at hplan ⊢
    have hcontext := State.onContext_quietRunOut hc
    refine ⟨fun ha => ?_, fun hw => ?_, u.rfg.endWatch_watch tag, rfl, rfl, rfl, rfl, rfl, rfl, rfl, (u.keeps_iff _).mpr hplan⟩
    · rw [← Context.quietRunOut_accept hp hq ha]
      exact hcontext
    · have hk : c.kept = some (.accept v) := by
        rcases hr with hr | ⟨_, hk⟩
        · rw [hw] at hr; cases hr
        · exact hk
      rw [← Context.quietRunOut_withdraw hp hq hw hk]
      exact hcontext
  · have hfree := (State.freeIfDone_frees hc hp hl hd).trans (u.without_drainTest tag)
    rw [exec_lingerExpiry hwork, ← hu, hfree]
    refine ⟨fun h => ?_, fun h => ?_⟩
    · rw [if_neg h]
      rfl
    · rw [if_pos h]
      rfl

end Sys2Proof.Machine
end

section
/-! SUPPORT. The entry to COLD: the guard entry it opens, the own report it leaves, and the trim (R75, R76, R97, R98, R116). -/

namespace Sys2Proof.Machine

/-! ### The guard entry (R97, R98) -/

/-- The guard with an entry opened and a user taken of each of its lines. -/
def Rfg.opened (g : Rfg) (e : GuardEntry) : Rfg :=
  { g with
    guards := g.guards ++ [e]
    lines := g.lines.map (fun l => if l.line ∈ e.lines then { l with users := l.users + 1, asserted := true } else l) }

/-- Setting the watch of the entry opened last meets no other entry, where none stood under its tag. -/
theorem Rfg.opened_setWatch {g : Rfg} {e : GuardEntry} (h : g.entry? e.tag = none) (on : Bool) :
    (g.opened e).setWatch e.tag on = g.opened { e with watch := on } := by
  have hothers : g.guards.map (fun x => if x.tag = e.tag then { x with watch := on } else x) = g.guards :=
    (List.map_congr_left fun x hx => if_neg (Rfg.entry_none h x hx)).trans (List.map_id' _)
  simp only [Rfg.setWatch, Rfg.opened, List.map_append, hothers, List.map_cons, List.map_nil, if_true]

theorem Rfg.opened_entry {g : Rfg} {e : GuardEntry} (h : g.entry? e.tag = none) : (g.opened e).entry? e.tag = some e := by
  unfold Rfg.entry? at h ⊢
  simp [Rfg.opened, h]

/-- The guard entry a context opens at its entry to COLD, before its quiet test. -/
def State.coldEntry (s : State) (c : Context) : GuardEntry :=
  { tag := c.tag, lines := s.named c RoutePlan.inhibits, detectors := s.named c RoutePlan.detectors,
    hotTolerant := c.hotTolerant, watch := false }

/-- Whether that entry passes its quiet test at once (R100). -/
def State.coldPasses (s : State) (c : Context) : Bool := c.hotTolerant || !s.rfg.entryHot (s.coldEntry c)

/-- The lists a context names here are those of the participant records of its make and break route (R75, R97). -/
theorem State.mem_named {s : State} {c : Context} {list : RoutePlan → List Nat} {i : Nat} :
    i ∈ s.named c list ↔ ∃ x r, (x = c.make ∨ c.brk = some x) ∧ s.route? x = some r ∧ s.me ∈ r.plan.participants ∧
      i ∈ list r.plan := by
  simp only [State.named, List.mem_dedup, List.mem_flatMap, List.mem_append, Option.mem_toList,
    Option.filter_eq_some_iff, Option.bind_eq_some_iff, State.participantRecord, List.contains_iff_mem]
  constructor
  · rintro ⟨r, ⟨hr, hme⟩ | ⟨⟨b, hb, hr⟩, hme⟩, hi⟩
    · exact ⟨c.make, r, .inl rfl, hr, hme, hi⟩
    · exact ⟨b, r, .inr hb, hr, hme, hi⟩
  · rintro ⟨x, r, rfl | hb, hr, hme, hi⟩
    · exact ⟨r, .inl ⟨hr, hme⟩, hi⟩
    · exact ⟨r, .inr ⟨⟨x, hb, hr⟩, hme⟩, hi⟩

theorem State.coldPasses_iff {s : State} {c : Context} :
    s.coldPasses c = true ↔ c.hotTolerant = true ∨ ∀ i ∈ (s.coldEntry c).detectors, s.rfg.inputHot i = false := by
  simp [State.coldPasses, Rfg.entryHot]

theorem State.coldTest_eq {s : State} {c : Context} (h : s.rfg.entry? c.tag = none) :
    s.coldTest c = (s.coldPasses c, s.rfg.opened { s.coldEntry c with watch := !s.coldPasses c }) := by
  have hopen : s.rfg.openGuard c.tag (s.named c RoutePlan.inhibits) (s.named c RoutePlan.detectors) c.hotTolerant =
      s.rfg.opened (s.coldEntry c) := by
    unfold Rfg.openGuard
    rw [h]
    rfl
  have hentry := Rfg.opened_entry (g := s.rfg) (e := s.coldEntry c) h
  have hwatch := fun on => Rfg.opened_setWatch (g := s.rfg) (e := s.coldEntry c) h on
  have hpasses : (c.hotTolerant || !(s.rfg.opened (s.coldEntry c)).entryHot (s.coldEntry c)) = s.coldPasses c := rfl
  unfold State.coldTest Rfg.quietTest
  rw [hopen, show (s.rfg.opened (s.coldEntry c)).entry? c.tag = some (s.coldEntry c) from hentry]
  dsimp only
  rw [show (s.coldEntry c).hotTolerant = c.hotTolerant from rfl, hpasses]
  cases s.coldPasses c
  · exact congrArg (Prod.mk false) (hwatch true)
  · exact congrArg (Prod.mk true) (hwatch false)

/-! ### The context (R75, R76, R86) -/

/-- What the entry to COLD may change of a context: its phase, its quiet wait, the trim outcome, and a step of the own report. -/
structure Context.ColdsTo (quiet : Nat) (c d : Context) : Prop where
  eq : d = { c with phase := .cold, quietLeft := quiet, quietWait := d.quietWait, report := d.report, kept := d.kept, trim := d.trim }
  withdraw : c.report = some .withdraw ↔ d.report = some .withdraw
  kept : c.report ≠ some .withdraw → d.kept = c.kept

theorem Context.ColdsTo.setReport {quiet : Nat} {c d : Context} (h : c.ColdsTo quiet d) {r : Report} (hr : r ≠ .withdraw) (wait : Bool) :
    c.ColdsTo quiet { d.setReport r with quietWait := wait } := by
  by_cases hd : d.report = some .withdraw
  · rw [Context.setReport, if_pos hd]
    refine ⟨?_, h.withdraw, fun hc => absurd (h.withdraw.mpr hd) hc⟩
    rw [h.eq]
  · rw [Context.setReport, if_neg hd]
    refine ⟨?_, ⟨fun hc => absurd (h.withdraw.mp hc) hd, fun he => absurd (Option.some.inj he) hr⟩, h.kept⟩
    rw [h.eq]

theorem Context.ColdsTo.withTrim {quiet : Nat} {c d : Context} (h : c.ColdsTo quiet d) (o : Option TrimOutcome) :
    c.ColdsTo quiet { d with trim := o } := by
  refine ⟨?_, h.withdraw, h.kept⟩
  rw [h.eq]

/-- A context in COLD with its quiet wait begun, the quiet test not yet taken. -/
def Context.waiting (quiet : Nat) (c : Context) : Context := { c with phase := .cold, quietLeft := quiet, quietWait := true }

theorem Context.waiting_coldsTo (quiet : Nat) (c : Context) : c.ColdsTo quiet (c.waiting quiet) := ⟨rfl, .rfl, fun _ => rfl⟩

theorem Context.toCold_accept {quiet : Nat} {c : Context} {v : Nat} (h : c.underlying = some (.accept v)) :
    c.toCold quiet true = { (c.waiting quiet).setReport .quiet with quietWait := false } := by
  have hpass : ((c.waiting quiet).phase == .cold && (c.waiting quiet).quietWait && isAccept (c.waiting quiet).underlying) = true := by
    show (true && true && isAccept c.underlying) = true
    rw [h]; rfl
  exact if_pos hpass

theorem Context.toCold_coldsTo (quiet : Nat) (pass : Bool) (c : Context) : c.ColdsTo quiet (c.toCold quiet pass) := by
  cases pass with
  | false => exact c.waiting_coldsTo quiet
  | true =>
    show c.ColdsTo quiet (c.waiting quiet).quietPass
    unfold Context.quietPass
    split
    · exact (c.waiting_coldsTo quiet).setReport (r := .quiet) nofun false
    · exact c.waiting_coldsTo quiet

theorem Context.trimFail_coldsTo {quiet : Nat} {c d : Context} (h : c.ColdsTo quiet d) : c.ColdsTo quiet d.trimFail := by
  unfold Context.trimFail
  split
  · exact h.setReport (r := .fail .noAnswer) nofun false
  · exact h

theorem Context.setReport_trim (c : Context) (r : Report) : (c.setReport r).trim = c.trim := by
  unfold Context.setReport; split <;> rfl

theorem Context.toCold_trim (quiet : Nat) (pass : Bool) (c : Context) : (c.toCold quiet pass).trim = c.trim := by
  cases pass with
  | false => rfl
  | true =>
    show (c.waiting quiet).quietPass.trim = c.trim
    unfold Context.quietPass
    split
    · exact Context.setReport_trim _ _
    · rfl

theorem Context.trimFail_trim (c : Context) : c.trimFail.trim = c.trim := by
  unfold Context.trimFail
  split
  · exact Context.setReport_trim _ _
  · rfl

/-- The own report, an ACCEPT, after the quiet test: QUIET and the wait over, or as it was and waiting (R69, R76). -/
theorem Context.toCold_report {quiet v : Nat} {c : Context} (h : c.underlying = some (.accept v)) :
    ((c.toCold quiet true).underlying = some .quiet ∧ (c.toCold quiet true).quietWait = false) ∧
      (c.toCold quiet false).underlying = c.underlying ∧ (c.toCold quiet false).quietWait = true := by
  refine ⟨?_, rfl, rfl⟩
  rw [Context.toCold_accept h]
  exact ⟨(c.waiting quiet).setReport_underlying (r := .quiet) nofun, rfl⟩

/-- Whatever the quiet test said, a missing value fails an ACCEPT (R69, R75). -/
theorem Context.trimFail_toCold {quiet v : Nat} {c : Context} (h : c.underlying = some (.accept v)) (pass : Bool) :
    (c.toCold quiet pass).trimFail.underlying = some (.fail .noAnswer) ∧ (c.toCold quiet pass).trimFail.quietWait = false := by
  have hgo : (isAccept (c.toCold quiet pass).underlying || (c.toCold quiet pass).underlying == some .quiet) = true := by
    obtain ⟨⟨hquiet, _⟩, hsame, _⟩ := Context.toCold_report (quiet := quiet) h
    cases pass
    · rw [hsame, h]; rfl
    · rw [hquiet]; rfl
  rw [Context.trimFail, if_pos hgo]
  exact ⟨(c.toCold quiet pass).setReport_underlying (r := .fail .noAnswer) nofun, rfl⟩

end Sys2Proof.Machine
end

section
/-! SUPPORT. The three ways an entry to COLD ends, by the trim: none here, computed, or missing a value (R75, R116, R119). -/

namespace Sys2Proof.Machine

/-! ### The trim (R9, R116) -/

/-- The attenuator a context trims at this node, the trim node (R75 step 3). -/
def State.trims (s : State) (c : Context) (a : Nat) : Prop :=
  c.trimNode = some s.me ∧ ∃ r, s.route? c.make = some r ∧ r.plan.trimAttenuator = some a

/-- What the trim needs: the attenuator's record, and the ACCEPT value of every participant. -/
def State.trimComplete (s : State) (c : Context) (w : Switch) (a : Nat) : Prop :=
  s.switch? a = some w ∧ ∀ x ∈ c.standing, x.accept ≠ none

/-- The trim outcome of a context at an attenuator (R117). -/
def Context.trimAt (c : Context) (w : Switch) : TrimOutcome :=
  trimFor (c.target.getD 0) ((c.standing.map (fun x => x.accept.getD 0)).sum) w.plan.step w.plan.maxCode

theorem State.trims_iff {s : State} {c : Context} {a : Nat} :
    s.trims c a ↔ s.trimHere c = true ∧ (s.route? c.make).bind (fun r => r.plan.trimAttenuator) = some a := by
  simp [State.trims, State.trimHere, Option.bind_eq_some_iff]

theorem State.trims_unique {s : State} {c : Context} {a b : Nat} (ha : s.trims c a) (hb : s.trims c b) : a = b :=
  Option.some.inj ((State.trims_iff.mp ha).2.symm.trans (State.trims_iff.mp hb).2)

/-- The claims fixed are those of the bank, whatever the rest of the state holds (R9). -/
theorem State.fixTrim_sbc {s t : State} (h : t.sbc = s.sbc) (g : Tag) (a code : Nat) :
    (t.fixTrim g a code).2 = { t with sbc := (s.fixTrim g a code).2.sbc } := by
  have hswitch := State.switch_of_sbc h a
  unfold State.fixTrim
  rw [hswitch]
  cases s.switch? a with
  | none => exact congrArg (fun l => { t with sbc := l }) h
  | some w =>
    dsimp only
    cases w.claimedBy g
    · exact congrArg (fun l => { t with sbc := l }) h
    · exact congrArg (fun l => ({ t with sbc := l } : State).onSwitch a (Switch.fixPosition g code)) h

/-- Of a context without an attenuator here nothing is trimmed. -/
theorem State.trimStep_none {s : State} {g : Tag} {d : Context} (hd : s.context? g = some d)
    (h : (s.route? d.make).bind (fun r => r.plan.trimAttenuator) = none) : s.trimStep g = s := by
  unfold State.trimStep
  rw [hd]
  dsimp only
  rw [h]

/-- With every value the outcome is kept and the attenuator's claim fixed at its code (R116). -/
theorem State.trimStep_complete {s : State} {g : Tag} {d : Context} {a : Nat} {w : Switch} (hd : s.context? g = some d)
    (h : (s.route? d.make).bind (fun r => r.plan.trimAttenuator) = some a) (hw : s.trimComplete d w a) :
    s.trimStep g =
      ((s.onContext g (fun x => { x with trim := some (d.trimAt w) })).fixTrim g a (d.trimAt w).code).2 := by
  obtain ⟨hswitch, haccept⟩ := hw
  have hall : d.standing.all (fun x => x.accept.isSome) = true :=
    List.all_eq_true.mpr fun x hx => Option.isSome_iff_ne_none.mpr (haccept x hx)
  unfold State.trimStep
  rw [hd]
  dsimp only
  rw [h]
  dsimp only
  rw [hswitch, hall]
  rfl

/-- With a value missing the own report fails and the watch ends (R119). -/
theorem State.trimStep_missing {s : State} {g : Tag} {d : Context} {a : Nat} (hd : s.context? g = some d)
    (h : (s.route? d.make).bind (fun r => r.plan.trimAttenuator) = some a) (hno : ∀ w, ¬s.trimComplete d w a) :
    s.trimStep g = { s.onContext g Context.trimFail with rfg := s.rfg.endWatch g } := by
  unfold State.trimStep
  rw [hd]
  dsimp only
  rw [h]
  dsimp only
  split
  case h_2 => rfl
  case h_1 w hw hall =>
    refine absurd ⟨hw, fun x hx => ?_⟩ (hno w)
    exact Option.isSome_iff_ne_none.mp (List.all_eq_true.mp hall x hx)

/-! ### The entry to COLD by cases -/

/-- A state in which a context has entered COLD: its guard entry opened with a watch, the context changed, the bank as given. -/
def State.inCold (s : State) (c : Context) (watch : Bool) (f : Context → Context) (bank : List Switch) : State :=
  { ({ s with rfg := s.rfg.opened { s.coldEntry c with watch := watch } } : State).onContext c.tag f with sbc := bank }

/-- The context as the quiet test leaves it (R76). -/
def State.coldContext (s : State) (c x : Context) : Context := x.toCold s.cxe.quietTimeout (s.coldPasses c)

theorem State.intoCold_eq {s : State} {c : Context} (h : s.rfg.entry? c.tag = none) :
    s.intoCold c = s.inCold c (!s.coldPasses c) (s.coldContext c) s.sbc := by
  unfold State.intoCold
  rw [State.coldTest_eq h]
  rfl

theorem State.coldContext_tag (s : State) (c x : Context) : (s.coldContext c x).tag = x.tag :=
  (x.toCold_kept _ _).1

theorem State.inCold_context {s : State} {c : Context} (hc : s.context? c.tag = some c) {f : Context → Context}
    (hf : ∀ x, (f x).tag = x.tag) (watch : Bool) (bank : List Switch) (x : Tag) :
    (s.inCold c watch f bank).context? x = if x = c.tag then some (f c) else s.context? x := by
  have := State.context_onContext s c.tag x f hf
  refine this.trans ?_
  split
  · subst x; rw [hc]; rfl
  · rfl

theorem State.inCold_onContext (s : State) (c : Context) (watch : Bool) {f : Context → Context} (hf : ∀ x, (f x).tag = x.tag)
    (bank : List Switch) (h : Context → Context) :
    (s.inCold c watch f bank).onContext c.tag h = s.inCold c watch (fun x => h (f x)) bank :=
  congrArg (fun t : State => { t with sbc := bank })
    (State.onContext_onContext { s with rfg := s.rfg.opened { s.coldEntry c with watch := watch } } c.tag f h hf)

/-- What the trim reads of a context its entry to COLD leaves. -/
theorem Context.ColdsTo.reads {quiet : Nat} {c d : Context} (h : c.ColdsTo quiet d) :
    d.make = c.make ∧ d.standing = c.standing ∧ d.target = c.target := by
  rw [h.eq]; exact ⟨rfl, rfl, rfl⟩

/-- What the trim step meets: the context the quiet test left, and the same needs as before. -/
theorem State.intoCold_trims {s : State} {c : Context} (hc : s.context? c.tag = some c) (hg : s.rfg.entry? c.tag = none) :
    (s.intoCold c).context? c.tag = some (s.coldContext c c) ∧
      (State.route? (s.intoCold c) (s.coldContext c c).make) = s.route? c.make ∧
      (∀ w a, (s.intoCold c).trimComplete (s.coldContext c c) w a ↔ s.trimComplete c w a) ∧
      ∀ w, (s.coldContext c c).trimAt w = c.trimAt w := by
  obtain ⟨hmake, hstanding, htarget⟩ := (c.toCold_coldsTo s.cxe.quietTimeout (s.coldPasses c)).reads
  rw [State.intoCold_eq hg]
  refine ⟨(State.inCold_context hc (s.coldContext_tag c) _ s.sbc c.tag).trans (if_pos rfl), ?_, fun w a => ?_, fun w => ?_⟩
  · exact congrArg s.route? hmake
  · unfold State.trimComplete State.coldContext
    rw [hstanding]
    rfl
  · unfold Context.trimAt State.coldContext
    rw [hstanding, htarget]

/-- At a node that does not trim, the quiet test ends the entry to COLD. -/
theorem State.enterCold_untrimmed {s : State} {c : Context} (hc : s.context? c.tag = some c) (hrole : c.role ≠ .sponsorOnly)
    (hg : s.rfg.entry? c.tag = none) (h : ∀ a, ¬s.trims c a) :
    s.enterCold c = s.inCold c (!s.coldPasses c) (s.coldContext c) s.sbc := by
  rw [State.enterCold_eq s hrole, ← State.intoCold_eq hg]
  split
  case isFalse => rfl
  case isTrue ht =>
    obtain ⟨hcontext, hroute, _⟩ := State.intoCold_trims hc hg
    refine State.trimStep_none hcontext ?_
    rw [hroute]
    exact Option.eq_none_iff_forall_not_mem.mpr fun a ha => h a (State.trims_iff.mpr ⟨ht, ha⟩)

/-- At the trim node with every ACCEPT value. -/
theorem State.enterCold_trimmed {s : State} {c : Context} (hc : s.context? c.tag = some c) (hrole : c.role ≠ .sponsorOnly)
    (hg : s.rfg.entry? c.tag = none) {a : Nat} {w : Switch} (ht : s.trims c a) (hw : s.trimComplete c w a) :
    s.enterCold c = s.inCold c (!s.coldPasses c) (fun x => { s.coldContext c x with trim := some (c.trimAt w) })
      (s.fixTrim c.tag a (c.trimAt w).code).2.sbc := by
  obtain ⟨hhere, hatt⟩ := State.trims_iff.mp ht
  obtain ⟨hcontext, hroute, hneeds, houtcome⟩ := State.intoCold_trims hc hg
  rw [State.enterCold_eq s hrole, if_pos hhere,
    State.trimStep_complete hcontext (by rw [hroute]; exact hatt) ((hneeds w a).mpr hw), houtcome, State.intoCold_eq hg,
    s.inCold_onContext c _ (s.coldContext_tag c)]
  exact State.fixTrim_sbc (s := s) (t := s.inCold c _ _ s.sbc) rfl c.tag a (c.trimAt w).code

/-- At the trim node with a value missing. -/
theorem State.enterCold_missing {s : State} {c : Context} (hc : s.context? c.tag = some c) (hrole : c.role ≠ .sponsorOnly)
    (hg : s.rfg.entry? c.tag = none) {a : Nat} (ht : s.trims c a) (hno : ∀ w, ¬s.trimComplete c w a) :
    s.enterCold c = s.inCold c false (fun x => (s.coldContext c x).trimFail) s.sbc := by
  obtain ⟨hhere, hatt⟩ := State.trims_iff.mp ht
  obtain ⟨hcontext, hroute, hneeds, _⟩ := State.intoCold_trims hc hg
  have hend : (s.rfg.opened { s.coldEntry c with watch := !s.coldPasses c }).endWatch c.tag =
      s.rfg.opened { s.coldEntry c with watch := false } :=
    Rfg.opened_setWatch (g := s.rfg) (e := { s.coldEntry c with watch := !s.coldPasses c }) hg false
  rw [State.enterCold_eq s hrole, if_pos hhere,
    State.trimStep_missing hcontext (by rw [hroute]; exact hatt) (fun w hw => hno w ((hneeds w a).mp hw)), State.intoCold_eq hg,
    s.inCold_onContext c _ (s.coldContext_tag c)]
  exact congrArg (fun g => { s.inCold c false (fun x => (s.coldContext c x).trimFail) s.sbc with rfg := g }) hend

/-- What the entry to COLD leaves of the own report, the watch, the trim and the bank. -/
structure State.ColdEnds (s : State) (c d : Context) (watch : Bool) (bank : List Switch) : Prop where
  colds : c.ColdsTo s.cxe.quietTimeout d
  tested : (∀ a, s.trims c a → ∃ w, s.trimComplete c w a) → ∀ v, c.underlying = some (.accept v) →
    (s.coldPasses c = true → d.underlying = some .quiet ∧ d.quietWait = false ∧ watch = false) ∧
      (s.coldPasses c = false → d.underlying = c.underlying ∧ d.quietWait = true ∧ watch = true)
  untrimmed : (∀ a, ¬s.trims c a) → bank = s.sbc ∧ d.trim = c.trim
  trimmed : ∀ a w, s.trims c a → s.trimComplete c w a →
    d.trim = some (c.trimAt w) ∧ bank = (s.fixTrim c.tag a (c.trimAt w).code).2.sbc
  missing : ∀ a, s.trims c a → (∀ w, ¬s.trimComplete c w a) → bank = s.sbc ∧ d.trim = c.trim ∧ watch = false ∧
    ∀ v, c.underlying = some (.accept v) → d.underlying = some (.fail .noAnswer) ∧ d.quietWait = false

/-- An ACCEPT after the quiet test, with the watch the guard entry then has. -/
theorem State.coldContext_tested {s : State} {c : Context} {v : Nat} (h : c.underlying = some (.accept v)) :
    (s.coldPasses c = true → (s.coldContext c c).underlying = some .quiet ∧ (s.coldContext c c).quietWait = false ∧
        (!s.coldPasses c) = false) ∧
      (s.coldPasses c = false → (s.coldContext c c).underlying = c.underlying ∧ (s.coldContext c c).quietWait = true ∧
        (!s.coldPasses c) = true) := by
  obtain ⟨⟨hquiet, hover⟩, hsame, hwait⟩ := Context.toCold_report (quiet := s.cxe.quietTimeout) h
  unfold State.coldContext
  refine ⟨fun hp => ?_, fun hp => ?_⟩ <;> rw [hp]
  · exact ⟨hquiet, hover, rfl⟩
  · exact ⟨hsame, hwait, rfl⟩

theorem State.enterCold_ends {s : State} {c : Context} (hc : s.context? c.tag = some c) (hrole : c.role ≠ .sponsorOnly)
    (hg : s.rfg.entry? c.tag = none) : ∃ watch f bank, s.enterCold c = s.inCold c watch f bank ∧ (∀ x, (f x).tag = x.tag) ∧
      s.ColdEnds c (f c) watch bank := by
  have hcolds := c.toCold_coldsTo s.cxe.quietTimeout (s.coldPasses c)
  by_cases ht : ∃ a, s.trims c a
  case neg =>
    have hno := not_exists.mp ht
    exact ⟨_, _, _, State.enterCold_untrimmed hc hrole hg hno, s.coldContext_tag c, hcolds, fun _ _ => State.coldContext_tested,
      fun _ => ⟨rfl, c.toCold_trim _ _⟩, fun a _ ha => absurd ha (hno a), fun a ha => absurd ha (hno a)⟩
  obtain ⟨a, ha⟩ := ht
  by_cases hw : ∃ w, s.trimComplete c w a
  case pos =>
    obtain ⟨w, hw⟩ := hw
    refine ⟨_, _, _, State.enterCold_trimmed hc hrole hg ha hw, s.coldContext_tag c, hcolds.withTrim _,
      fun _ _ => State.coldContext_tested, fun hno => absurd ha (hno a), fun b v hb hv => ?_, fun b hb hno => ?_⟩
    · obtain rfl := State.trims_unique ha hb
      obtain rfl := Option.some.inj (hw.1.symm.trans hv.1)
      exact ⟨rfl, rfl⟩
    · obtain rfl := State.trims_unique ha hb
      exact absurd hw (hno w)
  case neg =>
    have hno := not_exists.mp hw
    refine ⟨_, _, _, State.enterCold_missing hc hrole hg ha hno, fun x => (Context.trimFail_tag _).trans (s.coldContext_tag c x),
      Context.trimFail_coldsTo hcolds, fun hall => ?_, fun hnone => absurd ha (hnone a), fun b v hb hv => ?_, fun b _ _ => ?_⟩
    · obtain ⟨w, hw⟩ := hall a ha
      exact absurd hw (hno w)
    · obtain rfl := State.trims_unique ha hb
      exact absurd hv (hno v)
    · exact ⟨rfl, (Context.trimFail_trim _).trans (c.toCold_trim _ _), rfl, fun v hv => Context.trimFail_toCold hv _⟩

/-- Settles O47: at a SPONSOR ONLY node by definition, elsewhere by the three ways the entry to COLD ends. -/
theorem entryToColdOpensWindow : Obligations.EntryToColdOpensWindow := by
  intro s c hc
  refine ⟨fun hrole => if_pos hrole, fun hrole hg => ?_⟩
  obtain ⟨watch, f, bank, ht, hf, hends⟩ := State.enterCold_ends hc hrole hg
  have hcontext := State.inCold_context hc hf watch bank
  rw [ht]
  refine ⟨{ s.coldEntry c with watch := watch }, f c, (hcontext c.tag).trans (if_pos rfl), rfl, rfl,
    fun x hx => (hcontext x).trans (if_neg hx), rfl, rfl, rfl, List.nodup_dedup _, List.nodup_dedup _, fun i => State.mem_named,
    fun i => State.mem_named, hends.colds.eq, hends.colds.withdraw, hends.colds.kept,
    fun hall => ⟨fun v hv hp => ?_, fun v hv hp => ?_⟩, hends.untrimmed, hends.trimmed, hends.missing⟩
  · exact (hends.tested hall v hv).1 (State.coldPasses_iff.mpr hp)
  · exact (hends.tested hall v hv).2 (Bool.eq_false_iff.mpr fun h => hp (State.coldPasses_iff.mp h))

end Sys2Proof.Machine
end

section
/-! SUPPORT. A PROPOSE heard: the entry to ANSWER, which reads neither the changeover table nor the Sponsor Unit, and the ways the
hearing ends (R65, R67, R68). -/

namespace Sys2Proof.Machine

/-! ### The checks and the changeover table do not meet -/

/-- The state with another changeover table. -/
def State.withCxe (s : State) (x : Cxe) : State := { s with cxe := x }

theorem State.markRoutes_withCxe (s : State) (x : Cxe) (make : Nat) (brk : Option Nat) (f : Route → Route) :
    (s.withCxe x).markRoutes make brk f = (s.markRoutes make brk f).withCxe x := by
  unfold State.markRoutes
  split
  · split <;> rfl
  · rfl

theorem State.routeCheck_withCxe (s : State) (x : Cxe) (g : Tag) (make : Nat) (brk : Option Nat) (participant trimHere : Bool) :
    (s.withCxe x).routeCheck g make brk participant trimHere =
      ((s.routeCheck g make brk participant trimHere).1, (s.routeCheck g make brk participant trimHere).2.withCxe x) := by
  have hanswer : (s.withCxe x).routeCheckAnswer g.sponsor make brk trimHere = s.routeCheckAnswer g.sponsor make brk trimHere := rfl
  unfold State.routeCheck
  rw [State.markRoutes_withCxe, State.markRoutes_withCxe, hanswer]
  cases participant with
  | false => rfl
  | true => cases s.routeCheckAnswer g.sponsor make brk trimHere <;> rfl

theorem State.claimCheck_withCxe (s : State) (x : Cxe) (g : Tag) (make : Nat) (brk : Option Nat) (trimHere : Bool) :
    (s.withCxe x).claimCheck g make brk trimHere =
      ((s.claimCheck g make brk trimHere).1, (s.claimCheck g make brk trimHere).2.withCxe x) := by
  have hcovered : (s.withCxe x).coveredSet make trimHere = s.coveredSet make trimHere := rfl
  have htest : (s.withCxe x).testSwitch brk = s.testSwitch brk := rfl
  unfold State.claimCheck
  rw [hcovered, htest]
  dsimp only
  split
  · rfl
  · exact congrArg (Prod.mk none) (List.foldl_hom (fun u : State => u.withCxe x) (fun _ _ => rfl))

/-- What this node answers to a PROPOSE: its role, its own report, and what its checks leave (R67, R68). -/
def State.answerTo (s : State) (p : Propose) (n : Nat) : Role × Option Report × State :=
  s.enterAnswer p { sponsor := n, seq := p.seq } (p.participants.contains s.me)

theorem State.answerTo_withCxe (s : State) (x : Cxe) (p : Propose) (n : Nat) :
    (s.withCxe x).answerTo p n = ((s.answerTo p n).1, (s.answerTo p n).2.1, (s.answerTo p n).2.2.withCxe x) := by
  have hme : (s.withCxe x).me = s.me := rfl
  unfold State.answerTo State.enterAnswer
  rw [hme]
  dsimp only
  rw [State.routeCheck_withCxe]
  generalize s.routeCheck _ p.make p.brk (p.participants.contains s.me) (p.trimNode == some s.me) = check
  obtain ⟨answer, u⟩ := check
  cases p.participants.contains s.me with
  | false => rfl
  | true =>
    cases answer with
    | refuse why => rfl
    | breakOnly => rfl
    | marked =>
      have hroute : ∀ b, (u.withCxe x).route? b = u.route? b := fun _ => rfl
      simp only [hroute, State.claimCheck_withCxe, if_true]
      generalize u.claimCheck _ p.make _ (p.trimNode == some s.me) = claim
      obtain ⟨_ | why, v⟩ := claim <;> rfl

/-! ### What the entry to ANSWER leaves (R67, R68) -/

/-- Both checks at a PROPOSE leave everything but the bank and the routes. -/
theorem State.routeCheck_rest (s : State) (g : Tag) (make : Nat) (brk : Option Nat) (participant trimHere : Bool) :
    (s.routeCheck g make brk participant trimHere).2 = { s with rtb := (s.routeCheck g make brk participant trimHere).2.rtb } := by
  have hmark : ∀ f, s.markRoutes make brk f = { s with rtb := (s.markRoutes make brk f).rtb } := fun f => by
    unfold State.markRoutes
    split
    · split <;> rfl
    · rfl
  unfold State.routeCheck
  split
  · split
    · rfl
    · exact hmark _
  · exact hmark _

/-- The route check on a PROPOSE heard at a participant (R30, R67). -/
def State.proposeCheck (s : State) (p : Propose) (n : Nat) : RouteAnswer × State :=
  s.routeCheck { sponsor := n, seq := p.seq } p.make p.brk true (decide (p.trimNode = some s.me))

/-- The claim check that follows it where the routes are marked (R7, R67). -/
def State.proposeClaims (s : State) (p : Propose) (n : Nat) : Option ObjectReason × State :=
  (s.proposeCheck p n).2.claimCheck { sponsor := n, seq := p.seq } p.make (s.knownBreak p) (decide (p.trimNode = some s.me))

theorem State.routeCheck_plan (s : State) (g : Tag) (make : Nat) (brk : Option Nat) (participant trimHere : Bool) (i : Nat) :
    ((s.routeCheck g make brk participant trimHere).2.route? i).map Route.plan = (s.route? i).map Route.plan := by
  have hmark : ∀ f : Route → Route, (∀ r, (f r).plan = r.plan) →
      ((s.markRoutes make brk f).route? i).map Route.plan = (s.route? i).map Route.plan := fun f hf => by
    have hg : ∀ r : Route, (if r.plan.id = make ∨ brk = some r.plan.id then f r else r).plan = r.plan := fun r => by
      split
      · exact hf r
      · rfl
    rw [State.markRoutes_eq s make brk f hf, State.route_onRoutes s i _ (fun r => congrArg RoutePlan.id (hg r)), Option.map_map]
    exact congrFun (congrArg Option.map (funext hg)) _
  unfold State.routeCheck
  split
  · split
    · rfl
    · exact hmark _ fun _ => rfl
  · exact hmark _ fun r => by unfold Route.markFree; split <;> rfl

theorem State.proposeCheck_knownBreak (s : State) (p : Propose) (n : Nat) : (s.proposeCheck p n).2.knownBreak p = s.knownBreak p := by
  have hsome : ∀ b, ((s.proposeCheck p n).2.route? b).isSome = (s.route? b).isSome := fun b => by
    have := congrArg Option.isSome (s.routeCheck_plan { sponsor := n, seq := p.seq } p.make p.brk true (decide (p.trimNode = some s.me)) b)
    rwa [Option.isSome_map, Option.isSome_map] at this
  unfold State.knownBreak
  simp only [hsome]

/-- The segment loss is that of the route's plan and its table (R111, R112). -/
theorem State.segmentLoss_congr {s t : State} {make : Nat} (hr : (t.route? make).map Route.plan = (s.route? make).map Route.plan)
    (hl : t.ltu = s.ltu) (f : Nat) : t.segmentLoss make f = s.segmentLoss make f := by
  have hbind : ∀ u : State, (u.route? make).bind (fun r => r.plan.table) = ((u.route? make).map Route.plan).bind RoutePlan.table :=
    fun u => by cases u.route? make <;> rfl
  unfold State.segmentLoss
  rw [hbind t, hbind s, hr, hl]

theorem State.segmentLoss_spec (s : State) (make f : Nat) :
    ((∀ r, s.route? make = some r → r.plan.table = none) → s.segmentLoss make f = 0) ∧
      ∀ r n table, s.route? make = some r → r.plan.table = some n → s.ltu.find? (fun x => x.index == n) = some table →
        s.segmentLoss make f = tableLoss f table.points := by
  unfold State.segmentLoss
  refine ⟨fun h => ?_, fun r n table hr hn ht => ?_⟩
  · cases hr : s.route? make with
    | none => rfl
    | some r => rw [Option.bind_some, h r hr]
  · rw [hr, Option.bind_some, hn]
    dsimp only
    rw [ht]

theorem State.proposeClaims_rest (s : State) (p : Propose) (n : Nat) :
    (s.proposeClaims p n).2 = { (s.proposeCheck p n).2 with sbc := (s.proposeClaims p n).2.sbc } :=
  State.claimCheck_rest _ _ _ _ _

section
variable {s : State} {p : Propose} {n : Nat}

/-- At a sponsor that is no participant: the routes not busy marked, no report (R67). -/
theorem State.answerTo_absent (h : s.me ∉ p.participants) : s.answerTo p n =
    (.sponsorOnly, none, (s.routeCheck { sponsor := n, seq := p.seq } p.make p.brk false (decide (p.trimNode = some s.me))).2) := by
  unfold State.answerTo State.enterAnswer
  simp only [beq_eq_decide, List.contains_eq_mem, h, decide_false, Bool.false_eq_true, if_false]

theorem State.answerTo_refused (hme : s.me ∈ p.participants) {why : ObjectReason} (h : (s.proposeCheck p n).1 = .refuse why) :
    s.answerTo p n = (.participant, some (.object why), s) := by
  have hcheck : s.proposeCheck p n = (.refuse why, s) := by
    unfold State.proposeCheck State.routeCheck at h ⊢
    rw [if_pos rfl] at h ⊢
    split at h
    · exact congrArg (fun answer => (answer, s)) h
    case h_2 hno => exact (hno why h).elim
  unfold State.proposeCheck at hcheck
  unfold State.answerTo State.enterAnswer
  simp only [beq_eq_decide, List.contains_eq_mem, hme, decide_true, if_true, hcheck]

theorem State.answerTo_breakOnly (hme : s.me ∈ p.participants) (h : (s.proposeCheck p n).1 = .breakOnly) :
    s.answerTo p n = (.breakOnly, some (if decide (p.trimNode = some s.me) = true then .object .noTrim else .accept 0),
      (s.proposeCheck p n).2) := by
  have hcheck : s.proposeCheck p n = (.breakOnly, (s.proposeCheck p n).2) := Prod.ext h rfl
  generalize (s.proposeCheck p n).2 = u at hcheck ⊢
  unfold State.proposeCheck at hcheck
  unfold State.answerTo State.enterAnswer
  simp only [beq_eq_decide, List.contains_eq_mem, hme, decide_true, if_true, hcheck]

/-- Where the routes are marked the claim check decides between OBJECT and ACCEPT (R67). -/
theorem State.answerTo_marked (hme : s.me ∈ p.participants) (h : (s.proposeCheck p n).1 = .marked) :
    s.answerTo p n = (.participant,
      some (((s.proposeClaims p n).1.map Report.object).getD (.accept (s.segmentLoss p.make p.frequency))),
      (s.proposeClaims p n).2) := by
  have hloss : (s.proposeClaims p n).2.segmentLoss p.make p.frequency = s.segmentLoss p.make p.frequency := by
    rw [State.proposeClaims_rest]
    show (s.proposeCheck p n).2.segmentLoss p.make p.frequency = _
    refine State.segmentLoss_congr (s.routeCheck_plan _ _ _ _ _ _) ?_ p.frequency
    rw [State.routeCheck_rest]
  have hcheck : s.proposeCheck p n = (.marked, (s.proposeCheck p n).2) := Prod.ext h rfl
  have hknown := s.proposeCheck_knownBreak p n
  unfold State.proposeClaims at hloss ⊢
  generalize (s.proposeCheck p n).2 = u at hcheck hknown hloss ⊢
  unfold State.proposeCheck at hcheck
  unfold State.answerTo State.enterAnswer
  rw [← hknown] at hloss ⊢
  unfold State.knownBreak at hloss ⊢
  simp only [beq_eq_decide, List.contains_eq_mem, hme, decide_true, if_true, hcheck]
  generalize u.claimCheck _ p.make _ _ = claim at hloss
  obtain ⟨_ | why, v⟩ := claim
  · dsimp only at hloss ⊢
    rw [hloss]
    rfl
  · rfl

/-- Of the node the entry to ANSWER changes the bank and the routes alone, and its report is none, an OBJECT or an ACCEPT. -/
theorem State.answerTo_spec : (s.answerTo p n).2.2 = { s with sbc := (s.answerTo p n).2.2.sbc, rtb := (s.answerTo p n).2.2.rtb } ∧
    ((s.answerTo p n).2.1 = none ∨ (∃ why, (s.answerTo p n).2.1 = some (.object why)) ∨ ∃ v, (s.answerTo p n).2.1 = some (.accept v)) := by
  by_cases hme : s.me ∈ p.participants
  case neg =>
    rw [State.answerTo_absent hme]
    refine ⟨?_, .inl rfl⟩
    rw [State.routeCheck_rest]
  case pos =>
    have hcheck : (s.proposeCheck p n).2 = { s with rtb := (s.proposeCheck p n).2.rtb } := State.routeCheck_rest _ _ _ _ _ _
    cases h : (s.proposeCheck p n).1 with
    | refuse why => rw [State.answerTo_refused hme h]; exact ⟨rfl, .inr (.inl ⟨why, rfl⟩)⟩
    | breakOnly =>
      rw [State.answerTo_breakOnly hme h]
      refine ⟨by rw [hcheck], .inr ?_⟩
      split
      · exact .inl ⟨_, rfl⟩
      · exact .inr ⟨_, rfl⟩
    | marked =>
      rw [State.answerTo_marked hme h]
      refine ⟨by rw [State.proposeClaims_rest, hcheck], .inr ?_⟩
      cases (s.proposeClaims p n).1 with
      | none => exact .inr ⟨_, rfl⟩
      | some why => exact .inl ⟨why, rfl⟩

end

end Sys2Proof.Machine
end

section
/-! SUPPORT. The ways a PROPOSE heard ends: passed over, rejected, not placed, or opened (R64, R65, R135, R139). -/

namespace Sys2Proof.Machine

/-! ### The tests of R65 -/

/-- A PROPOSE whose contents disagree (R65 step 2). -/
def Propose.disagrees (p : Propose) : Prop :=
  ¬p.participants.Nodup ∨ (∃ n, p.trimNode = some n ∧ n ∉ p.participants) ∨ (p.trimNode = none ∧ p.target ≠ none) ∨
    (p.trimNode ≠ none ∧ p.target = none)

theorem Propose.inconsistent_iff (p : Propose) : p.inconsistent = true ↔ p.disagrees := by
  unfold Propose.inconsistent Propose.disagrees
  cases p.trimNode <;> cases p.target <;> simp

/-- A PROPOSE that names a tag the table holds already, or whose contents disagree (R65 steps 2 and 3). -/
def State.rejects (s : State) (sponsor : Nat) (p : Propose) : Prop :=
  p.disagrees ∨ ∃ c ∈ s.cxe.contexts, c.tag = { sponsor := sponsor, seq := p.seq }

theorem State.context_isSome_iff (s : State) (g : Tag) : (s.context? g).isSome = true ↔ ∃ c ∈ s.cxe.contexts, c.tag = g := by
  simp [State.context?]

theorem State.rejects_iff (s : State) (sponsor : Nat) (p : Propose) :
    s.rejects sponsor p ↔ (p.inconsistent || (s.context? { sponsor := sponsor, seq := p.seq }).isSome) = true := by
  rw [Bool.or_eq_true, Propose.inconsistent_iff, State.context_isSome_iff]
  rfl

theorem State.placeFree_iff (s : State) : s.placeFree = true ↔ s.cxe.contexts.length + s.cxe.reservations.length < 6 :=
  decide_eq_true_iff

section
variable {s : State} {sponsor : Nat} {p : Propose}

/-- A PROPOSE of another node that does not name this one is passed over (R65 step 1). -/
theorem State.proposeHeard_passedOver (hme : s.me ∉ p.participants) (hs : sponsor ≠ s.me) : s.proposeHeard sponsor p = s := by
  unfold State.proposeHeard
  simp [hme, hs]

theorem State.proposeHeard_here (h : s.me ∈ p.participants ∨ sponsor = s.me) :
    (!p.participants.contains s.me && !(sponsor == s.me)) = false := by
  rcases h with h | h <;> simp [h]

theorem State.proposeHeard_rejected (hme : s.me ∈ p.participants) (hs : sponsor ≠ s.me) (h : s.rejects sponsor p) :
    s.proposeHeard sponsor p = s.countRejected := by
  unfold State.proposeHeard
  dsimp only
  rw [State.proposeHeard_here (.inl hme), (s.rejects_iff sponsor p).mp h, beq_eq_false_iff_ne.mpr hs]
  rfl

theorem State.proposeHeard_unplaced (hme : s.me ∈ p.participants) (hs : sponsor ≠ s.me) (h : ¬s.rejects sponsor p)
    (hfull : 6 ≤ s.cxe.contexts.length + s.cxe.reservations.length) : s.proposeHeard sponsor p = s.countUnplaced := by
  have hplace : s.placeFree = false := Bool.eq_false_iff.mpr fun hp => Nat.not_lt.mpr hfull (s.placeFree_iff.mp hp)
  unfold State.proposeHeard
  dsimp only
  rw [State.proposeHeard_here (.inl hme), Bool.eq_false_iff.mpr (mt (s.rejects_iff sponsor p).mpr h), beq_eq_false_iff_ne.mpr hs]
  simp only [Bool.false_eq_true, if_false, hplace]

theorem State.proposeHeard_opened (hme : s.me ∈ p.participants) (hs : sponsor ≠ s.me) (h : ¬s.rejects sponsor p)
    (hfree : s.cxe.contexts.length + s.cxe.reservations.length < 6) : s.proposeHeard sponsor p = s.openContext p sponsor := by
  unfold State.proposeHeard
  dsimp only
  rw [State.proposeHeard_here (.inl hme), Bool.eq_false_iff.mpr (mt (s.rejects_iff sponsor p).mpr h), beq_eq_false_iff_ne.mpr hs]
  simp only [Bool.false_eq_true, if_false, s.placeFree_iff.mpr hfree, if_true]

theorem State.endReservation_sent {name : SlotName} (h : s.sentSlot? = some name) : s.endReservation = s.unreserve name := by
  unfold State.endReservation
  rw [h]

/-- The node's own PROPOSE rejected: the slot's reservation ends, and its request is not opened (R64, R135). -/
theorem State.proposeHeard_ownRejected {name : SlotName} (hs : sponsor = s.me) (hsent : s.sentSlot? = some name)
    (h : s.rejects sponsor p) : s.proposeHeard sponsor p = (s.countRejected.unreserve name).proposeNotOpened := by
  unfold State.proposeHeard
  dsimp only
  rw [State.proposeHeard_here (.inr hs), (s.rejects_iff sponsor p).mp h, beq_iff_eq.mpr hs,
    State.endReservation_sent (s := s.countRejected) hsent]
  rfl

/-- The node's own PROPOSE opened in its slot's reservation (R64, R135). -/
theorem State.proposeHeard_ownOpened {name : SlotName} (hs : sponsor = s.me) (hsent : s.sentSlot? = some name)
    (h : ¬s.rejects sponsor p) (hfree : s.cxe.contexts.length + (s.cxe.reservations.filter (fun n => n != name)).length < 6) :
    s.proposeHeard sponsor p = ((s.unreserve name).openContext p sponsor).proposeOpened := by
  have hplace : (s.unreserve name).placeFree = true := (s.unreserve name).placeFree_iff.mpr hfree
  unfold State.proposeHeard
  dsimp only
  rw [State.proposeHeard_here (.inr hs), Bool.eq_false_iff.mpr (mt (s.rejects_iff sponsor p).mpr h), beq_iff_eq.mpr hs,
    State.endReservation_sent hsent]
  simp only [Bool.false_eq_true, if_false, if_true, hplace]

end

/-! ### The context opened -/

/-- The context a PROPOSE opens here (R65 step 5). -/
def State.answering (s : State) (p : Propose) (n : Nat) : Context :=
  { p.context n (s.answerTo p n).1 with report := (s.answerTo p n).2.1 }

/-- The state in which a PROPOSE has opened its context, the slot not yet told, under a table that differs by its reservations. -/
def State.opening (s : State) (p : Propose) (n : Nat) (reservations : List SlotName) (stands : Context → Context) : State :=
  { (s.answerTo p n).2.2 with
    cxe := { s.cxe with contexts := s.cxe.contexts ++ [stands (s.answering p n)], reservations := reservations } }

theorem State.openContext_eq (s : State) (p : Propose) (n : Nat) :
    s.openContext p n = s.opening p n s.cxe.reservations id := by
  have hcxe : (s.answerTo p n).2.2.cxe = s.cxe := by rw [State.answerTo_spec.1]
  show ({ (s.answerTo p n).2.2 with
    cxe := { (s.answerTo p n).2.2.cxe with
      contexts := (s.answerTo p n).2.2.cxe.contexts ++ [s.answering p n] } } : State) = _
  rw [hcxe]
  rfl

theorem State.openContext_unreserve (s : State) (name : SlotName) (p : Propose) (n : Nat) :
    (s.unreserve name).openContext p n = s.opening p n (s.cxe.reservations.filter (fun x => x != name)) id := by
  have hanswer := s.answerTo_withCxe (s.unreserve name).cxe p n
  have hsame : s.withCxe (s.unreserve name).cxe = s.unreserve name := rfl
  rw [hsame] at hanswer
  rw [State.openContext_eq]
  unfold State.opening State.answering
  rw [hanswer]
  rfl

theorem State.opening_rest (s : State) (p : Propose) (n : Nat) (reservations : List SlotName) (stands : Context → Context) :
    s.opening p n reservations stands = { s with
      sbc := (s.answerTo p n).2.2.sbc
      rtb := (s.answerTo p n).2.2.rtb
      cxe := (s.opening p n reservations stands).cxe } := by
  unfold State.opening
  rw [State.answerTo_spec.1]

/-! ### The slot told (R135, R139) -/

/-- A WITHDRAW put on a context: its own report kept aside, unless it is an OBJECT, which stays (R86; log 28). -/
def Context.withdrawn (c : Context) : Context :=
  { c with withdrawal := .pending, kept := c.report, report := (match c.report with
    | some (.object why) => some (.object why)
    | _ => some .withdraw) }

/-- On the report a context opens with, that is the withdrawal of R86. -/
theorem State.answering_withdraw (s : State) (p : Propose) (n : Nat) :
    (s.answering p n).withdraw = (s.answering p n).withdrawn := by
  have hreport : (s.answering p n).report = (s.answerTo p n).2.1 := rfl
  unfold Context.withdraw Context.withdrawn
  rw [hreport]
  rcases State.answerTo_spec (s := s) (p := p) (n := n) with ⟨_, h | ⟨why, h⟩ | ⟨v, h⟩⟩ <;> rw [h] <;> rfl

/-- With no cancel waiting the slot enters OPEN (R135). -/
theorem State.proposeOpened_plain {t : State} {name : SlotName} (hsent : t.sentSlot? = some name)
    (hcancel : (t.slot name).cancel ≠ .waiting) :
    t.proposeOpened = t.setSlot name { t.slot name with state := .opened } := by
  unfold State.proposeOpened
  rw [hsent]
  dsimp only
  split
  case h_1 hw _ => exact absurd hw hcancel
  case h_2 => rfl

/-- A cancel that waited is passed on with the slot's tag (R139). -/
theorem State.proposeOpened_cancelled {t u : State} {name : SlotName} {g : Tag} (hsent : t.sentSlot? = some name)
    (hcancel : (t.slot name).cancel = .waiting) (htag : (t.slot name).tag = some g) (hcxe : t.cxeCancel g = (.taken, u)) :
    t.proposeOpened = u.setSlot name { t.slot name with state := .opened, cancel := .taken } := by
  unfold State.proposeOpened
  rw [hsent]
  dsimp only
  rw [hcancel, htag]
  dsimp only
  rw [hcxe]
  rfl

/-- The cancel finds the context just opened and withdraws it (R86). -/
theorem State.opening_cancelled {s : State} {p : Propose} {n : Nat} (reservations : List SlotName)
    (hnew : ∀ c ∈ s.cxe.contexts, c.tag ≠ { sponsor := n, seq := p.seq }) :
    (s.opening p n reservations id).cxeCancel { sponsor := n, seq := p.seq } =
      (.taken, s.opening p n reservations Context.withdrawn) := by
  have hfind : (s.opening p n reservations id).context? { sponsor := n, seq := p.seq } = some (s.answering p n) := by
    have hold : s.cxe.contexts.find? (fun c => c.tag == { sponsor := n, seq := p.seq }) = none :=
      List.find?_eq_none.mpr fun c hc => by simpa using hnew c hc
    show (s.cxe.contexts ++ [s.answering p n]).find? _ = _
    rw [List.find?_append, hold]
    simp [State.answering, Propose.context]
  have hmap : s.cxe.contexts.map (fun c => if c.tag = { sponsor := n, seq := p.seq } then c.withdraw else c) = s.cxe.contexts :=
    (List.map_congr_left fun c hc => if_neg (hnew c hc)).trans (List.map_id' _)
  have hon : (s.opening p n reservations id).onContext { sponsor := n, seq := p.seq } Context.withdraw =
      s.opening p n reservations Context.withdrawn := by
    unfold State.onContext State.opening
    dsimp only
    rw [List.map_append, hmap, List.map_singleton, ← State.answering_withdraw,
      if_pos (show (id (s.answering p n)).tag = { sponsor := n, seq := p.seq } from rfl)]
    rfl
  unfold State.cxeCancel
  rw [hfind]
  exact congrArg (Prod.mk CxeCancel.taken) hon

theorem Propose.kind_eq (p : Propose) : p.kind = if p.brk = none then .make else if p.brk = some p.make then .retrim else .exchange := by
  unfold Propose.kind
  cases p.brk with
  | none => rfl
  | some b => simp

theorem State.opening_spu (s : State) (p : Propose) (n : Nat) (reservations : List SlotName) (stands : Context → Context) :
    (s.opening p n reservations stands).spu = s.spu := by
  rw [State.opening_rest]

/-- Writing a slot is writing the Sponsor Unit. -/
theorem State.setSlot_eq {s t : State} (h : t.spu = s.spu) (name : SlotName) (x : SponsorSlot) :
    t.setSlot name x = { t with spu := (s.setSlot name x).spu } := by
  cases name <;> simp only [State.setSlot, h]

/-- A claim check that refuses grants nothing (R7). -/
theorem State.claimCheck_refused {s : State} {g : Tag} {make : Nat} {brk : Option Nat} {trimHere : Bool} {why : ObjectReason}
    (h : (s.claimCheck g make brk trimHere).1 = some why) : (s.claimCheck g make brk trimHere).2 = s := by
  unfold State.claimCheck at h ⊢
  dsimp only at h ⊢
  split at h
  · rfl
  · cases h

/-- Settles O45: the tests of R65 one by one, and where they pass the context that opens, described by `State.answerTo`. -/
theorem proposeHeardOpensOrCounts : Obligations.ProposeHeardOpensOrCounts := by
  intro s sponsor p tag t trimHere check claim disagrees withdrawn opened
  have hopened : ∀ reservations stands spu, t = { s.opening p sponsor reservations stands with spu := spu } →
      opened reservations stands := by
    intro reservations stands spu ht
    rw [State.opening_rest] at ht
    have hsbc : t.sbc = (s.answerTo p sponsor).2.2.sbc := by rw [ht]
    have hrtb : t.rtb = (s.answerTo p sponsor).2.2.rtb := by rw [ht]
    refine ⟨s.answering p sponsor, by rw [ht]; rfl, rfl, rfl, rfl, rfl, rfl, rfl, rfl, rfl, rfl, rfl, p.kind_eq, rfl, rfl, rfl, rfl,
      rfl, rfl, rfl, rfl, rfl, rfl, rfl, rfl, fun hme => ?_,
      fun hme => ⟨fun why hwhy => ?_, fun hbreak => ?_, fun hmarked => ?_⟩, by rw [ht], by rw [ht],
      by rw [ht], (s.keeps_iff _).mpr (s.proposeHeard_planSide sponsor p)⟩
    · have hanswer := State.answerTo_absent (n := sponsor) hme
      rw [hanswer] at hsbc hrtb
      refine ⟨congrArg Prod.fst hanswer, congrArg (fun x => x.2.1) hanswer, hsbc.trans ?_, hrtb⟩
      rw [State.routeCheck_rest]
    · have hanswer := State.answerTo_refused (n := sponsor) hme hwhy
      rw [hanswer] at hsbc hrtb
      exact ⟨congrArg Prod.fst hanswer, congrArg (fun x => x.2.1) hanswer, hsbc, hrtb⟩
    · have hanswer := State.answerTo_breakOnly (n := sponsor) hme hbreak
      rw [hanswer] at hsbc hrtb
      refine ⟨congrArg Prod.fst hanswer, hsbc.trans ?_, hrtb, congrArg (fun x => x.2.1) hanswer⟩
      rw [State.proposeCheck, State.routeCheck_rest]
    · have hanswer := State.answerTo_marked (n := sponsor) hme hmarked
      have hreport := congrArg (fun x => x.2.1) hanswer
      rw [hanswer] at hsbc hrtb
      refine ⟨congrArg Prod.fst hanswer, hrtb.trans ?_, fun why hwhy => ⟨hreport.trans ?_, hsbc.trans ?_⟩, fun hnone => ⟨hsbc, ?_⟩⟩
      · rw [State.proposeClaims_rest]; rfl
      · rw [show (s.proposeClaims p sponsor).1 = some why from hwhy]; rfl
      · have hnothing : (s.proposeClaims p sponsor).2 = (s.proposeCheck p sponsor).2 := State.claimCheck_refused hwhy
        rw [hnothing, State.proposeCheck, State.routeCheck_rest]
      · obtain ⟨hno, htable⟩ := s.segmentLoss_spec p.make p.frequency
        refine ⟨s.segmentLoss p.make p.frequency, hreport.trans ?_, hno, htable⟩
        rw [show (s.proposeClaims p sponsor).1 = none from hnone]; rfl
  have hfresh : ¬disagrees → (∀ c ∈ s.cxe.contexts, c.tag ≠ tag) → ¬s.rejects sponsor p := fun hd hc hr =>
    hr.elim hd fun ⟨c, hmem, htag⟩ => hc c hmem htag
  refine ⟨fun hme hs => State.proposeHeard_passedOver hme hs, fun hme hs h => State.proposeHeard_rejected hme hs h,
    fun hme hs hd hc => ⟨fun hfull => State.proposeHeard_unplaced hme hs (hfresh hd hc) hfull, fun hfree => ?_⟩,
    fun name hs hstate hsent hfirst => ?_⟩
  · have hspu := s.opening_spu p sponsor s.cxe.reservations id
    have ht : t = s.opening p sponsor s.cxe.reservations id :=
      (State.proposeHeard_opened hme hs (hfresh hd hc) hfree).trans (s.openContext_eq p sponsor)
    refine ⟨hopened _ _ s.spu (ht.trans ?_), by rw [ht, hspu]⟩
    rw [← hspu]
  have hslot : s.sentSlot? = some name := State.sentSlot_of hstate hsent hfirst
  refine ⟨fun h => State.proposeHeard_ownRejected hs hslot h, fun hd hc hfree => ?_⟩
  have hspu := s.opening_spu p sponsor (s.cxe.reservations.filter (fun n => n != name))
  have hread : ∀ stands, (s.opening p sponsor (s.cxe.reservations.filter (fun n => n != name)) stands).slot name = s.slot name :=
    fun stands => by cases name <;> simp only [State.slot, hspu]
  have hsending : (s.opening p sponsor (s.cxe.reservations.filter (fun n => n != name)) id).sentSlot? = some name := by
    unfold State.sentSlot? at hslot ⊢
    rw [hspu]
    exact hslot
  have ht : t = (s.opening p sponsor (s.cxe.reservations.filter (fun n => n != name)) id).proposeOpened :=
    (State.proposeHeard_ownOpened hs hslot (hfresh hd hc) hfree).trans (congrArg State.proposeOpened (s.openContext_unreserve name p sponsor))
  refine ⟨fun hcancel => ?_, fun hcancel htag => ?_⟩
  · rw [State.proposeOpened_plain hsending (by rw [hread, hcancel]; exact nofun), hread, State.setSlot_eq (hspu id)] at ht
    exact ⟨hopened _ _ _ ht, by rw [ht]⟩
  · rw [State.proposeOpened_cancelled hsending (by rw [hread, hcancel]) (by rw [hread, htag]) (State.opening_cancelled _ hc), hread,
      State.setSlot_eq (hspu Context.withdrawn)] at ht
    exact ⟨hopened _ _ _ ht, by rw [ht]⟩

end Sys2Proof.Machine
end

section
/-! SUPPORT. The phase tests on a stage entry, one lemma per way they go on (R71, R73, R77, R80). -/

namespace Sys2Proof.Machine

/-! ### The context at an entry to COLD and to MOVE -/

/-- The trim step leaves the context in COLD, its standing as it was. -/
theorem State.trimStep_coldsTo {s : State} {g : Tag} {c d : Context} {quiet : Nat} (hd : s.context? g = some d)
    (h : c.ColdsTo quiet d) : ∃ e, (s.trimStep g).context? g = some e ∧ c.ColdsTo quiet e := by
  have hchanged : ∀ f : Context → Context, (∀ x, (f x).tag = x.tag) → (s.onContext g f).context? g = some (f d) := fun f hf => by
    rw [State.context_onContext s g g f hf, if_pos rfl, hd]; rfl
  cases hatt : (s.route? d.make).bind (fun r => r.plan.trimAttenuator) with
  | none => exact ⟨d, by rw [State.trimStep_none hd hatt, hd], h⟩
  | some a =>
    by_cases hw : ∃ w, s.trimComplete d w a
    · obtain ⟨w, hw⟩ := hw
      rw [State.trimStep_complete hd hatt hw, State.fixTrim_sbc rfl]
      exact ⟨_, hchanged _ fun _ => rfl, h.withTrim _⟩
    · rw [State.trimStep_missing hd hatt (not_exists.mp hw)]
      exact ⟨_, hchanged _ Context.trimFail_tag, Context.trimFail_coldsTo h⟩

/-- At every node an entry to COLD leaves the context in COLD, its standing as it was (R75). -/
theorem State.enterCold_found {s : State} {c : Context} (hc : s.context? c.tag = some c) :
    ∃ d, (s.enterCold c).context? c.tag = some d ∧ d.phase = .cold ∧ d.standing = c.standing := by
  by_cases hrole : c.role = .sponsorOnly
  · refine ⟨{ c with phase := .cold }, ?_, rfl, rfl⟩
    unfold State.enterCold
    rw [if_pos hrole, State.context_onContext s c.tag c.tag (fun x => { x with phase := .cold }) (fun _ => rfl), if_pos rfl, hc]
    rfl
  have hinto : (s.intoCold c).context? c.tag = some (c.toCold s.cxe.quietTimeout (s.coldTest c).1) := by
    refine (State.context_onContext _ c.tag c.tag _ fun x => (x.toCold_kept _ _).1).trans ?_
    rw [if_pos rfl]
    exact congrArg (Option.map _) hc
  have hcolds := c.toCold_coldsTo s.cxe.quietTimeout (s.coldTest c).1
  have hended : ∃ d, (s.enterCold c).context? c.tag = some d ∧ c.ColdsTo s.cxe.quietTimeout d := by
    rw [State.enterCold_eq s hrole]
    split
    · exact State.trimStep_coldsTo hinto hcolds
    · exact ⟨_, hinto, hcolds⟩
  obtain ⟨d, hd, hcold⟩ := hended
  exact ⟨d, hd, congrArg Context.phase hcold.eq, hcold.reads.2.1⟩

theorem Context.MovesTo.standing {x y : Context} (h : x.MovesTo y) : y.standing = x.standing :=
  show y.steady.standing = x.steady.standing from congrArg Context.standing h.steady

/-- An entry to MOVE leaves the context in MOVE, its standing as it was (R78). -/
theorem State.enterMove_found {s : State} {c : Context} (hc : s.context? c.tag = some c) :
    ∃ d, (s.enterMove c).context? c.tag = some d ∧ d.phase = .move ∧ d.standing = c.standing := by
  have hmoves := Context.movesTo_moved (s.moveAnswers c) c
  refine ⟨c.moved (s.moveAnswers c), ?_, hmoves.phase, hmoves.standing⟩
  rw [State.enterMove_context, if_pos rfl, hc]
  rfl

/-! ### The tally (R73, R77, R80) -/

theorem Context.allAt_iff {c : Context} {rank : Rank} {ranks : List Rank} (h : ∀ r : Rank, rank.level ≤ r.level ↔ r ∈ ranks) :
    c.allAt rank = true ↔ ∀ x ∈ c.standing, x.rank ∈ ranks := by
  simp only [Context.allAt, List.all_eq_true, decide_eq_true_eq, h]

theorem Context.allAt_accept {c : Context} : c.allAt .accept = true ↔ ∀ x ∈ c.standing, x.rank ∈ [Rank.accept, .quiet, .settled] :=
  Context.allAt_iff fun r => by cases r <;> decide
theorem Context.allAt_quiet {c : Context} : c.allAt .quiet = true ↔ ∀ x ∈ c.standing, x.rank ∈ [Rank.quiet, .settled] :=
  Context.allAt_iff fun r => by cases r <;> decide
theorem Context.allAt_settled {c : Context} : c.allAt .settled = true ↔ ∀ x ∈ c.standing, x.rank ∈ [Rank.settled] :=
  Context.allAt_iff fun r => by cases r <;> decide

theorem Context.allAt_mono {c : Context} {low high : Rank} (h : low.level ≤ high.level) (hall : c.allAt high = true) :
    c.allAt low = true := by
  simp only [Context.allAt, List.all_eq_true, decide_eq_true_eq] at hall ⊢
  exact fun x hx => h.trans (hall x hx)

/-- The tally reads the standing alone. -/
theorem Context.allAt_congr {c d : Context} (h : d.standing = c.standing) (rank : Rank) : d.allAt rank = c.allAt rank := by
  unfold Context.allAt
  rw [h]

theorem Context.isOpen_iff {c : Context} : c.isOpen = true ↔ (c.phase = .answer ∨ c.phase = .cold) ∨ c.phase = .move := by
  simp [Context.isOpen]

/-! ### The phase tests -/

/-- An entry that closes no context in a phase closes none in a later one. -/
theorem Voice.close_cold {v : Voice} (h : v.close .answer = none) : v.close .cold = none := h

theorem Voice.close_move {v : Voice} (h : v.close .cold = none) : v.close .move = none := by
  unfold Voice.close at h ⊢
  cases hr : v.report <;> simp_all

section
variable {v : Voice} {g : Tag} {s : State} {c : Context} (hc : s.context? g = some c)
include hc

theorem State.testPhases_closes (hopen : c.isOpen = true) {record : CloseRecord} (hv : v.close c.phase = some record) (fuel : Nat) :
    State.testPhases v g (fuel + 1) s = s.closeFailed c record := by
  unfold State.testPhases
  rw [hc]
  simp only [hopen, hv, Bool.not_true, Bool.false_eq_true, if_false]

/-- The tests on a context the entry does not close, as its phase says. -/
theorem State.testPhases_open (hopen : c.isOpen = true) (hv : v.close c.phase = none) (fuel : Nat) :
    State.testPhases v g (fuel + 1) s =
      if c.phase = .answer ∧ c.allAt .accept = true then State.testPhases v g fuel (s.enterCold c)
      else if c.phase = .cold ∧ c.allAt .quiet = true then State.testPhases v g fuel (s.enterMove c)
      else if c.phase = .move ∧ c.allAt .settled = true then s.enterDone c
      else s := by
  rw [State.testPhases, hc]
  simp only [hopen, hv, Bool.not_true, Bool.false_eq_true, if_false]

theorem State.testPhases_answer (hp : c.phase = .answer) (hv : v.close .answer = none) (fuel : Nat) :
    State.testPhases v g (fuel + 1) s = if c.allAt .accept = true then State.testPhases v g fuel (s.enterCold c) else s := by
  rw [State.testPhases_open hc (Context.isOpen_iff.mpr (.inl (.inl hp))) (hp ▸ hv)]
  simp [hp]

theorem State.testPhases_cold (hp : c.phase = .cold) (hv : v.close .cold = none) (fuel : Nat) :
    State.testPhases v g (fuel + 1) s = if c.allAt .quiet = true then State.testPhases v g fuel (s.enterMove c) else s := by
  rw [State.testPhases_open hc (Context.isOpen_iff.mpr (.inl (.inr hp))) (hp ▸ hv)]
  simp [hp]

theorem State.testPhases_move (hp : c.phase = .move) (hv : v.close .move = none) (fuel : Nat) :
    State.testPhases v g (fuel + 1) s = if c.allAt .settled = true then s.enterDone c else s := by
  rw [State.testPhases_open hc (Context.isOpen_iff.mpr (.inr hp)) (hp ▸ hv)]
  simp [hp]

/-- From COLD with every standing QUIET the tests take one phase or two. -/
theorem State.testPhases_fromCold (hp : c.phase = .cold) (hv : v.close .cold = none) (hq : c.allAt .quiet = true) (fuel : Nat) :
    ∃ d, (s.enterMove c).context? g = some d ∧ State.testPhases v g (fuel + 2) s =
      if c.allAt .settled = true then (s.enterMove c).enterDone d else s.enterMove c := by
  obtain rfl := (State.context_spec hc).2
  obtain ⟨d, hd, hmove, hstanding⟩ := State.enterMove_found hc
  refine ⟨d, hd, ?_⟩
  rw [State.testPhases_cold hc hp hv, if_pos hq, State.testPhases_move hd hmove (Voice.close_move hv), Context.allAt_congr hstanding]

/-- From ANSWER with every standing ACCEPT the tests go on in COLD, with the same tally. -/
theorem State.testPhases_fromAnswer (hp : c.phase = .answer) (hv : v.close .answer = none) (ha : c.allAt .accept = true) :
    ∃ d, (s.enterCold c).context? g = some d ∧ d.phase = .cold ∧ (∀ rank, d.allAt rank = c.allAt rank) ∧
      ∀ fuel, State.testPhases v g (fuel + 1) s = State.testPhases v g fuel (s.enterCold c) := by
  obtain rfl := (State.context_spec hc).2
  obtain ⟨d, hd, hcold, hstanding⟩ := State.enterCold_found hc
  exact ⟨d, hd, hcold, Context.allAt_congr hstanding, fun fuel => by rw [State.testPhases_answer hc hp hv, if_pos ha]⟩

end

end Sys2Proof.Machine
end

section
/-! SUPPORT. A stage entry taken, and the contexts a participant's record leaves out (R71, R72). -/

namespace Sys2Proof.Machine

/-! ### The standing raised (R71) -/

theorem Standing.raise_quiet (x : Standing) :
    x.raise .quiet = if x.rank = .none ∨ x.rank = .accept then { x with rank := .quiet } else x := by
  obtain ⟨node, rank, accept, settled⟩ := x
  cases rank <;> rfl

/-- A report that carries no rank raises no standing. -/
def Report.unranked : Report → Prop
  | .object _ | .fail _ | .withdraw => True
  | _ => False

/-- A context with its sender's standing raised, where the sender is a participant of the context the entry names. -/
def Context.hear (c : Context) (sender : Nat) (r : Report) (x : Context) : Context :=
  if sender ∈ c.participants then x.raise sender r else x

/-- The state with an entry's report heard, no phase tested yet. -/
def State.hearing (s : State) (c : Context) (sender : Nat) (e : StageEntry) : State :=
  s.onContext e.tag (c.hear sender e.report)

/-- What a stage entry says to the phase rules of the context it names. -/
def Context.voice (c : Context) (sender : Nat) (r : Report) : Voice :=
  { sender := sender, participant := c.participants.contains sender, sponsor := sender == c.tag.sponsor, report := r }

theorem Context.hear_kept (c : Context) (sender : Nat) (r : Report) (x : Context) :
    (c.hear sender r x).tag = x.tag ∧ (c.hear sender r x).phase = x.phase := by
  unfold Context.hear
  split <;> exact ⟨rfl, rfl⟩

/-- A change that leaves every context leaves the state. -/
theorem State.onContext_same (s : State) (g : Tag) {f : Context → Context} (h : ∀ x, f x = x) : s.onContext g f = s := by
  have hsame : s.cxe.contexts.map (fun c => if c.tag = g then f c else c) = s.cxe.contexts :=
    (List.map_congr_left fun c _ => by rw [h]; exact ite_self _).trans (List.map_id' _)
  unfold State.onContext
  rw [hsame]

theorem Context.hear_unranked {r : Report} (h : r.unranked) (c : Context) (sender : Nat) (x : Context) : c.hear sender r x = x := by
  have hraise : ∀ y : Standing, y.raise r = y := fun y => by
    cases r with
    | object _ | fail _ | withdraw => rfl
    | accept _ | quiet | settled _ _ _ => exact h.elim
  unfold Context.hear Context.raise
  simp [hraise]

section
variable {s : State} {sender : Nat} {e : StageEntry} {c : Context} (hc : s.context? e.tag = some c)
include hc

theorem State.hearing_context : (s.hearing c sender e).context? e.tag = some (c.hear sender e.report c) := by
  unfold State.hearing
  rw [State.context_onContext s e.tag e.tag _ fun x => (c.hear_kept sender e.report x).1, if_pos rfl, hc]
  rfl

/-- An entry of another make route, for a closed context, or of neither a participant nor the sponsor changes nothing. -/
theorem State.takeEntry_ignored
    (h : c.make ≠ e.make ∨ (c.phase = .done ∨ c.phase = .failed) ∨ (sender ∉ c.participants ∧ sender ≠ c.tag.sponsor)) :
    s.takeEntry sender e = s := by
  unfold State.takeEntry
  rw [hc]
  refine if_neg fun ⟨hmake, hopen, hvoice⟩ => ?_
  rcases h with h | h | ⟨hp, hs⟩
  · exact h hmake
  · rw [(Context.isOpen_eq_false c).mpr h] at hopen
    cases hopen
  · simp [hp, hs] at hvoice

/-- Any other entry is heard, and the phases are tested. -/
theorem State.takeEntry_heard (hmake : c.make = e.make) (hopen : c.isOpen = true)
    (h : sender ∈ c.participants ∨ sender = c.tag.sponsor) :
    s.takeEntry sender e = State.testPhases (c.voice sender e.report) e.tag 4 (s.hearing c sender e) := by
  have hvoice : (c.participants.contains sender || sender == c.tag.sponsor) = true := by simpa using h
  have hraised : (if c.participants.contains sender = true then s.onContext e.tag (Context.raise sender e.report) else s) =
      s.hearing c sender e := by
    unfold State.hearing Context.hear
    by_cases hp : sender ∈ c.participants
    · simp [hp]
    · simp [hp, State.onContext_same]
  unfold State.takeEntry
  rw [hc]
  dsimp only
  rw [if_pos ⟨hmake, hopen, hvoice⟩, hraised]
  rfl

/-- An entry that closes the context closes it as it stood: such an entry raises no standing. -/
theorem State.takeEntry_closes (hmake : c.make = e.make) (hopen : c.isOpen = true)
    (h : sender ∈ c.participants ∨ sender = c.tag.sponsor) (hr : e.report.unranked) {record : CloseRecord}
    (hv : (c.voice sender e.report).close c.phase = some record) : s.takeEntry sender e = s.closeFailed c record := by
  have hsame : s.hearing c sender e = s := s.onContext_same e.tag (c.hear_unranked hr sender)
  rw [State.takeEntry_heard hc hmake hopen h, hsame, State.testPhases_closes hc hopen hv]

end

/-- When an entry closes no context in a phase: no OBJECT of a participant nor WITHDRAW of the sponsor before MOVE, and no FAIL of a
participant (R73, R77, R80). -/
theorem Context.voice_silent {c : Context} {sender : Nat} {r : Report}
    (hobject : ∀ why, r = .object why → sender ∉ c.participants ∨ c.phase = .move)
    (hfail : ∀ why, r = .fail why → sender ∉ c.participants)
    (hwithdraw : r = .withdraw → sender ≠ c.tag.sponsor ∨ c.phase = .move) : (c.voice sender r).close c.phase = none := by
  unfold Voice.close Context.voice
  cases r with
  | object why => rcases hobject why rfl with h | h <;> simp [h]
  | fail why => simp [hfail why rfl]
  | withdraw => rcases hwithdraw rfl with h | h <;> simp [h]
  | _ => rfl

section
variable {c : Context} {sender : Nat}

theorem Context.voice_object (hp : sender ∈ c.participants) (h : c.phase = .answer ∨ c.phase = .cold) (why : ObjectReason) :
    (c.voice sender (.object why)).close c.phase = some { reason := .objected, node := some sender, objection := some why } := by
  unfold Voice.close Context.voice
  rcases h with h | h <;> simp [hp, h]

theorem Context.voice_fail (hp : sender ∈ c.participants) (why : FailReason) :
    (c.voice sender (.fail why)).close c.phase = some (.at why.close (some sender)) := by
  simp [Voice.close, Context.voice, hp]

theorem Context.voice_withdraw (hs : sender = c.tag.sponsor) (h : c.phase = .answer ∨ c.phase = .cold) :
    (c.voice sender .withdraw).close c.phase = some (.at .withdrawn (some sender)) := by
  unfold Voice.close Context.voice
  rcases h with h | h <;> simp [hs, h]

end

/-! ### The contexts a participant has freed (R72) -/

/-- What shows that a participant has freed a context, as R72 says it. -/
theorem Context.freedBy_eq (c : Context) (sender : Nat) (entries : List StageEntry) :
    c.freedBy sender entries = (c.isOpen && c.participants.contains sender &&
      ((c.standing.find? (fun x => x.node == sender)).any (fun x => x.rank != .none)) && entries.all (fun e => e.tag != c.tag)) := by
  unfold Context.freedBy Context.rankOf
  rw [List.not_any_eq_all_not]
  cases c.standing.find? (fun x => x.node == sender) <;> rfl

theorem State.participantFreed_contexts {s : State} (h : s.cxe.lawful) (sender : Nat) (entries : List StageEntry) :
    (s.participantFreed sender entries).cxe.contexts = s.cxe.contexts.map (fun c =>
      if c.freedBy sender entries = true then c.closed .failed (.at .noAnswer (some sender)) else c) := by
  have htags : (s.cxe.contexts.map Context.tag).Nodup := h.1
  have hfreed : ((s.cxe.contexts.filter (Context.freedBy sender entries)).map Context.tag).Nodup :=
    htags.sublist (List.filter_sublist.map _)
  have hmem := fun c (hc : c ∈ s.cxe.contexts.filter (Context.freedBy sender entries)) => List.mem_filter.mp hc
  have hopen : ∀ c ∈ s.cxe.contexts.filter (Context.freedBy sender entries), c ∈ s.cxe.contexts ∧ c.isOpen = true := fun c hc => by
    obtain ⟨hin, hf⟩ := hmem c hc
    simp only [Context.freedBy, Bool.and_eq_true] at hf
    exact ⟨hin, hf.1.1.1⟩
  unfold State.participantFreed
  rw [State.closeOpen_foldl _ htags hfreed hopen, State.closeAll_contexts _ htags hfreed fun c hc => (hmem c hc).1]
  refine List.map_congr_left fun c hc => ?_
  simp only [List.mem_filter, hc, true_and]

/-- Settles O46: an entry the phase rules take is heard first, then closes the context or takes its tally as far as it reaches; and a
record's closes are those of the contexts it leaves out. -/
theorem stageEntriesMoveContexts : Obligations.StageEntriesMoveContexts := by
  refine ⟨fun s sender e => ?_, fun s sender entries h => ?_⟩
  · intro t
    refine ⟨fun hnone => by simp only [t, State.takeEntry, hnone], fun c hc => ?_⟩
    intro part sponsor early raised heard s1 closes all
    have hraised : ∀ x, raised x = x.raise e.report := fun x => by
      cases hr : e.report <;> simp only [raised, hr]
      case quiet => exact x.raise_quiet.symm
      all_goals rfl
    have hheard : heard = c.hear sender e.report := by
      funext x
      simp only [heard, hraised]
      rfl
    have hs1 : s1 = s.hearing c sender e := by
      simp only [s1, hheard]
      rfl
    refine ⟨fun h => State.takeEntry_ignored hc h, fun hmake hopen hvoice => ?_⟩
    have hphases := State.takeEntry_heard hc hmake (Context.isOpen_iff.mpr hopen) hvoice
    have hcloses : e.report.unranked → ∀ record, (c.voice sender e.report).close c.phase = some record → t = s.closeFailed c record :=
      fun hr _ hv => State.takeEntry_closes hc hmake (Context.isOpen_iff.mpr hopen) hvoice hr hv
    clear_value s1 heard
    subst hs1 hheard
    refine ⟨fun why hr hp hearly => ?_, fun why hr hp => ?_, fun hr hs hearly => ?_, fun hobject hfail hwithdraw => ?_⟩
    · rw [hr] at hcloses
      exact hcloses trivial _ (Context.voice_object hp hearly why)
    · rw [hr] at hcloses
      refine (hcloses trivial _ (Context.voice_fail hp why)).trans ?_
      cases why <;> rfl
    · rw [hr] at hcloses
      exact hcloses trivial _ (Context.voice_withdraw hs hearly)
    have hfound := State.hearing_context (sender := sender) hc
    have hphase := (c.hear_kept sender e.report c).2
    have hv := Context.voice_silent hobject hfail hwithdraw
    rw [show t = _ from hphases]
    refine ⟨fun hp hno => ?_, fun hp hno => ?_, fun hp hno => ?_, fun hp ha hno => ?_, fun hp hq hno => ?_, fun hp hs => ?_,
      fun hp hq => ?_, fun hp hs => ?_⟩ <;> rw [hp] at hphase hv
    · rw [State.testPhases_answer hfound hphase hv, if_neg (mt Context.allAt_accept.mp hno)]
    · rw [State.testPhases_cold hfound hphase hv, if_neg (mt Context.allAt_quiet.mp hno)]
    · rw [State.testPhases_move hfound hphase hv, if_neg (mt Context.allAt_settled.mp hno)]
    · obtain ⟨d, hd, hcold, htally, hgo⟩ := State.testPhases_fromAnswer hfound hphase hv (Context.allAt_accept.mpr ha)
      rw [hgo, State.testPhases_cold hd hcold (Voice.close_cold hv), htally, if_neg (mt Context.allAt_quiet.mp hno)]
    · obtain ⟨_, _, hgo⟩ := State.testPhases_fromCold hfound hphase hv (Context.allAt_quiet.mpr hq) 2
      rw [hgo, if_neg (mt Context.allAt_settled.mp hno)]
    · rw [State.testPhases_move hfound hphase hv, if_pos (Context.allAt_settled.mpr hs)]
    · have hquiet := Context.allAt_quiet.mpr hq
      obtain ⟨d, hd, hcold, htally, hgo⟩ :=
        State.testPhases_fromAnswer hfound hphase hv (Context.allAt_mono (low := .accept) (by decide) hquiet)
      obtain ⟨f, hf, hend⟩ := State.testPhases_fromCold hd hcold (Voice.close_cold hv) ((htally .quiet).trans hquiet) 1
      rw [hgo, hend, htally]
      exact ⟨d, hd, fun hno => if_neg (mt Context.allAt_settled.mp hno), fun hs => ⟨f, hf, if_pos (Context.allAt_settled.mpr hs)⟩⟩
    · have hsettled := Context.allAt_settled.mpr hs
      obtain ⟨f, hf, hend⟩ := State.testPhases_fromCold hfound hphase hv (Context.allAt_mono (low := .quiet) (by decide) hsettled) 2
      exact ⟨f, hf, hend.trans (if_pos hsettled)⟩
  · intro freed
    refine (State.participantFreed_contexts h sender entries).trans (List.map_congr_left fun c _ => ?_)
    have hsame : c.freedBy sender entries = freed c := by
      rw [Context.freedBy_eq]
      simp only [freed]
      cases c.standing.find? (fun x => x.node == sender) <;> rfl
    rw [hsame]
    rfl

end Sys2Proof.Machine
end

section
/-! SUPPORT. The guard law, the table laws and the law of R99 across the Changeover Engine and the RF Guard as one relation between
a state and a later one, and the part of the node that these laws read (R1, R26, R63, R64, R97, R99). -/

namespace Sys2Proof.Machine

/-! ### The laws across two states -/

/-- The guard law, the table laws and the law of R99 kept from one state to a later one. -/
structure State.Upholds (s t : State) : Prop where
  guard : s.rfg.lawful → t.rfg.lawful
  table : s.cxe.lawful → t.cxe.lawful
  switches : s.switchLawful → t.switchLawful
  routes : s.routesLawful → t.routesLawful
  lines : s.cxe.lawful → s.guardFollows → t.guardFollows

theorem State.Upholds.refl (s : State) : s.Upholds s := ⟨id, id, id, id, fun _ => id⟩

theorem State.Upholds.trans {s t u : State} (h : s.Upholds t) (k : t.Upholds u) : s.Upholds u :=
  ⟨k.guard ∘ h.guard, k.table ∘ h.table, k.switches ∘ h.switches, k.routes ∘ h.routes,
    fun hs hg => k.lines (h.table hs) (h.lines hs hg)⟩

/-- A run of operations that each uphold the laws, one for each element of a list. -/
theorem State.Upholds.foldl {α : Type} {f : State → α → State} (hf : ∀ (u : State) (a : α), u.Upholds (f u a)) (l : List α)
    (s : State) : s.Upholds (l.foldl f s) :=
  List.foldlRecOn (motive := fun t => s.Upholds t) l f (.refl s) fun _ hu a _ => hu.trans (hf _ a)

/-! ### The law of R99 by tags -/

/-- A context that R78 lets have driven nothing yet: in ANSWER or COLD. -/
def Context.early (c : Context) : Prop := c.phase = .answer ∨ c.phase = .cold

/-- The tags under which a guard entry stands (R97). -/
def Rfg.tags (g : Rfg) : List Tag := g.guards.map GuardEntry.tag

/-- The law of R99: nothing is driven before MOVE, and a tag has a guard entry exactly where a context of it holds its lines. -/
theorem State.guardFollows_iff (s : State) : s.guardFollows ↔
    (∀ c ∈ s.cxe.contexts, c.early → c.driven = []) ∧
      ∀ g, g ∈ s.rfg.tags ↔ ∃ c ∈ s.cxe.contexts, c.tag = g ∧ c.holdsLines = true := by
  simp only [State.guardFollows, Context.early, Rfg.tags, List.mem_map]
  refine and_congr_right fun _ => ⟨fun ⟨hheld, hstands⟩ g => ⟨?_, ?_⟩, fun h => ⟨fun e he => ?_, fun c hc hl => ?_⟩⟩
  · rintro ⟨e, he, rfl⟩
    exact hheld e he
  · rintro ⟨c, hc, rfl, hl⟩
    exact hstands c hc hl
  · exact (h e.tag).mp ⟨e, he, rfl⟩
  · exact (h c.tag).mpr ⟨c, hc, rfl, hl⟩

/-- Of a context found in the table: its tag has a guard entry exactly where it holds its lines. -/
theorem State.mem_tags_iff {s : State} (htable : s.cxe.lawful) (h : s.guardFollows) {c : Context}
    (hc : s.context? c.tag = some c) : c.tag ∈ s.rfg.tags ↔ c.holdsLines = true := by
  rw [((s.guardFollows_iff).mp h).2]
  refine ⟨fun ⟨x, hx, htag, hl⟩ => ?_, fun hl => ⟨c, (State.context_spec hc).1, rfl, hl⟩⟩
  rwa [← context_unique htable.1 hx (State.context_spec hc).1 htag]

/-! ### The part the laws read -/

/-- What the law of R99 reads of a context. -/
def Context.linePart (c : Context) : Tag × Role × Phase × List Nat := (c.tag, c.role, c.phase, c.driven)

/-- What the guard law and the law of R99 read of the guard. -/
def Rfg.linePart (g : Rfg) : List (Tag × List Nat) × List InhibitLine := (g.guards.map (fun e => (e.tag, e.lines)), g.lines)

/-- What the guard law, the table laws and the law of R99 read of the node. -/
def State.lawPart (s : State) : (List (Tag × List Nat) × List InhibitLine) × List (Tag × Role × Phase × List Nat) ×
    List SlotName × List Nat × List Nat :=
  (s.rfg.linePart, s.cxe.contexts.map Context.linePart, s.cxe.reservations, s.sbc.map (fun w => w.plan.index),
    s.rtb.routes.map (fun r => r.plan.id))

theorem Context.early_congr {c d : Context} (h : c.linePart = d.linePart) : c.early ↔ d.early := by
  simp only [Context.linePart, Prod.mk.injEq] at h
  simp only [Context.early, h]

theorem Context.holdsLines_congr {c d : Context} (h : c.linePart = d.linePart) : c.holdsLines = d.holdsLines := by
  simp only [Context.linePart, Prod.mk.injEq] at h
  simp only [Context.holdsLines, h]

theorem Rfg.tags_congr {g h : Rfg} (e : g.linePart = h.linePart) : g.tags = h.tags := by
  have := congrArg (fun p => p.1.map Prod.fst) e
  simpa [Rfg.linePart, Rfg.tags, Function.comp_def] using this

theorem contexts_tags_congr {l l' : List Context} (h : l.map Context.linePart = l'.map Context.linePart) :
    l.map Context.tag = l'.map Context.tag := map_of_map h Prod.fst

/-- The law of R99 holds of any state that agrees with a lawful one in the contexts' and the guard's parts. -/
theorem State.guardFollows_congr {s t : State} (hc : t.cxe.contexts.map Context.linePart = s.cxe.contexts.map Context.linePart)
    (hg : t.rfg.tags = s.rfg.tags) (h : s.guardFollows) : t.guardFollows := by
  obtain ⟨hearly, hstands⟩ := s.guardFollows_iff.mp h
  refine t.guardFollows_iff.mpr ⟨fun d hd he => ?_, fun g => ?_⟩
  · obtain ⟨c, hcm, hcd⟩ := exists_of_map_eq hc hd
    have hdriven : c.driven = d.driven := congrArg (fun p => p.2.2.2) hcd
    exact hdriven ▸ hearly c hcm ((Context.early_congr hcd).mpr he)
  · rw [hg, hstands]
    constructor
    · rintro ⟨c, hcm, htag, hl⟩
      obtain ⟨d, hd, hdc⟩ := exists_of_map_eq hc.symm hcm
      exact ⟨d, hd, (congrArg Prod.fst hdc).trans htag, (Context.holdsLines_congr hdc).trans hl⟩
    · rintro ⟨d, hd, htag, hl⟩
      obtain ⟨c, hcm, hcd⟩ := exists_of_map_eq hc hd
      exact ⟨c, hcm, (congrArg Prod.fst hcd).trans htag, (Context.holdsLines_congr hcd).trans hl⟩

/-- What leaves the contexts' and the guard's parts and the keys of switches and routes, and keeps the table law. -/
theorem State.Upholds.of_parts {s t : State} (hguard : t.rfg.linePart = s.rfg.linePart)
    (hcontexts : t.cxe.contexts.map Context.linePart = s.cxe.contexts.map Context.linePart)
    (hplaces : s.cxe.lawful → t.cxe.lawful) (hsbc : t.sbc.map (fun w => w.plan.index) = s.sbc.map (fun w => w.plan.index))
    (hroutes : t.rtb.routes.map (fun r => r.plan.id) = s.rtb.routes.map (fun r => r.plan.id)) : s.Upholds t := by
  refine ⟨fun h => ?_, hplaces, fun h => ?_, fun h => ?_, fun _ => State.guardFollows_congr hcontexts (Rfg.tags_congr hguard)⟩
  · exact Rfg.lawful_of_same h (congrArg Prod.snd hguard) (congrArg Prod.fst hguard)
  · unfold State.switchLawful
    rw [hsbc]
    exact h
  · unfold State.routesLawful
    rw [hroutes]
    exact h

/-- What leaves the part that the laws read. -/
theorem State.Upholds.of_part {s t : State} (h : t.lawPart = s.lawPart) : s.Upholds t := by
  simp only [State.lawPart, Prod.mk.injEq] at h
  obtain ⟨hguard, hcontexts, hreservations, hsbc, hroutes⟩ := h
  exact .of_parts hguard hcontexts (fun hl => Cxe.lawful_of_same hl (contexts_tags_congr hcontexts) hreservations) hsbc hroutes

/-- What leaves all that no work of the Sponsor Unit touches, and keeps the table law (R64). -/
theorem State.Upholds.of_bankSide {s t : State} (h : t.bankSide = s.bankSide)
    (hplaces : t.cxe.contexts = s.cxe.contexts → s.cxe.lawful → t.cxe.lawful) : s.Upholds t := by
  simp only [State.bankSide, Prod.mk.injEq] at h
  obtain ⟨hcontexts, _, _, _, hsbc, hrfg, hrtb⟩ := h
  exact .of_parts (by rw [hrfg]) (by rw [hcontexts]) (hplaces hcontexts) (by rw [hsbc]) (by rw [hrtb])

/-! ### A change of one tag's context -/

/-- An entry to a phase or a close: one tag's context changes, the guard at that tag at most, and no key of another block. -/
structure State.ChangesAt (s t : State) (g : Tag) (f : Context → Context) : Prop where
  tag : ∀ x, (f x).tag = x.tag
  contexts : t.cxe.contexts = (s.onContext g f).cxe.contexts
  reservations : t.cxe.reservations = s.cxe.reservations
  guard : s.rfg.lawful → t.rfg.lawful
  others : ∀ x, x ≠ g → (x ∈ t.rfg.tags ↔ x ∈ s.rfg.tags)
  switches : t.sbc.map (fun w => w.plan.index) = s.sbc.map (fun w => w.plan.index)
  routes : t.rtb.routes.map (fun r => r.plan.id) = s.rtb.routes.map (fun r => r.plan.id)

/-- Such a change upholds the laws where the context as changed has driven nothing before MOVE, and holds its lines exactly where
its tag then has a guard entry (R78, R99). -/
theorem State.ChangesAt.upholds {s t : State} {c : Context} {f : Context → Context} (h : s.ChangesAt t c.tag f)
    (hc : s.context? c.tag = some c)
    (hlines : (c.early → c.driven = []) → (c.tag ∈ s.rfg.tags ↔ c.holdsLines = true) →
      ((f c).early → (f c).driven = []) ∧ (c.tag ∈ t.rfg.tags ↔ (f c).holdsLines = true)) : s.Upholds t := by
  refine ⟨h.guard, fun hl => ?_, fun hl => ?_, fun hl => ?_, fun htable hfollows => ?_⟩
  · exact Cxe.lawful_of_same hl (by rw [h.contexts, map_tag_onContext s c.tag f h.tag]) h.reservations
  · unfold State.switchLawful
    rw [h.switches]
    exact hl
  · unfold State.routesLawful
    rw [h.routes]
    exact hl
  obtain ⟨hmem, _⟩ := State.context_spec hc
  obtain ⟨hearly, hstands⟩ := s.guardFollows_iff.mp hfollows
  obtain ⟨hdriven, hthis⟩ := hlines (hearly c hmem) (State.mem_tags_iff htable hfollows hc)
  have hown : ∀ x ∈ s.cxe.contexts, x.tag = c.tag → x = c := fun x hx e => context_unique htable.1 hx hmem e
  have hnew : ∀ y, y ∈ t.cxe.contexts ↔ y = f c ∨ y ∈ s.cxe.contexts ∧ y.tag ≠ c.tag := by
    intro y
    rw [h.contexts]
    constructor
    · intro hy
      obtain ⟨x, hx, rfl⟩ := List.mem_map.mp hy
      split
      · exact .inl (by rw [hown x hx ‹_›])
      · exact .inr ⟨hx, ‹_›⟩
    · rintro (rfl | ⟨hy, hne⟩)
      · exact List.mem_map.mpr ⟨c, hmem, if_pos rfl⟩
      · exact List.mem_map.mpr ⟨y, hy, if_neg hne⟩
  refine t.guardFollows_iff.mpr ⟨fun y hy he => ?_, fun g => ?_⟩
  · rcases (hnew y).mp hy with rfl | ⟨hy, _⟩
    · exact hdriven he
    · exact hearly y hy he
  · by_cases hg : g = c.tag
    · subst hg
      rw [hthis]
      refine ⟨fun hl => ⟨f c, (hnew _).mpr (.inl rfl), h.tag c, hl⟩, fun ⟨y, hy, htag, hl⟩ => ?_⟩
      rcases (hnew y).mp hy with rfl | ⟨_, hne⟩
      · exact hl
      · exact absurd htag hne
    · rw [h.others g hg, hstands]
      refine exists_congr fun y => ⟨fun ⟨hy, htag, hl⟩ => ⟨(hnew y).mpr (.inr ⟨hy, htag ▸ hg⟩), htag, hl⟩,
        fun ⟨hy, htag, hl⟩ => ?_⟩
      rcases (hnew y).mp hy with rfl | ⟨hy, _⟩
      · exact absurd (htag.symm.trans (h.tag c)) hg
      · exact ⟨hy, htag, hl⟩

end Sys2Proof.Machine
end

section
/-! SUPPORT. The operations that leave the part of the node that the guard law, the table laws and the law of R99 read. -/

namespace Sys2Proof.Machine

/-! ### The updates -/

@[simp] theorem State.place_lawPart (s : State) (name : SlotName) (m : Message) : (s.place name m).lawPart = s.lawPart := rfl
@[simp] theorem State.dequeue_lawPart (s : State) (j : Job) : (s.dequeue j).lawPart = s.lawPart := rfl
@[simp] theorem State.fire_lawPart (s : State) (e : EventName) (x : EventSource) : (s.fire e x).lawPart = s.lawPart := rfl
@[simp] theorem State.notice_lawPart (s : State) (n : Notice) : (s.notice n).lawPart = s.lawPart := rfl
@[simp] theorem State.complete_lawPart (s : State) : s.complete.lawPart = s.lawPart := rfl
@[simp] theorem State.onPeer_lawPart (s : State) (n : Nat) (f : Peer → Peer) : (s.onPeer n f).lawPart = s.lawPart := rfl
@[simp] theorem State.setSlot_lawPart (s : State) (name : SlotName) (x : SponsorSlot) : (s.setSlot name x).lawPart = s.lawPart := by
  cases name <;> rfl
@[simp] theorem State.drainTest_lawPart (s : State) : s.drainTest.lawPart = s.lawPart := by
  rcases s.drainTest_cases with ⟨h, _⟩ | h
  · rw [h]; rfl
  · rw [h]

theorem map_key_of_if {α κ : Type} (key : α → κ) (p : α → Prop) [DecidablePred p] {f : α → α} (hf : ∀ a, key (f a) = key a)
    (l : List α) : (l.map (fun a => if p a then f a else a)).map key = l.map key := by
  rw [List.map_map]
  refine List.map_congr_left fun a _ => ?_
  simp only [Function.comp]
  split
  · exact hf a
  · rfl

theorem map_key_of_map {α κ : Type} (key : α → κ) {f : α → α} (hf : ∀ a, key (f a) = key a) (l : List α) :
    (l.map f).map key = l.map key := by
  rw [List.map_map]
  exact List.map_congr_left fun a _ => hf a

/-- An update of switches that keeps their indices leaves the part alone. -/
theorem State.onSwitches_lawPart (s : State) {f : Switch → Switch} (hf : ∀ w, (f w).plan.index = w.plan.index) :
    (s.onSwitches f).lawPart = s.lawPart := by
  unfold State.lawPart
  rw [State.onSwitches_sbc, map_key_of_map (fun w : Switch => w.plan.index) hf]
  rfl

theorem State.onSwitch_lawPart (s : State) (i : Nat) {f : Switch → Switch} (hf : ∀ w, (f w).plan.index = w.plan.index) :
    (s.onSwitch i f).lawPart = s.lawPart := by
  unfold State.lawPart
  rw [State.onSwitch_sbc, map_key_of_if (fun w : Switch => w.plan.index) _ hf]
  rfl

/-- An update of route records that keeps their ids leaves the part alone. -/
theorem State.onRoutes_lawPart (s : State) {f : Route → Route} (hf : ∀ r, (f r).plan.id = r.plan.id) :
    (s.onRoutes f).lawPart = s.lawPart := by
  unfold State.lawPart State.onRoutes
  dsimp only
  rw [map_key_of_map (fun r : Route => r.plan.id) hf]

theorem State.onRoute_lawPart (s : State) (i : Nat) {f : Route → Route} (hf : ∀ r, (f r).plan.id = r.plan.id) :
    (s.onRoute i f).lawPart = s.lawPart := by
  unfold State.lawPart State.onRoute
  dsimp only
  rw [map_key_of_if (fun r : Route => r.plan.id) _ hf]

/-- An update of a context that keeps its tag, role, phase and driven set leaves the part alone. -/
theorem State.onContext_lawPart (s : State) (g : Tag) {f : Context → Context} (hf : ∀ x, (f x).linePart = x.linePart) :
    (s.onContext g f).lawPart = s.lawPart := by
  unfold State.lawPart State.onContext
  dsimp only
  rw [map_key_of_if Context.linePart _ hf]

/-- An update of the guard that keeps the entries' tags and lines and the inhibit lines leaves the part alone. -/
theorem State.withRfg_lawPart (s : State) {g : Rfg} (h : g.linePart = s.rfg.linePart) :
    ({ s with rfg := g } : State).lawPart = s.lawPart := by
  unfold State.lawPart
  dsimp only
  rw [h]

/-! ### The guard -/

theorem Rfg.setWatch_linePart (g : Rfg) (tag : Tag) (on : Bool) : (g.setWatch tag on).linePart = g.linePart := by
  unfold Rfg.linePart Rfg.setWatch
  dsimp only
  rw [map_key_of_if (fun e : GuardEntry => (e.tag, e.lines)) _ (f := fun e => { e with watch := on }) (fun _ => rfl)]

theorem Rfg.quietTest_linePart (g : Rfg) (tag : Tag) : (g.quietTest tag).2.linePart = g.linePart := by
  unfold Rfg.quietTest
  split
  · rfl
  · split <;> exact g.setWatch_linePart tag _

theorem Rfg.takeSample_linePart (g : Rfg) (input : Nat) (level : Int) : (g.takeSample input level).1.linePart = g.linePart := by
  unfold Rfg.takeSample
  dsimp only
  split
  · rfl
  · unfold Rfg.linePart
    dsimp only
    rw [map_key_of_if (fun e : GuardEntry => (e.tag, e.lines)) _ (f := fun e => { e with watch := false }) (fun _ => rfl)]

theorem Rfg.closeGuard_guards (g : Rfg) (tag : Tag) : (g.closeGuard tag).guards = g.guards.filter (fun e => e.tag != tag) := by
  rcases g.closeGuard_cases tag with ⟨hnone, e⟩ | ⟨_, _, e⟩ <;> rw [e]
  exact (List.filter_eq_self.mpr fun x hx => by simpa using Rfg.entry_none hnone x hx).symm

theorem Rfg.mem_tags_closeGuard {g : Rfg} {tag x : Tag} : x ∈ (g.closeGuard tag).tags ↔ x ∈ g.tags ∧ x ≠ tag := by
  unfold Rfg.tags
  rw [Rfg.closeGuard_guards]
  simp only [List.mem_map, List.mem_filter, bne_iff_ne]
  constructor
  · rintro ⟨e, ⟨he, hne⟩, rfl⟩
    exact ⟨⟨e, he, rfl⟩, hne⟩
  · rintro ⟨⟨e, he, rfl⟩, hne⟩
    exact ⟨e, ⟨he, hne⟩, rfl⟩

theorem Rfg.mem_tags_openGuard {g : Rfg} {tag x : Tag} {lines detectors : List Nat} {hot : Bool} :
    x ∈ (g.openGuard tag lines detectors hot).tags ↔ x ∈ g.tags ∨ x = tag := by
  rcases g.openGuard_cases tag lines detectors hot with ⟨⟨e, he⟩, h⟩ | ⟨_, h⟩ <;> rw [h]
  · refine ⟨.inl, fun hx => hx.elim id fun hx => ?_⟩
    obtain ⟨hmem, htag⟩ := Rfg.entry_spec he
    exact List.mem_map.mpr ⟨e, hmem, htag.trans hx.symm⟩
  · simp [Rfg.tags]

/-! ### Contexts -/

@[simp] theorem Context.setReport_linePart (c : Context) (r : Report) : (c.setReport r).linePart = c.linePart := by
  unfold Context.setReport; split <;> rfl
@[simp] theorem Context.quietPass_linePart (c : Context) : c.quietPass.linePart = c.linePart := by
  unfold Context.quietPass; split
  · exact c.setReport_linePart .quiet
  · rfl
@[simp] theorem Context.quietFail_linePart (c : Context) : c.quietFail.linePart = c.linePart := by
  unfold Context.quietFail; split
  · exact c.setReport_linePart (.fail .hot)
  · rfl
@[simp] theorem Context.trimFail_linePart (c : Context) : c.trimFail.linePart = c.linePart := by
  unfold Context.trimFail; split
  · exact c.setReport_linePart (.fail .noAnswer)
  · rfl
@[simp] theorem Context.testWithdrawal_linePart (c : Context) : c.testWithdrawal.linePart = c.linePart := by
  unfold Context.testWithdrawal; split
  · split <;> rfl
  · rfl

theorem Context.MovesTo.role {x y : Context} (h : x.MovesTo y) : y.role = x.role :=
  show y.steady.role = x.steady.role from congrArg Context.role h.steady

/-! ### The Switch Bank Controller -/

@[simp] theorem State.fireWorn_lawPart (s : State) (w : Switch) : (s.fireWorn w).lawPart = s.lawPart := by
  unfold State.fireWorn; repeat' split
  all_goals rfl
@[simp] theorem State.fireFault_lawPart (s : State) (w : Switch) : (s.fireFault w).lawPart = s.lawPart := by
  unfold State.fireFault; repeat' split
  all_goals rfl

/-- A claim operation on one switch keeps its index. -/
theorem Switch.index_of_bare {f : Switch → Switch} (hf : ∀ w, (f w).bare = w.bare) (w : Switch) : (f w).plan.index = w.plan.index :=
  congrArg SwitchPlan.index (Switch.plan_of_bare (hf w))

@[simp] theorem State.claimCheck_lawPart (s : State) (g : Tag) (m : Nat) (b : Option Nat) (t : Bool) :
    (s.claimCheck g m b t).2.lawPart = s.lawPart := by
  unfold State.claimCheck; dsimp only; split
  · rfl
  · exact foldl_keeps _ State.lawPart (fun u (q : Nat × Option Nat) =>
      u.onSwitch_lawPart q.1 (Switch.index_of_bare (Switch.grant_bare g b q.2))) _ s
@[simp] theorem State.fixTrim_lawPart (s : State) (g : Tag) (a code : Nat) : (s.fixTrim g a code).2.lawPart = s.lawPart := by
  rcases s.fixTrim_cases g a code with e | ⟨_, _, _, e⟩ <;> rw [e]
  exact s.onSwitch_lawPart a (fun _ => rfl)
@[simp] theorem State.dropRouteClaims_lawPart (s : State) (r : Nat) : (s.dropRouteClaims r).lawPart = s.lawPart :=
  s.onSwitches_lawPart (f := Switch.dropRoute r) (fun _ => rfl)

@[simp] theorem State.drive_lawPart (s : State) (g : Tag) (b : Bool) (i p : Nat) : (s.drive g b i p).2.lawPart = s.lawPart := by
  have hd : ∀ hot, ((s.members i).foldl (fun s w => s.onSwitch w.plan.index (Switch.driveMember g p hot)) s).lawPart = s.lawPart :=
    fun hot => foldl_keeps _ State.lawPart (fun u w => u.onSwitch_lawPart _ (fun _ => by simp)) _ s
  rcases State.drive_cases s g b i p with e | ⟨_, e, _⟩ | ⟨e, _⟩ | ⟨e, _⟩ | ⟨e, _⟩ <;> rw [e]
  · exact hd false
  · dsimp only
    rw [foldl_keeps _ State.lawPart State.fireWorn_lawPart]
    split <;> simp only [State.fire_lawPart, hd]

theorem State.driveAll_lawPart (g : Tag) : ∀ (l : List (Nat × Nat)) (s : State), (State.driveAll g l s).2.lawPart = s.lawPart
  | [], _ => rfl
  | q :: l, s => (State.driveAll_lawPart g l (s.drive g true q.1 q.2).2).trans (s.drive_lawPart g true q.1 q.2)

@[simp] theorem State.endSettle_lawPart (s : State) (i : Nat) : (s.endSettle i).2.lawPart = s.lawPart := by
  unfold State.endSettle; dsimp only
  rw [foldl_keeps _ State.lawPart State.fireFault_lawPart]
  exact foldl_keeps _ State.lawPart (fun u w => u.onSwitch_lawPart _ (fun _ => by simp)) _ s

/-! ### The Route Table -/

@[simp] theorem State.dropBusy_lawPart (s : State) (g : Tag) : (s.dropBusy g).lawPart = s.lawPart :=
  s.onRoutes_lawPart (f := Route.unbusy g) (fun r => by unfold Route.unbusy; split <;> rfl)

theorem State.markRoutes_lawPart (s : State) (make : Nat) (brk : Option Nat) {f : Route → Route} (hf : ∀ r, (f r).plan = r.plan) :
    (s.markRoutes make brk f).lawPart = s.lawPart := by
  rw [s.markRoutes_eq make brk f hf]
  refine s.onRoutes_lawPart fun r => ?_
  split
  · rw [hf]
  · rfl

@[simp] theorem State.takeDown_lawPart (s : State) (r : Nat) : (s.takeDown r).lawPart = s.lawPart :=
  (State.onRoute_lawPart _ r (f := Route.clear) (fun _ => rfl)).trans (s.dropRouteClaims_lawPart r)

@[simp] theorem State.breakDown_lawPart (s : State) (b : Nat) : (s.breakDown b).lawPart = s.lawPart := by
  unfold State.breakDown
  repeat' split
  · rfl
  · exact s.takeDown_lawPart b
  · rfl
@[simp] theorem State.breakOf_lawPart (s : State) (c : Context) : (s.breakOf c).lawPart = s.lawPart := by
  unfold State.breakOf
  split
  · exact s.breakDown_lawPart _
  · rfl

@[simp] theorem State.makeEstablished_lawPart (s : State) (c : Context) : (s.makeEstablished c).lawPart = s.lawPart := by
  unfold State.makeEstablished
  split
  · exact (State.onRoute_lawPart _ c.make (f := c.establish) (fun _ => rfl)).trans
      (s.onSwitches_lawPart (f := Switch.convert c.tag c.make) (fun _ => rfl))
  · rfl

@[simp] theorem State.releaseHeard_lawPart (s : State) (sender route : Nat) (force : Bool) :
    (s.releaseHeard sender route force).2.lawPart = s.lawPart := by
  unfold State.releaseHeard
  split
  · rfl
  · split
    · exact s.takeDown_lawPart route
    · rfl

@[simp] theorem State.orphanRoutes_lawPart (s : State) (absent : List Nat) : (s.orphanRoutes absent).lawPart = s.lawPart :=
  foldl_keeps (State.orphan absent) State.lawPart
    (fun u r => u.onRoute_lawPart r.plan.id (f := fun q => { q with state := .orphaned }) (fun _ => rfl)) _ s

end Sys2Proof.Machine
end

section
/-! SUPPORT. The Sponsor Unit upholds the guard law and the table laws: a place is reserved only where one is free (R64, R130 to
R140). -/

namespace Sys2Proof.Machine

/-! ### Places (R64) -/

/-- What leaves the contexts and reserves no further place keeps the table law. -/
theorem Cxe.lawful_of_fewer {c d : Cxe} (h : c.lawful) (hc : d.contexts = c.contexts)
    (hr : d.reservations.length ≤ c.reservations.length) : d.lawful :=
  ⟨hc ▸ h.1, by rw [hc]; exact (Nat.add_le_add_left hr _).trans h.2⟩

theorem State.placePropose_upholds {s : State} (hfree : s.placeFree = true) (name : SlotName) (j : Job) :
    s.Upholds (s.placePropose name j) := by
  refine .of_bankSide (s.placePropose_bankSide name j) fun hc h => ⟨hc ▸ h.1, ?_⟩
  have hplaces : (s.placePropose name j).cxe.reservations = s.cxe.reservations ++ [name] := by cases name <;> rfl
  rw [hc, hplaces, List.length_append, ← Nat.add_assoc]
  exact of_decide_eq_true hfree

theorem State.unreserve_upholds (s : State) (name : SlotName) : s.Upholds (s.unreserve name) :=
  .of_bankSide rfl fun hc h => Cxe.lawful_of_fewer h hc (List.length_filter_le _ _)

/-! ### Take-up and retry (R130, R137) -/

theorem State.placeRelease_lawPart (s : State) (name : SlotName) (j : Job) : (s.placeRelease name j).lawPart = s.lawPart := by
  cases name <;> rfl

theorem State.takeUpSlot_upholds (name : SlotName) :
    ∀ (fuel : Nat) (only : Bool) (s : State), s.Upholds (State.takeUpSlot name fuel only s)
  | 0, _, s => .refl s
  | fuel + 1, only, s => by
    rcases State.takeUpSlot_cases name fuel only s with
      e | ⟨j, _, _, ⟨why, _, e⟩ | ⟨_, _, e⟩ | ⟨_, _, hfree, e⟩ | ⟨_, _, e⟩⟩ <;> rw [e]
    · exact .refl s
    · have hended : s.Upholds ((s.dequeue j).notice (j.notice .failed why.result 0)) := .of_part rfl
      exact hended.trans (State.takeUpSlot_upholds name fuel only _)
    · exact .of_part (State.placeRelease_lawPart _ name j)
    · exact (State.Upholds.of_part (s.dequeue_lawPart j)).trans (State.placePropose_upholds (s := s.dequeue j) hfree name j)
    · exact State.takeUpSlot_upholds name fuel true s

theorem State.takeUps_upholds (s : State) : s.Upholds s.takeUps := by
  have one : ∀ (name : SlotName) (u : State), u.Upholds (if u.biu.busState = .onBus ∧ u.slotOpen name then
      State.takeUpSlot name (u.ctp.queue.length + 1) false u else u) := by
    intro name u
    split
    · exact State.takeUpSlot_upholds name _ _ u
    · exact .refl u
  exact (one .a s).trans (one .b _)

theorem State.retrySlot_upholds (s : State) (name : SlotName) : s.Upholds (s.retrySlot name) := by
  rcases s.retrySlot_cases name with e | ⟨j, _, _, _, _, _, ⟨why, _, e⟩ | ⟨_, hfree, e⟩⟩ <;> rw [e]
  · exact .refl s
  · exact .of_part (by simp)
  · exact State.placePropose_upholds hfree name j

theorem State.sponsorEvent_upholds (s : State) : s.Upholds s.sponsorEvent :=
  ((s.retrySlot_upholds .a).trans (State.retrySlot_upholds _ .b)).trans (State.takeUps_upholds _)

/-! ### The end of a request (R136) -/

theorem State.endRequest_upholds (s : State) (name : SlotName) (n : Notice) : s.Upholds (s.endRequest name n) :=
  (State.Upholds.of_part (t := ((s.notice n).setSlot name .empty).drainTest) (by simp)).trans (State.sponsorEvent_upholds _)

theorem State.takeHandOff_upholds (s : State) (h : HandOff) : s.Upholds (s.takeHandOff h) := by
  unfold State.takeHandOff
  split
  · exact .refl s
  · rename_i name _
    split
    · rename_i j _
      rcases s.judgeClose_cases name (s.slot name) j h with ⟨n, _, e⟩ | ⟨_, _, _, e⟩ <;> rw [e]
      · exact s.endRequest_upholds name n
      · exact .of_part (s.setSlot_lawPart name _)
    · exact .refl s

theorem State.handOver_upholds (s : State) (c : Context) (done : Bool) (record : CloseRecord) :
    s.Upholds (s.handOver c done record) := by
  unfold State.handOver
  split
  · exact s.takeHandOff_upholds _
  · exact .refl s

theorem State.proposeNotOpened_upholds (s : State) : s.Upholds s.proposeNotOpened := by
  unfold State.proposeNotOpened
  repeat' split
  · exact .refl s
  · exact s.endRequest_upholds _ _
  · exact .refl s

theorem State.releaseAnswered_upholds (s : State) (honoured : Bool) : s.Upholds (s.releaseAnswered honoured) := by
  unfold State.releaseAnswered
  split
  · exact .refl s
  · split
    · exact s.endRequest_upholds _ _
    · exact .refl s

theorem State.endSilent_upholds (s : State) (name : SlotName) : s.Upholds (s.endSilent name) := by
  unfold State.endSilent
  split
  · exact s.endRequest_upholds _ _
  · exact .refl s

/-! ### OPEN and CANCEL (R135, R138, R139) -/

@[simp] theorem State.cxeCancel_lawPart (s : State) (g : Tag) : (s.cxeCancel g).2.lawPart = s.lawPart := by
  have hwithdraw : (s.onContext g Context.withdraw).lawPart = s.lawPart := s.onContext_lawPart g fun _ => rfl
  unfold State.cxeCancel
  split
  · rfl
  · split
    · rfl
    iterate 2
      dsimp only
      split
      · exact hwithdraw
      · rfl
    all_goals rfl

@[simp] theorem State.proposeOpened_lawPart (s : State) : s.proposeOpened.lawPart = s.lawPart := by
  unfold State.proposeOpened
  split
  · rfl
  · dsimp only
    split <;> simp

@[simp] theorem State.cancelOpen_lawPart (s : State) (name : SlotName) (g : Tag) (j : Job) :
    (s.cancelOpen name g j).2.lawPart = s.lawPart := by
  have h := s.cxeCancel_lawPart g
  unfold State.cancelOpen
  split <;> rename_i heq <;> rw [heq] at h
  · simpa using h
  · exact h
  · split
    · simpa using h
    · exact h

theorem State.cancelSlot_upholds (s : State) (name : SlotName) (j : Job) : s.Upholds (s.cancelSlot name j).2 := by
  unfold State.cancelSlot
  dsimp only
  split
  iterate 3 exact .refl s
  split
  · exact s.endRequest_upholds _ _
  · split
    · refine State.Upholds.trans (.trans ?_ (State.unreserve_upholds _ name)) (State.endRequest_upholds _ _ _)
      exact .of_part rfl
    · split
      · exact .of_part (s.setSlot_lawPart _ _)
      · exact .refl s
  · exact .of_part (s.cancelOpen_lawPart _ _ _)
  · exact .refl s

theorem State.cancelRequest_upholds (s : State) (id : Nat) : s.Upholds (s.cancelRequest id).2 := by
  unfold State.cancelRequest
  split
  · exact s.cancelSlot_upholds _ _
  · split
    · exact .of_part rfl
    · exact .refl s

/-! ### The own slot (R46, R87, R140) -/

theorem State.testWithdrawals_lawPart (s : State) : s.testWithdrawals.lawPart = s.lawPart := by
  unfold State.testWithdrawals
  dsimp only
  refine (foldl_keeps _ State.lawPart (by intros; rfl) _ _).trans ?_
  unfold State.lawPart
  dsimp only
  rw [map_key_of_map Context.linePart Context.testWithdrawal_linePart]

theorem State.takeMessage_lawPart (s : State) : s.takeMessage.2.lawPart = s.lawPart := by
  unfold State.takeMessage
  split
  · rfl
  · rw [State.setSlot_lawPart]; rfl

end Sys2Proof.Machine
end

section
/-! SUPPORT. The Changeover Engine upholds the guard law, the table laws and the law of R99: at every entry to a phase and at every
close the guard entry of the tag comes and goes with what the context holds (R75 to R85, R99, R151). -/

namespace Sys2Proof.Machine

/-! ### Closes (R82 to R84, R151) -/

/-- A context that closes FAILED holds its lines exactly while something it drove is still to settle (R151). -/
theorem Context.holdsLines_failed (c : Context) (record : CloseRecord) :
    (c.closed .failed record).holdsLines = true ↔ c.role ≠ .sponsorOnly ∧ c.driven ≠ [] := by
  simp [Context.holdsLines, Context.closed]

theorem Context.holdsLines_done (c : Context) (record : CloseRecord) : (c.closed .done record).holdsLines = false := by
  simp [Context.holdsLines, Context.closed]

theorem Context.holdsLines_cold {c : Context} (h : c.phase = .cold) : c.holdsLines = true ↔ c.role ≠ .sponsorOnly := by
  simp [Context.holdsLines, h]

theorem Context.holdsLines_move {c : Context} (h : c.phase = .move) : c.holdsLines = true ↔ c.role ≠ .sponsorOnly := by
  simp [Context.holdsLines, h]

theorem Context.holdsLines_answer {c : Context} (h : c.phase = .answer) : c.holdsLines = false := by
  simp [Context.holdsLines, h]

theorem State.guardAfterClose_lawful {s : State} (c : Context) (h : s.rfg.lawful) : (s.guardAfterClose c).lawful := by
  unfold State.guardAfterClose
  split
  · exact Rfg.lawful_closeGuard h c.tag
  · exact h

theorem State.mem_tags_guardAfterClose {s : State} {c : Context} {x : Tag} : x ∈ (s.guardAfterClose c).tags ↔
    x ∈ s.rfg.tags ∧ ((c.phase = .cold ∨ c.phase = .move ∧ c.driven = []) → x ≠ c.tag) := by
  unfold State.guardAfterClose
  split
  · rename_i hclose
    rw [Rfg.mem_tags_closeGuard]
    exact and_congr_right fun _ => ⟨fun h _ => h, fun h => h hclose⟩
  · rename_i hkeep
    exact ⟨fun h => ⟨h, fun e => absurd e hkeep⟩, And.left⟩

theorem State.closedFailed_changesAt (s : State) (c : Context) (record : CloseRecord) :
    s.ChangesAt (s.closedFailed c record) c.tag (Context.closed .failed record) where
  tag _ := rfl
  contexts := rfl
  reservations := rfl
  guard := State.guardAfterClose_lawful c
  others x hx := State.mem_tags_guardAfterClose.trans (and_iff_left fun _ => hx)
  switches := map_key_of_map (fun w : Switch => w.plan.index) (f := Switch.dropTag c.tag) (fun _ => rfl) s.sbc
  routes := map_key_of_map (fun r : Route => r.plan.id) (f := Route.unbusy c.tag)
    (fun r => by unfold Route.unbusy; split <;> rfl) s.rtb.routes

theorem State.closeFailed_upholds {s : State} {c : Context} (hc : s.context? c.tag = some c) (hopen : c.isOpen = true)
    (record : CloseRecord) : s.Upholds (s.closeFailed c record) := by
  rw [State.closeFailed_eq]
  refine State.Upholds.trans ?_ (State.handOver_upholds _ c false record)
  refine (s.closedFailed_changesAt c record).upholds hc fun hearly hstands => ⟨fun h => h.elim nofun nofun, ?_⟩
  show c.tag ∈ (s.guardAfterClose c).tags ↔ _
  rw [State.mem_tags_guardAfterClose, hstands, Context.holdsLines_failed]
  rcases Context.isOpen_iff.mp hopen with (hp | hp) | hp
  · simp [Context.holdsLines_answer hp, hearly (.inl hp)]
  · simp [hp, hearly (.inr hp)]
  · rw [Context.holdsLines_move hp]
    simp [hp]

theorem State.closeOpen_upholds (record : Context → CloseRecord) (s : State) (g : Tag) :
    s.Upholds (State.closeOpen record s g) := by
  unfold State.closeOpen
  split
  · rename_i c hc
    obtain rfl : c.tag = g := (State.context_spec hc).2
    split
    · exact State.closeFailed_upholds hc ‹_› _
    · exact .refl s
  · exact .refl s

/-- Contexts that an event names close one after another. -/
theorem State.closeEach_upholds (record : Context → CloseRecord) (l : List Tag) (s : State) :
    s.Upholds (l.foldl (State.closeOpen record) s) := .foldl (State.closeOpen_upholds record) l s

/-! ### Entry to COLD (R75) -/

theorem Context.toCold_linePart (quiet : Nat) (pass : Bool) (x : Context) :
    (x.toCold quiet pass).linePart = (x.tag, x.role, .cold, x.driven) := by
  unfold Context.toCold
  dsimp only
  split
  · rw [Context.quietPass_linePart]; rfl
  · rfl

theorem State.coldTest_spec (s : State) (c : Context) : (s.rfg.lawful → (s.coldTest c).2.lawful) ∧
    ∀ x, x ∈ (s.coldTest c).2.tags ↔ x ∈ s.rfg.tags ∨ x = c.tag := by
  refine ⟨fun h => Rfg.lawful_quietTest (Rfg.lawful_openGuard h _ _ _ _) _, fun x => ?_⟩
  unfold State.coldTest
  rw [Rfg.tags_congr (Rfg.quietTest_linePart _ _), Rfg.mem_tags_openGuard]

theorem State.intoCold_changesAt (s : State) (c : Context) :
    s.ChangesAt (s.intoCold c) c.tag (Context.toCold s.cxe.quietTimeout (s.coldTest c).1) where
  tag x := congrArg Prod.fst (x.toCold_linePart _ _)
  contexts := rfl
  reservations := rfl
  guard := (s.coldTest_spec c).1
  others x hx := ((s.coldTest_spec c).2 x).trans (or_iff_left hx)
  switches := rfl
  routes := rfl

@[simp] theorem State.trimStep_lawPart (s : State) (g : Tag) : (s.trimStep g).lawPart = s.lawPart := by
  unfold State.trimStep
  split
  · rfl
  · split
    · rfl
    · split
      · dsimp only
        rw [State.fixTrim_lawPart]
        exact s.onContext_lawPart g fun _ => rfl
      · exact (State.withRfg_lawPart _ (Rfg.setWatch_linePart _ g false)).trans
          (s.onContext_lawPart g Context.trimFail_linePart)

/-- A context that is not SPONSOR ONLY has its guard entry from its entry to COLD on (R75, R98). -/
theorem State.intoCold_upholds {s : State} {c : Context} (hc : s.context? c.tag = some c) (hp : c.phase = .answer)
    (hrole : c.role ≠ .sponsorOnly) : s.Upholds (s.intoCold c) := by
  refine (s.intoCold_changesAt c).upholds hc fun hearly _ => ?_
  have hpart := c.toCold_linePart s.cxe.quietTimeout (s.coldTest c).1
  simp only [Context.linePart, Prod.mk.injEq] at hpart
  obtain ⟨_, hr, hphase, hdriven⟩ := hpart
  refine ⟨fun _ => hdriven.trans (hearly (.inl hp)), iff_of_true (((s.coldTest_spec c).2 _).mpr (.inr rfl)) ?_⟩
  rw [Context.holdsLines_cold hphase, hr]
  exact hrole

theorem State.enterCold_upholds {s : State} {c : Context} (hc : s.context? c.tag = some c) (hp : c.phase = .answer) :
    s.Upholds (s.enterCold c) := by
  by_cases hrole : c.role = .sponsorOnly
  · have hchange : s.ChangesAt (s.onContext c.tag (fun x => { x with phase := .cold })) c.tag (fun x => { x with phase := .cold }) :=
      ⟨fun _ => rfl, rfl, rfl, id, fun _ _ => .rfl, rfl, rfl⟩
    unfold State.enterCold
    rw [if_pos hrole]
    refine hchange.upholds hc fun hearly hstands => ⟨fun _ => hearly (.inl hp), hstands.trans ?_⟩
    simp [Context.holdsLines, hrole]
  · have hcold := State.intoCold_upholds hc hp hrole
    rw [State.enterCold_eq s hrole]
    split
    · exact hcold.trans (.of_part (State.trimStep_lawPart _ _))
    · exact hcold

/-! ### Entry to MOVE (R78) -/

/-- The drives of an entry to MOVE meet neither the changeover table nor the guard. -/
theorem State.moveDrives_kept (s : State) (c : Context) : (s.moveDrives c).cxe = s.cxe ∧ (s.moveDrives c).rfg = s.rfg := by
  have hbreak : (s.breakOf c).rfg = s.rfg := by
    unfold State.breakOf State.breakDown
    repeat' split
    all_goals rfl
  unfold State.moveDrives
  split
  · rw [State.driveAll_rest]
    exact ⟨s.breakOf_cxe c, hbreak⟩
  · exact ⟨s.breakOf_cxe c, hbreak⟩

theorem State.moveDrives_lawPart (s : State) (c : Context) : (s.moveDrives c).lawPart = s.lawPart := by
  unfold State.moveDrives
  split
  · exact (State.driveAll_lawPart _ _ _).trans (s.breakOf_lawPart c)
  · exact s.breakOf_lawPart c

theorem State.enterMove_changesAt (s : State) (c : Context) :
    s.ChangesAt (s.enterMove c) c.tag (Context.moved (s.moveAnswers c)) := by
  obtain ⟨hcxe, hrfg⟩ := s.moveDrives_kept c
  have hpart := s.moveDrives_lawPart c
  simp only [State.lawPart, Prod.mk.injEq] at hpart
  obtain ⟨_, _, _, hsbc, hroutes⟩ := hpart
  rw [State.enterMove_parts]
  refine ⟨Context.moved_tag _, ?_, ?_, fun h => hrfg ▸ h, fun x _ => ?_, hsbc, hroutes⟩
  · show (s.moveDrives c).cxe.contexts.map _ = s.cxe.contexts.map _
    rw [hcxe]
  · show (s.moveDrives c).cxe.reservations = _
    rw [hcxe]
  · show x ∈ (s.moveDrives c).rfg.tags ↔ _
    rw [hrfg]

theorem State.enterMove_upholds {s : State} {c : Context} (hc : s.context? c.tag = some c) (hp : c.phase = .cold) :
    s.Upholds (s.enterMove c) := by
  have hmoved := Context.movesTo_moved (s.moveAnswers c) c
  have hphase : (c.moved (s.moveAnswers c)).phase = .move := hmoved.phase
  have hrole : (c.moved (s.moveAnswers c)).role = c.role := hmoved.role
  have hrfg : (s.enterMove c).rfg = s.rfg := by
    rw [State.enterMove_parts]
    exact (s.moveDrives_kept c).2
  refine (s.enterMove_changesAt c).upholds hc fun _ hstands => ⟨fun h => ?_, ?_⟩
  · rcases h with h | h <;> rw [hphase] at h <;> cases h
  · rw [hrfg, hstands, Context.holdsLines_cold hp, Context.holdsLines_move hphase, hrole]

/-! ### Entry to DONE (R81) -/

theorem State.closedDone_linePart (s : State) (c : Context) :
    (s.closedDone c).rfg.linePart = (s.rfg.closeGuard c.tag).linePart := by
  rw [State.closedDone_rfg]
  split <;> rfl

theorem State.closedDone_changesAt (s : State) (c : Context) :
    s.ChangesAt (s.closedDone c) c.tag (Context.closed .done (.at .ok none)) := by
  obtain ⟨hcxe, hsbc, hrtb, _⟩ := s.closedDone_kept c
  have hline := s.closedDone_linePart c
  have hpart : ((s.makeEstablished c).dropBusy c.tag).lawPart = s.lawPart := by simp
  simp only [State.lawPart, Prod.mk.injEq] at hpart
  obtain ⟨_, _, _, hindices, hids⟩ := hpart
  refine ⟨fun _ => rfl, by rw [hcxe]; rfl, by rw [hcxe], fun h => ?_, fun x hx => ?_, by rw [hsbc]; exact hindices,
    by rw [hrtb]; exact hids⟩
  · exact Rfg.lawful_of_same (Rfg.lawful_closeGuard h c.tag) (congrArg Prod.snd hline) (congrArg Prod.fst hline)
  · rw [Rfg.tags_congr hline, Rfg.mem_tags_closeGuard, and_iff_left hx]

/-- At DONE the lines are released and nothing is held (R81, R99). -/
theorem State.enterDone_upholds {s : State} {c : Context} (hc : s.context? c.tag = some c) : s.Upholds (s.enterDone c) := by
  rw [State.enterDone_eq]
  refine State.Upholds.trans ?_ (State.handOver_upholds _ c true _)
  refine (s.closedDone_changesAt c).upholds hc fun _ _ => ⟨fun h => h.elim nofun nofun, ?_⟩
  rw [Rfg.tags_congr (s.closedDone_linePart c), Rfg.mem_tags_closeGuard, Context.holdsLines_done]
  simp

/-! ### The phase tests (R73, R77, R80) -/

theorem State.testPhases_upholds (v : Voice) (g : Tag) : ∀ (fuel : Nat) (s : State), s.Upholds (State.testPhases v g fuel s)
  | 0, s => .refl s
  | fuel + 1, s => by
    unfold State.testPhases
    split
    · exact .refl s
    rename_i c hc
    obtain rfl : c.tag = g := (State.context_spec hc).2
    split
    · exact .refl s
    rename_i hopen
    split
    · exact State.closeFailed_upholds hc (by simpa using hopen) _
    split
    · exact (State.enterCold_upholds hc (And.left ‹_›)).trans (State.testPhases_upholds v c.tag fuel _)
    split
    · exact (State.enterMove_upholds hc (And.left ‹_›)).trans (State.testPhases_upholds v c.tag fuel _)
    split
    · exact State.enterDone_upholds hc
    · exact .refl s

end Sys2Proof.Machine
end

section
/-! SUPPORT. Records heard, outcomes told, contexts freed and the work of a frame end uphold the guard law, the table laws and the
law of R99. -/

namespace Sys2Proof.Machine

/-! ### Records heard (R65 to R72) -/

theorem State.takeEntry_upholds (sender : Nat) (s : State) (e : StageEntry) : s.Upholds (State.takeEntry sender s e) := by
  unfold State.takeEntry
  split
  · exact .refl s
  dsimp only
  split
  · refine State.Upholds.trans ?_ (State.testPhases_upholds _ _ 4 _)
    split
    · exact .of_part (s.onContext_lawPart _ fun _ => rfl)
    · exact .refl s
  · exact .refl s

/-- A context of a new tag takes a free place, and in ANSWER it holds no lines and has driven nothing (R64, R65). -/
theorem State.withContext_upholds {s : State} {x : Context} (hnew : s.context? x.tag = none) (hfree : s.placeFree = true)
    (hp : x.phase = .answer) (hdriven : x.driven = []) : s.Upholds (s.withContext x) := by
  have hmem : ∀ y, y ∈ (s.withContext x).cxe.contexts ↔ y ∈ s.cxe.contexts ∨ y = x := fun y => by simp [State.withContext]
  refine ⟨id, fun h => ⟨?_, ?_⟩, id, id, fun _ h => ?_⟩
  · have hfresh : ∀ y ∈ s.cxe.contexts, y.tag ≠ x.tag := fun y hy e => by
      have := List.find?_eq_none.mp hnew y hy
      simp [e] at this
    simp only [State.withContext, List.map_append, List.nodup_append]
    refine ⟨h.1, List.nodup_singleton _, fun g hg k hk => ?_⟩
    obtain ⟨y, hy, rfl⟩ := List.mem_map.mp hg
    obtain rfl := List.mem_singleton.mp hk
    exact hfresh y hy
  · have hroom : s.cxe.contexts.length + s.cxe.reservations.length < Config.tablePlaces := of_decide_eq_true hfree
    simp only [State.withContext, List.length_append, List.length_singleton]
    omega
  · obtain ⟨hearly, hstands⟩ := s.guardFollows_iff.mp h
    refine (State.guardFollows_iff _).mpr ⟨fun y hy he => ?_, fun g => (hstands g).trans ?_⟩
    · rcases (hmem y).mp hy with hy | rfl
      · exact hearly y hy he
      · exact hdriven
    · refine exists_congr fun y => ⟨fun ⟨hy, hrest⟩ => ⟨(hmem y).mpr (.inl hy), hrest⟩, fun ⟨hy, htag, hl⟩ => ?_⟩
      rcases (hmem y).mp hy with hy | rfl
      · exact ⟨hy, htag, hl⟩
      · rw [Context.holdsLines_answer hp] at hl
        cases hl

theorem State.openContext_upholds {s : State} {p : Propose} {n : Nat} (hnew : s.context? { sponsor := n, seq := p.seq } = none)
    (hfree : s.placeFree = true) : s.Upholds (s.openContext p n) := by
  obtain ⟨role, report, t, e, ht⟩ := s.openContext_cases p n
  have hfreed : ∀ r, (Route.markFree { sponsor := n, seq := p.seq } r).plan = r.plan := fun r => (r.markFree_kept _).1
  have hopened : t.lawPart = s.lawPart ∧ t.cxe = s.cxe := by
    rcases ht with rfl | rfl | ⟨_, rfl | ⟨_, rfl⟩⟩
    · exact ⟨rfl, rfl⟩
    · exact ⟨s.markRoutes_lawPart _ _ hfreed, s.markRoutes_cxe _ _ _⟩
    · exact ⟨s.markRoutes_lawPart _ _ fun _ => rfl, s.markRoutes_cxe _ _ _⟩
    · rw [State.claimCheck_lawPart, State.claimCheck_rest]
      exact ⟨s.markRoutes_lawPart _ _ fun _ => rfl, s.markRoutes_cxe _ _ _⟩
  obtain ⟨hpart, hcxe⟩ := hopened
  rw [e]
  refine (State.Upholds.of_part hpart).trans (State.withContext_upholds ?_ ?_ rfl rfl)
  · unfold State.context?
    rw [hcxe]
    exact hnew
  · unfold State.placeFree
    rw [hcxe]
    exact hfree

theorem State.endReservation_upholds (s : State) : s.Upholds s.endReservation := by
  unfold State.endReservation
  split
  · exact s.unreserve_upholds _
  · exact .refl s

theorem State.endReservation_context (s : State) (g : Tag) : s.endReservation.context? g = s.context? g := by
  unfold State.endReservation
  split <;> rfl

theorem State.proposeHeard_upholds (s : State) (sponsor : Nat) (p : Propose) : s.Upholds (s.proposeHeard sponsor p) := by
  have hreject : s.Upholds s.countRejected := .of_part rfl
  unfold State.proposeHeard
  dsimp only
  split
  · exact .refl s
  split
  · split
    · exact (hreject.trans (State.endReservation_upholds _)).trans (State.proposeNotOpened_upholds _)
    · exact hreject
  rename_i hnew
  have hown : s.Upholds (if (sponsor == s.me) = true then s.endReservation else s) ∧
      (if (sponsor == s.me) = true then s.endReservation else s).context? { sponsor := sponsor, seq := p.seq } = none := by
    have hx : s.context? { sponsor := sponsor, seq := p.seq } = none := by
      simp only [Bool.or_eq_true, not_or] at hnew
      simpa using hnew.2
    split
    · exact ⟨s.endReservation_upholds, (s.endReservation_context _).trans hx⟩
    · exact ⟨.refl s, hx⟩
  generalize (if (sponsor == s.me) = true then s.endReservation else s) = t at hown ⊢
  obtain ⟨hupholds, hx⟩ := hown
  refine hupholds.trans ?_
  split
  · have hopened := State.openContext_upholds hx ‹_›
    split
    · exact hopened.trans (.of_part (State.proposeOpened_lawPart _))
    · exact hopened
  · exact .of_part rfl

theorem State.messageHeard_upholds (s : State) (sender : Nat) (changeovers : Bool) (m : Option Message) :
    s.Upholds (s.messageHeard sender changeovers m) := by
  unfold State.messageHeard
  split
  · exact .refl s
  · split
    · exact s.proposeHeard_upholds sender _
    · exact .refl s
  · rename_i route force
    have hr : s.Upholds (s.releaseHeard sender route force).2 := .of_part (s.releaseHeard_lawPart sender route force)
    dsimp only
    split
    · exact hr.trans (State.releaseAnswered_upholds _ _)
    · exact hr

theorem State.deliver_upholds (s : State) (r : SlotRecord) : s.Upholds (s.deliver r) := by
  unfold State.deliver
  split
  · exact ((State.Upholds.foldl (State.takeEntry_upholds r.sender) r.entries s).trans (State.closeEach_upholds _ _ _)).trans
      (State.messageHeard_upholds _ _ _ _)
  · exact s.messageHeard_upholds _ _ _

/-! ### Freeing (R85) -/

/-- A context is freed once it holds no lines: closed, with nothing it drove still to settle (R85, R151). -/
theorem State.without_upholds {s : State} {c : Context} (hc : s.context? c.tag = some c) (hl : c.holdsLines = false) :
    s.Upholds (s.without c.tag) := by
  have hmem : ∀ y, y ∈ (s.without c.tag).cxe.contexts ↔ y ∈ s.cxe.contexts ∧ y.tag ≠ c.tag := fun y => by
    simp [State.without, List.mem_filter]
  have hsbc : (s.without c.tag).sbc.map (fun w => w.plan.index) = s.sbc.map (fun w => w.plan.index) :=
    map_key_of_map (fun w : Switch => w.plan.index) (f := fun w => { w with waiters := w.waiters.filter (fun t => t != c.tag) })
      (fun _ => rfl) s.sbc
  refine ⟨id, fun h => ⟨h.1.sublist (List.filter_sublist.map Context.tag), ?_⟩, fun h => ?_, id, fun htable h => ?_⟩
  · exact (Nat.add_le_add_right (List.length_filter_le _ _) _).trans h.2
  · unfold State.switchLawful
    rw [hsbc]
    exact h
  · obtain ⟨hearly, hstands⟩ := s.guardFollows_iff.mp h
    refine (State.guardFollows_iff _).mpr ⟨fun y hy => hearly y ((hmem y).mp hy).1, fun g => (hstands g).trans ?_⟩
    refine exists_congr fun y => ⟨fun ⟨hy, htag, hheld⟩ => ⟨(hmem y).mpr ⟨hy, fun e => ?_⟩, htag, hheld⟩,
      fun ⟨hy, hrest⟩ => ⟨((hmem y).mp hy).1, hrest⟩⟩
    obtain rfl := context_unique htable.1 hy (State.context_spec hc).1 e
    rw [hl] at hheld
    cases hheld

theorem State.freeIfDone_upholds (s : State) (g : Tag) : s.Upholds (s.freeIfDone g) := by
  unfold State.freeIfDone
  split
  · rename_i c hc
    obtain rfl : c.tag = g := (State.context_spec hc).2
    split
    · rename_i hfree
      simp only [Bool.and_eq_true, Bool.not_eq_true', List.isEmpty_iff] at hfree
      obtain ⟨⟨hclosed, _⟩, hdriven⟩ := hfree
      have hl : c.holdsLines = false := by
        rcases (Context.isOpen_eq_false c).mp hclosed with hp | hp <;> simp [Context.holdsLines, hp, hdriven]
      exact (State.without_upholds hc hl).trans (.of_part (State.drainTest_lawPart _))
    · exact .refl s
  · exact .refl s

/-! ### Settles (R17, R79, R151) -/

theorem Context.takeOutcome_linePart (c : Context) (l : List Nat) (o : SettleOutcome) :
    (c.takeOutcome l o).linePart = (c.tag, c.role, c.phase, c.driven.filter (fun i => i ∉ l)) := by
  have hmoves := c.movesTo_takeOutcome l o
  exact Prod.ext hmoves.tag (Prod.ext hmoves.role (Prod.ext hmoves.phase (c.takeOutcome_sets l o).2.1))

/-- A context that closed FAILED releases its lines as the last of its driven switches settles (R151). -/
theorem State.outcomeAtClosed_upholds {s : State} {c : Context} (hc : s.context? c.tag = some c) (report : SettleReport) :
    s.Upholds (s.outcomeAtClosed c report c.tag) := by
  have hpart := c.takeOutcome_linePart report.switches report.outcome
  simp only [Context.linePart, Prod.mk.injEq] at hpart
  obtain ⟨_, hrole, hphase, hdriven⟩ := hpart
  have hleft : (c.leaving report.switches).driven = c.driven.filter (fun i => i ∉ report.switches) := rfl
  have hearly : (c.early → c.driven = []) → (c.takeOutcome report.switches report.outcome).early →
      (c.takeOutcome report.switches report.outcome).driven = [] := by
    intro h he
    unfold Context.early at he
    rw [hphase] at he
    rw [hdriven, h he]
    rfl
  unfold State.outcomeAtClosed
  dsimp only
  split
  · rename_i hlast
    obtain ⟨hp, _, hempty⟩ := hlast
    have hchange : s.ChangesAt ((s.onContext c.tag (fun x => x.takeOutcome report.switches report.outcome)).closeGuard c.tag) c.tag
        (fun x => x.takeOutcome report.switches report.outcome) :=
      ⟨fun x => x.takeOutcome_tag _ _, rfl, rfl, fun h => Rfg.lawful_closeGuard h c.tag,
        fun x hx => Rfg.mem_tags_closeGuard.trans (and_iff_left hx), rfl, rfl⟩
    refine hchange.upholds hc fun h _ => ⟨hearly h, ?_⟩
    show c.tag ∈ (s.rfg.closeGuard c.tag).tags ↔ _
    rw [Rfg.mem_tags_closeGuard]
    have hnone : (c.takeOutcome report.switches report.outcome).driven = [] := hdriven.trans hempty
    simp [Context.holdsLines, hphase, hp, hnone]
  · rename_i hnot
    have hchange : s.ChangesAt (s.onContext c.tag (fun x => x.takeOutcome report.switches report.outcome)) c.tag
        (fun x => x.takeOutcome report.switches report.outcome) :=
      ⟨fun x => x.takeOutcome_tag _ _, rfl, rfl, id, fun _ _ => .rfl, rfl, rfl⟩
    refine hchange.upholds hc fun h hstands => ⟨hearly h, hstands.trans ?_⟩
    have hsame : c.phase = .failed → (c.driven = [] ↔ (c.leaving report.switches).driven = []) := fun hp =>
      ⟨fun hd => by rw [hleft, hd]; rfl, fun he => by_contra fun hd => hnot ⟨hp, hd, he⟩⟩
    unfold Context.holdsLines
    rw [hrole, hphase, hdriven, ← hleft]
    cases hp : c.phase
    case failed => simp [hsame hp]
    all_goals simp

theorem State.tellOutcome_upholds (report : SettleReport) (s : State) (g : Tag) : s.Upholds (State.tellOutcome report s g) := by
  cases hc : s.context? g with
  | none =>
    rw [State.tellOutcome_none hc]
    exact .refl s
  | some c =>
    obtain rfl : c.tag = g := (State.context_spec hc).2
    rw [State.tellOutcome_closed hc]
    exact (State.outcomeAtClosed_upholds hc report).trans (State.freeIfDone_upholds _ _)

theorem State.settleEnds_upholds (s : State) (i : Nat) : s.Upholds (s.settleEnds i) :=
  (State.Upholds.of_part (s.endSettle_lawPart i)).trans (.foldl (State.tellOutcome_upholds _) _ _)

/-! ### Windows and samples (R74, R76, R100) -/

theorem State.windowRunsOut_upholds (s : State) (g : Tag) : s.Upholds (s.windowRunsOut g) := by
  unfold State.windowRunsOut
  split
  · rename_i c hc
    obtain rfl : c.tag = g := (State.context_spec hc).2
    split
    · rename_i hends
      have hcounted : (s.onContext c.tag (fun x => { x with window := 0 })).context? c.tag = some { c with window := 0 } := by
        rw [State.context_onContext s c.tag c.tag (fun x => { x with window := 0 }) (fun _ => rfl), if_pos rfl, hc]
        rfl
      have hopen : ({ c with window := 0 } : Context).isOpen = true := Context.isOpen_iff.mpr (.inl (.inl hends.1))
      exact (State.Upholds.of_part (s.onContext_lawPart c.tag (f := fun x => { x with window := 0 }) fun _ => rfl)).trans
        (State.closeFailed_upholds (c := { c with window := 0 }) hcounted hopen _)
    · exact .refl s
  · exact .refl s

theorem State.quietRunsOut_lawPart (s : State) (g : Tag) : (s.quietRunsOut g).lawPart = s.lawPart := by
  unfold State.quietRunsOut
  split
  · split
    · exact (State.withRfg_lawPart _ (Rfg.setWatch_linePart _ g false)).trans
        (s.onContext_lawPart g fun x => Context.quietFail_linePart { x with quietLeft := 0 })
    · rfl
  · rfl

theorem State.sampleTaken_lawPart (s : State) (input : Nat) (level : Int) : (s.sampleTaken input level).lawPart = s.lawPart := by
  unfold State.sampleTaken State.quietPasses
  exact (foldl_keeps _ State.lawPart (fun u g => u.onContext_lawPart g Context.quietPass_linePart) _ _).trans
    (s.withRfg_lawPart (s.rfg.takeSample_linePart input level))

/-! ### The work of a frame end (R43) -/

theorem State.peersGoAbsent_upholds (s : State) : s.Upholds s.peersGoAbsent := by
  unfold State.peersGoAbsent
  refine State.Upholds.trans (.trans (.foldl (fun u n => ?_) _ s) (State.closeEach_upholds _ _ _))
    (.of_part (State.orphanRoutes_lawPart _ _))
  exact .of_part rfl

theorem State.silenceComplete_lawPart (s : State) : s.silenceComplete.lawPart = s.lawPart := by
  unfold State.silenceComplete
  split <;> rfl

theorem State.clearComplete_upholds (s : State) : s.Upholds s.clearComplete := by
  unfold State.clearComplete
  split
  · have hjoined : s.Upholds { s with biu := { s.biu with busState := .onBus } } := .of_part rfl
    exact hjoined.trans (State.sponsorEvent_upholds _)
  · exact .refl s

theorem State.backoffRunsOut_upholds (s : State) (name : SlotName) : s.Upholds (s.backoffRunsOut name) := by
  unfold State.backoffRunsOut
  dsimp only
  split
  · exact (s.retrySlot_upholds name).trans (State.sponsorEvent_upholds _)
  · exact s.retrySlot_upholds name

theorem State.doWork_upholds (s : State) (w : Work) : s.Upholds (s.doWork w) := by
  refine State.Upholds.trans ?_ (.of_part (State.complete_lawPart _))
  cases w with
  | settle i =>
    dsimp only
    split
    · exact s.settleEnds_upholds i
    · exact .refl s
  | quiet g => exact .of_part (s.quietRunsOut_lawPart g)
  | window g => exact s.windowRunsOut_upholds g
  | absence => exact s.peersGoAbsent_upholds
  | linger g => exact s.freeIfDone_upholds g
  | silence => exact .of_part s.silenceComplete_lawPart
  | clear => exact s.clearComplete_upholds
  | backoff name => exact s.backoffRunsOut_upholds name
  | takeUp => exact s.takeUps_upholds

theorem State.caughtUp_upholds (s : State) : s.Upholds s.caughtUp := by
  have hemptied : s.Upholds { s with agenda := [] } := .of_part rfl
  exact hemptied.trans (.foldl State.doWork_upholds _ _)

theorem State.workNow_upholds (s : State) (w : Work) : s.Upholds (s.workNow w) := by
  unfold State.workNow
  split
  · have htaken : s.Upholds { s with agenda := s.agenda.erase w } := .of_part rfl
    exact htaken.trans (State.doWork_upholds _ w)
  · exact .refl s

theorem Switch.settleTick_plan (w : Switch) : w.settleTick.plan = w.plan := congrArg Prod.fst w.settleTick_claimPart

theorem State.frameEnds_lawPart (s : State) (sense : SenseLevels) : (s.frameEnds sense).lawPart = s.lawPart := by
  unfold State.frameEnds
  split
  · refine (State.drainTest_lawPart (State.countFrame { s with sense := sense })).trans ?_
    unfold State.lawPart State.countFrame
    dsimp only
    rw [map_key_of_map (fun w : Switch => w.plan.index) fun w => congrArg SwitchPlan.index w.settleTick_plan,
      map_key_of_map Context.linePart (f := Context.frameEnd) fun _ => rfl]
  · rfl

end Sys2Proof.Machine
end

section
/-! SUPPORT. That every command upholds the guard law, the table laws and the law of R99: the bus, the controller port, the load and
the resets. -/

namespace Sys2Proof.Machine

/-! ### The bus (R44 to R57) -/

theorem State.enterDuplicate_upholds (s : State) (cause : DuplicateCause) : s.Upholds (s.enterDuplicate cause) := by
  have hsilent : s.Upholds { s with biu := { s.biu with busState := .duplicate, cause := some cause, outbound := [] } } :=
    .of_part rfl
  have hended : ∀ u : State, u.Upholds { u with cxe := { u.cxe with reservations := [] } } := fun u =>
    .of_bankSide rfl fun hc h => Cxe.lawful_of_fewer h hc (Nat.zero_le _)
  unfold State.enterDuplicate State.fallSilent
  refine ((hsilent.trans ?_).trans (State.closeEach_upholds _ _ _)).trans
    ((State.endSilent_upholds _ .a).trans (State.endSilent_upholds _ .b))
  exact (State.Upholds.of_part (State.fire_lawPart _ _ _)).trans (hended _)

theorem State.peerSlot_upholds (s : State) (n : Nat) (heard : Heard) : s.Upholds (s.peerSlot n heard) := by
  cases heard with
  | nothing => exact .refl s
  | failed => exact .of_part rfl
  | good r =>
    refine State.Upholds.trans (.of_part ?_) (State.deliver_upholds _ r)
    unfold State.peerHeard
    dsimp only
    split <;> rfl

theorem State.ownSlot_upholds (s : State) (copy : Option SlotRecord) (heard : Heard) : s.Upholds (s.ownSlot copy heard) := by
  have hsignal : s.Upholds { s with biu := s.biu.signalHeard } := .of_part rfl
  unfold State.ownSlot
  split
  iterate 2
    split
    · exact s.deliver_upholds _
    · exact s.enterDuplicate_upholds _
  iterate 2 exact s.enterDuplicate_upholds _
  iterate 2
    split
    · exact s.enterDuplicate_upholds _
    · exact .refl s
  · split
    · exact (s.deliver_upholds _).trans (State.enterDuplicate_upholds _ _)
    · exact .refl s
  · split
    · exact s.enterDuplicate_upholds _
    · exact .refl s
  · exact hsignal.trans (State.deliver_upholds _ _)
  · exact hsignal
  · exact .refl s

theorem State.endSlot_upholds (s : State) (line : Bits) : s.Upholds (s.endSlot line) := by
  unfold State.endSlot
  split
  · split
    · dsimp only
      split
      · refine State.Upholds.trans ?_ (State.ownSlot_upholds _ _ _)
        exact .of_part rfl
      · refine State.Upholds.trans ?_ (State.peerSlot_upholds _ _ _)
        exact .of_part rfl
    · exact .refl s
  · exact .refl s

theorem State.startOwnSlot_lawPart (s : State) : s.startOwnSlot.lawPart = s.lawPart := by
  unfold State.startOwnSlot
  dsimp only
  split
  · exact (State.takeMessage_lawPart _).trans s.testWithdrawals_lawPart
  · rfl

theorem State.timerDrives_lawPart (s : State) : s.timerDrives.lawPart = s.lawPart := by
  rcases s.timerDrives_cases with e | e <;> rw [e] <;> rfl

theorem State.syncSeen_lawPart (s : State) : s.syncSeen.lawPart = s.lawPart := by
  unfold State.syncSeen
  split <;> rfl

theorem State.frameTimerExpires_lawPart (s : State) : s.frameTimerExpires.lawPart = s.lawPart := by
  unfold State.frameTimerExpires
  split
  · split
    · rfl
    · exact s.timerDrives_lawPart
  · rfl

theorem State.searchSpanExpires_lawPart (s : State) : s.searchSpanExpires.lawPart = s.lawPart := by
  unfold State.searchSpanExpires
  split
  · exact s.timerDrives_lawPart
  · rfl

/-! ### The controller port (chapter 9) -/

theorem State.leave_lawPart (s : State) : s.leave.2.lawPart = s.lawPart := by
  unfold State.leave
  split <;> rfl

theorem State.join_upholds (s : State) : s.Upholds s.join.2 := by
  unfold State.join
  split
  · dsimp only
    split <;> exact .of_part rfl
  · have hjoined : s.Upholds { s with biu := { s.biu with busState := .onBus } } := .of_part rfl
    exact hjoined.trans (State.sponsorEvent_upholds _)
  all_goals exact .refl s

theorem Switch.restart_plan (sense : SenseLevels) (w : Switch) : (w.restart sense).plan = w.plan := by
  unfold Switch.restart
  dsimp only
  split <;> rfl

/-- RESTART leaves no context, no reservation and no guard entry (R93, R109). -/
theorem State.restarted_upholds (s : State) : s.Upholds s.restarted := by
  have hsbc : s.restarted.sbc.map (fun w => w.plan.index) = s.sbc.map (fun w => w.plan.index) :=
    map_key_of_map (fun w : Switch => w.plan.index) (f := Switch.restart s.sense)
      (fun w => congrArg SwitchPlan.index (w.restart_plan s.sense)) s.sbc
  have hroutes : s.restarted.rtb.routes.map (fun r => r.plan.id) = s.rtb.routes.map (fun r => r.plan.id) :=
    map_key_of_map (fun r : Route => r.plan.id) (f := Route.restart) (fun _ => rfl) s.rtb.routes
  refine ⟨fun _ => s.rfg.lawful_restart, fun _ => ⟨List.nodup_nil, Nat.zero_le _⟩, fun h => ?_, fun h => ?_,
    fun _ _ => ⟨List.forall_mem_nil _, List.forall_mem_nil _, List.forall_mem_nil _⟩⟩
  · unfold State.switchLawful
    rw [hsbc]
    exact h
  · unfold State.routesLawful
    rw [hroutes]
    exact h

theorem State.submit_upholds (s : State) (j : Job) : s.Upholds (s.submit j).2 := by
  unfold State.submit
  split
  · exact .refl s
  · refine State.Upholds.trans ?_ (State.sponsorEvent_upholds _)
    exact .of_part rfl

theorem State.cancelTaken_upholds (s : State) (requestId : Nat) : s.Upholds (s.cancelTaken requestId).2 := by
  have h := s.cancelRequest_upholds requestId
  unfold State.cancelTaken
  split <;> rename_i e <;> rw [e] at h <;> exact h

theorem State.clearFaultOf_lawPart (s : State) (i : Nat) : (s.clearFaultOf i).2.lawPart = s.lawPart := by
  unfold State.clearFaultOf
  split
  · rfl
  · exact s.onSwitch_lawPart i fun v => congrArg (fun p => p.1.index) (v.clearFault_claimPart s.sense)

theorem State.takeNotice_lawPart (s : State) : s.takeNotice.2.lawPart = s.lawPart := by
  unfold State.takeNotice
  split <;> rfl

theorem State.clearEventSet_lawPart (s : State) (events : Word16) : (s.clearEventSet events).2.lawPart = s.lawPart := by
  unfold State.clearEventSet
  split <;> rfl

theorem State.saveWearTaken_lawPart (s : State) : s.saveWearTaken.2.lawPart = s.lawPart := by
  unfold State.saveWearTaken State.beginSave
  cases s.pld.save <;> rfl

theorem State.carryOut_upholds (s : State) (id : Nat) (body : RequestBody) : s.Upholds (s.carryOut id body).2 := by
  cases body with
  | make | breakRoute | exchange | retrim => exact s.submit_upholds _
  | cancel x => exact s.cancelTaken_upholds x
  | takeNotice => exact .of_part s.takeNotice_lawPart
  | queryRoute | querySwitch | wrongForm | unknownKind => exact .refl s
  | queryNode | setNotifyMap => exact .of_part rfl
  | clearFault i => exact .of_part (s.clearFaultOf_lawPart i)
  | clearEvents e => exact .of_part (s.clearEventSet_lawPart e)
  | saveWear => exact .of_part s.saveWearTaken_lawPart
  | leaveBus => exact .of_part s.leave_lawPart
  | joinBus => exact s.join_upholds
  | restart => exact s.restarted_upholds

theorem State.takeRequest_upholds (s : State) (r : Request) : s.Upholds (s.takeRequest r) := by
  have hanswer : s.Upholds (s.answer r).2 := by
    unfold State.answer
    split
    · exact .refl s
    · exact s.carryOut_upholds r.id r.body
  exact hanswer.trans (.of_part rfl)

theorem State.offer_upholds (s : State) (r : Request) : s.Upholds (s.offer r) := by
  unfold State.offer
  split
  · exact s.takeRequest_upholds r
  · exact .of_part rfl
  · exact .of_part rfl

theorem State.sensed_upholds (s : State) (sense : SenseLevels) : s.Upholds (s.sensed sense) := .of_part rfl

theorem State.frameArrived_upholds (s : State) (bytes : List Byte) : s.Upholds (s.frameArrived bytes) := by
  unfold State.frameArrived
  split
  · exact s.offer_upholds _
  · exact .of_part rfl

theorem State.sendComplete_upholds (s : State) : s.Upholds s.sendComplete := by
  have hfree : s.Upholds { s with ctp := { s.ctp with sending := none, rxBuffer := none } } := .of_part rfl
  unfold State.sendComplete
  split
  · exact .refl s
  · dsimp only
    split
    · exact hfree.trans (State.takeRequest_upholds _ _)
    · exact hfree

theorem State.saveAccepted_lawPart (s : State) : s.saveAccepted.lawPart = s.lawPart := by
  unfold State.saveAccepted
  split
  · rfl
  · dsimp only
    split <;> rfl

theorem State.saveFailed_lawPart (s : State) (reached : Nat) : (s.saveFailed reached).lawPart = s.lawPart := by
  unfold State.saveFailed
  split <;> rfl

/-! ### The load (R189 to R193) -/

theorem State.beginLoad_lawPart (s : State) (straps : Nat) (plan : List Byte) : (s.beginLoad straps plan).lawPart = s.lawPart := by
  unfold State.beginLoad
  split
  · dsimp only
    split <;> rfl
  · rfl

theorem State.rejectPlan_lawPart (s : State) : s.rejectPlan.lawPart = s.lawPart := by
  unfold State.rejectPlan
  split
  · split <;> rfl
  · rfl

theorem State.notAnswered_lawPart (s : State) (access : MemoryAccess) : (s.notAnswered access).lawPart = s.lawPart := by
  cases access with
  | planRead =>
    unfold State.notAnswered
    dsimp only
    split <;> rfl
  | wearRead =>
    unfold State.notAnswered
    dsimp only
    split
    · split <;> rfl
    · rfl
  | saveWrite reached => exact s.saveFailed_lawPart reached

theorem State.judgeWear_lawPart (s : State) : s.judgeWear.2.lawPart = s.lawPart := by
  unfold State.judgeWear
  split
  · rfl
  · split <;> rfl

/-- A plan that was read whole failed no check (R190). -/
theorem readPlan_passes {me : Nat} {bytes : List Byte} {p : RawPlan} (h : readPlan me bytes = .ok p) : p.firstFailure me = none := by
  unfold readPlan at h
  split at h
  · cases h
  split at h
  · split at h
    · cases h
    split at h
    · cases h
    split at h
    · split at h
      · cases h
      · cases h; assumption
    · cases h
  · cases h

/-- The routes of an accepted plan stand in rising order of their ids (R190 check 6). -/
theorem readPlan_ids {me : Nat} {bytes : List Byte} {p : RawPlan} (h : readPlan me bytes = .ok p) :
    (p.routes.map RawRoute.id).Nodup := by
  have horder : firstBad RawRoute.orderOk [] p.routes = none := by
    have hpass := List.findSome?_eq_none_iff.mp (readPlan_passes h) (.order, .routes, firstBad RawRoute.orderOk [] p.routes)
      (by simp [RawPlan.checks])
    simpa using hpass
  have hrising : p.routes.IsChain (fun q r => q.id < r.id) := by
    refine List.isChain_iff_forall_rel_of_append_cons_cons.mpr fun q r pre post e => ?_
    have hok := firstBad_none _ _ _ horder (pre ++ [q]) r post (by rw [e]; simp)
    simpa [RawRoute.orderOk] using (Bool.and_eq_true_iff.mp hok).2
  have hids : (p.routes.map RawRoute.id).Pairwise (· < ·) := by
    rw [List.pairwise_map]
    exact hrising.pairwise
  exact hids.imp Nat.ne_of_lt

/-- The blocks as an accepted plan fills them: one record for each switch index and route id, and no word of contexts, reservations
or guard entries (R1, R26, R193). -/
theorem State.fill_upholds {s : State} {p : RawPlan} (hindices : (p.switches.map RawSwitch.index).Nodup)
    (hids : (p.routes.map RawRoute.id).Nodup) (counts : Option (List Nat)) (sense : SenseLevels) :
    s.Upholds (s.fill p counts sense) := by
  have keep {β : Type} (f : State → β) (hf : ∀ (u : State) n x, f (u.fire n x) = f u) (l : List Switch) (u : State) :
      f (l.foldl (fun (s : State) (w : Switch) => s.fire .worn (.switch w.plan.index)) u) = f u :=
    foldl_keeps _ f (fun u w => hf u .worn (.switch w.plan.index)) l u
  have hrfg : (s.fill p counts sense).rfg.linePart = s.rfg.linePart := keep (fun u => u.rfg.linePart) (fun _ _ _ => rfl) _ _
  have hcontexts : (s.fill p counts sense).cxe.contexts = s.cxe.contexts := keep (fun u => u.cxe.contexts) (fun _ _ _ => rfl) _ _
  have hplaces : (s.fill p counts sense).cxe.reservations = s.cxe.reservations :=
    keep (fun u => u.cxe.reservations) (fun _ _ _ => rfl) _ _
  obtain ⟨hroutes, _, _, hsbc⟩ := (s.fill_filled p counts sense).1
  refine ⟨fun h => Rfg.lawful_of_same h (congrArg Prod.snd hrfg) (congrArg Prod.fst hrfg), fun h => ?_, fun _ => ?_, fun _ => ?_,
    fun _ => State.guardFollows_congr (by rw [hcontexts]) (Rfg.tags_congr hrfg)⟩
  · exact Cxe.lawful_of_same h (by rw [hcontexts]) hplaces
  · unfold State.switchLawful
    rw [hsbc, List.map_map]
    exact hindices
  · unfold State.routesLawful
    rw [hroutes, List.map_map]
    exact hids

theorem State.acceptPlan_upholds (s : State) (sense : SenseLevels) : s.Upholds (s.acceptPlan sense) := by
  unfold State.acceptPlan
  split
  · split
    · rename_i p hp
      exact (State.Upholds.of_part s.judgeWear_lawPart).trans
        (State.fill_upholds (readPlan_checked hp).indices.1 (readPlan_ids hp) _ sense)
    · exact .refl s
  · exact .refl s

/-- A hardware reset leaves every table empty and no inhibit line in use (R24, R41, R92, R108). -/
theorem State.hardwareReset_upholds (s : State) (reached : Nat) : s.Upholds (s.hardwareReset reached) :=
  ⟨fun _ => Rfg.reset_lawful, fun _ => ⟨List.nodup_nil, Nat.zero_le _⟩, fun _ => List.nodup_nil, fun _ => List.nodup_nil,
    fun _ _ => ⟨List.forall_mem_nil _, List.forall_mem_nil _, List.forall_mem_nil _⟩⟩

/-! ### Every command -/

/-- A command that acts as one event upholds the laws where its own meaning does. -/
theorem State.event_upholds {s t : State} {act : State → State} (hact : ∀ u : State, u.Upholds (act u))
    (e : s.event act = .next t) : s.Upholds t := by
  cases e
  exact (s.caughtUp_upholds.trans (hact _)).trans (.of_part (State.complete_lawPart _))

theorem State.event_lawPart {s t : State} {act : State → State} (hact : ∀ u : State, (act u).lawPart = u.lawPart)
    (e : s.event act = .next t) : s.Upholds t := State.event_upholds (fun u => .of_part (hact u)) e

theorem State.exec_upholds {s t : State} (c : Instr) (e : exec c s = .next t) : s.Upholds t := by
  cases c with
  | hardwareReset reached => cases e; exact s.hardwareReset_upholds reached
  | resetRelease straps plan => exact State.event_lawPart (fun u => u.beginLoad_lawPart straps plan) e
  | memoryNoAnswer access => exact State.event_lawPart (fun u => u.notAnswered_lawPart access) e
  | planRefused => exact State.event_lawPart State.rejectPlan_lawPart e
  | planAccepted sense => exact State.event_upholds (fun u => u.acceptPlan_upholds sense) e
  | settleEnd | answerWindowExpiry | quietTimeout | lingerExpiry | backoffExpiry | takeUp | silenceCountComplete
  | clearCountComplete | peerAbsent =>
    cases e
    exact s.workNow_upholds _
  | requestUnknownKind | make | breakRoute | exchange | retrim | cancel | takeNotice | queryNode | queryRoute | querySwitch
  | clearEvents | setNotifyMap | saveWear | leaveBus | joinBus =>
    exact State.event_upholds (fun u => u.offer_upholds _) e
  | clearFault | restart => exact State.event_upholds (fun u => (u.sensed_upholds _).trans (State.offer_upholds _ _)) e
  | frameReceived bytes sense =>
    exact State.event_upholds (fun u => (u.sensed_upholds sense).trans (State.frameArrived_upholds _ bytes)) e
  | responseSendComplete sense =>
    exact State.event_upholds (fun u => (u.sensed_upholds sense).trans (State.sendComplete_upholds _)) e
  | frameGapTimeout => exact State.event_lawPart (act := State.framingFault) (fun _ => rfl) e
  | saveWearWriteAccepted => exact State.event_lawPart State.saveAccepted_lawPart e
  | saveWearWriteFailed reached => exact State.event_lawPart (fun u => u.saveFailed_lawPart reached) e
  | syncRecognised => exact State.event_lawPart State.syncSeen_lawPart e
  | frameTimerExpiry => exact State.event_lawPart State.frameTimerExpires_lawPart e
  | searchSpanExpiry => exact State.event_lawPart State.searchSpanExpires_lawPart e
  | ownSlotStart => exact State.event_lawPart State.startOwnSlot_lawPart e
  | slotEnd line => exact State.event_upholds (fun u => u.endSlot_upholds line) e
  | frameEnd sense => exact State.event_lawPart (fun u => u.frameEnds_lawPart sense) e
  | detectorSample input level => exact State.event_lawPart (fun u => u.sampleTaken_lawPart input level) e
  | readyPulseExpiry line =>
    exact State.event_lawPart (act := fun u => { u with rfg := u.rfg.pulseExpiry line }) (fun _ => rfl) e

theorem step_upholds {s t : State} (e : step s = .next t) : s.Upholds t := by
  unfold step at e
  split at e
  · cases e
    exact .refl s
  · rename_i rest _
    have hqueue : s.Upholds (s.queued rest) := .of_part rfl
    exact hqueue.trans (State.exec_upholds _ e)

/-- Settles O53: each operation leaves what the laws read, reserves or fills a place that is free, or opens and closes the guard
entry of one tag; an accepted plan's checks give its switches and routes keys of their own. -/
theorem guardAndTableLawsKept : Obligations.GuardAndTableLawsKept :=
  ⟨fun _ _ h e => (step_upholds e).guard h, fun _ _ h e => (step_upholds e).table h, fun _ _ h e => (step_upholds e).switches h,
    fun _ _ h e => (step_upholds e).routes h⟩

/-- Settles O54: at every entry to a phase and every close of a context found in the table its guard entry comes and goes with what
it holds (`State.ChangesAt.upholds`), and no other operation meets the guard entries or what the law reads of a context. -/
theorem guardEntriesFollowContexts : Obligations.GuardEntriesFollowContexts :=
  fun _ _ htable _ hfollows e => (step_upholds e).lines htable hfollows

end Sys2Proof.Machine
end

section
/-! SUPPORT. A detector sample and the quiet tests it passes, as one change of the guard and one of the contexts (R95, R96, R100). -/

namespace Sys2Proof.Machine

/-! ### The guard at a sample (R95, R96) -/

/-- The guard with the records of an input classified by a sample. -/
def Rfg.classified (g : Rfg) (input : Nat) (level : Int) : Rfg :=
  { g with detectors := g.detectors.map (fun d => if d.input = input then d.sample level else d) }

/-- A watching entry passes its quiet test at a sample: the input's detector changes, the entry names it and sees no HOT one. -/
def Rfg.passesAt (g : Rfg) (input : Nat) (level : Int) (e : GuardEntry) : Bool :=
  g.inputHot input != (g.classified input level).inputHot input && e.watch &&
    e.detectors.contains input && e.detectors.all (fun i => !(g.classified input level).inputHot i)

theorem Rfg.not_entryHot (g : Rfg) (e : GuardEntry) : (!g.entryHot e) = e.detectors.all (fun i => !g.inputHot i) :=
  List.not_any_eq_all_not

/-- A sample classifies the records of its input, and the watch of the entries that pass goes off. -/
theorem Rfg.takeSample_eq (g : Rfg) (input : Nat) (level : Int) : g.takeSample input level =
    ({ g.classified input level with
        guards := g.guards.map (fun e => if g.passesAt input level e = true then { e with watch := false } else e) },
      (g.guards.filter (g.passesAt input level)).map GuardEntry.tag) := by
  unfold Rfg.takeSample
  dsimp only
  change (if (g.classified input level).inputHot input = g.inputHot input then _ else _) = _
  split
  case isTrue hsame =>
    have hnone : g.passesAt input level = fun _ => false := by
      funext e
      simp [Rfg.passesAt, hsame]
    simp [hnone, Rfg.classified]
  case isFalse hchanged =>
    have hpasses : g.passesAt input level = fun e =>
        e.watch && e.detectors.contains input && !(g.classified input level).entryHot e := by
      funext e
      have hne : (g.inputHot input != (g.classified input level).inputHot input) = true := bne_iff_ne.mpr (Ne.symm hchanged)
      rw [Rfg.not_entryHot, Rfg.passesAt, hne, Bool.true_and]
    rw [hpasses]
    rfl

/-! ### The contexts that pass (R76, R86) -/

/-- A context's own report turned from ACCEPT to QUIET, the one kept aside while a WITHDRAW stands (R86). -/
def Context.reportsQuiet (c : Context) : Context :=
  match c.report, c.kept with
  | some (.accept _), _ => { c with report := some .quiet, quietWait := false }
  | some .withdraw, some (.accept _) => { c with kept := some .quiet, quietWait := false }
  | _, _ => c

/-- A passed quiet test reaches a context that waits in COLD. -/
theorem Context.quietPass_eq (c : Context) :
    c.quietPass = if c.phase = .cold ∧ c.quietWait = true then c.reportsQuiet else c := by
  by_cases hwait : c.phase = .cold ∧ c.quietWait = true
  · obtain ⟨hphase, hquiet⟩ := hwait
    simp only [Context.quietPass, hphase, hquiet, Context.reportsQuiet, Context.underlying, Context.setReport]
    cases hr : c.report with
    | none => simp [isAccept]
    | some r =>
      cases r
      case accept => simp [isAccept]
      case withdraw =>
        cases hk : c.kept with
        | none => simp [isAccept]
        | some k => cases k <;> simp [isAccept]
      all_goals simp [isAccept]
  · rw [if_neg hwait, Context.quietPass, if_neg]
    simp only [Bool.and_eq_true, beq_iff_eq]
    exact fun h => hwait h.1

/-- A second pass changes nothing: the first ended the wait. -/
theorem Context.quietPass_quietPass (c : Context) : c.quietPass.quietPass = c.quietPass := by
  by_cases h : (c.phase == .cold && c.quietWait && isAccept c.underlying) = true
  · have hpass : c.quietPass = { c.setReport .quiet with quietWait := false } := if_pos h
    rw [hpass]
    simp [Context.quietPass]
  · have hstay : c.quietPass = c := if_neg h
    rw [hstay, hstay]

/-- The PASS answers of a sample reach the contexts of their tags, in one pass over the table. -/
theorem State.quietPasses_eq (tags : List Tag) : ∀ s : State, s.quietPasses tags = { s with
    cxe := { s.cxe with contexts := s.cxe.contexts.map (fun c => if c.tag ∈ tags then c.quietPass else c) } } := by
  induction tags with
  | nil => intro s; simp [State.quietPasses]
  | cons g tags ih =>
    intro s
    have hboth (c : Context) : (if (if c.tag = g then c.quietPass else c).tag ∈ tags then
        (if c.tag = g then c.quietPass else c).quietPass else (if c.tag = g then c.quietPass else c))
        = if c.tag ∈ g :: tags then c.quietPass else c := by
      by_cases hg : c.tag = g
      · simp [hg, Context.quietPass_quietPass]
      · simp [hg]
    change (s.onContext g Context.quietPass).quietPasses tags = _
    rw [ih]
    simp only [State.onContext, List.map_map, Function.comp_def, hboth]

/-- A sample changes the guard, and the contexts whose entries pass. -/
theorem State.sampleTaken_eq (s : State) (input : Nat) (level : Int) : s.sampleTaken input level = { s with
    rfg := { s.rfg.classified input level with
      guards := s.rfg.guards.map (fun e => if s.rfg.passesAt input level e = true then { e with watch := false } else e) }
    cxe := { s.cxe with contexts := s.cxe.contexts.map (fun c =>
      if ∃ e ∈ s.rfg.guards, s.rfg.passesAt input level e = true ∧ e.tag = c.tag then c.quietPass else c) } } := by
  unfold State.sampleTaken
  rw [Rfg.takeSample_eq]
  dsimp only
  rw [State.quietPasses_eq]
  simp only [List.mem_map, List.mem_filter, and_assoc]

/-! ### The quiet test (R100, R101) -/

theorem Rfg.entryHot_eq_false_iff (g : Rfg) (e : GuardEntry) :
    g.entryHot e = false ↔ ∀ i ∈ e.detectors, g.inputHot i = false := by
  simp [Rfg.entryHot]

theorem Rfg.quietTest_of_entry {g : Rfg} {tag : Tag} {e : GuardEntry} (h : g.entry? tag = some e) :
    g.quietTest tag = (e.hotTolerant || !g.entryHot e, g.setWatch tag !(e.hotTolerant || !g.entryHot e)) := by
  unfold Rfg.quietTest
  rw [h]
  dsimp only
  split
  · rename_i hpass
    rw [hpass]
    rfl
  · rename_i hnotYet
    rw [Bool.eq_false_of_not_eq_true hnotYet]
    rfl

theorem Rfg.entry_setWatch_of_entry {g : Rfg} {tag : Tag} {e : GuardEntry} (h : g.entry? tag = some e) (on : Bool) :
    (g.setWatch tag on).entry? tag = some { e with watch := on } := by
  rw [Rfg.entry_setWatch, h, Option.map_some, if_pos (Rfg.entry_spec h).2]

theorem Rfg.pulseExpiry_eq (g : Rfg) (line : Nat) : g.pulseExpiry line = { g with ready := g.ready.map (fun r =>
    if r.line = line ∧ r.pulsing = true then { r with pulsing := false, timeLeft := 0, active := false } else r) } := by
  simp only [Rfg.pulseExpiry, ReadyLine.rest, Bool.and_eq_true, decide_eq_true_eq]

/-- Settles O37: a sample is one change of the guard and one of the contexts whose entries pass (`State.sampleTaken_eq`), and the
quiet test sets the watch of its entry to the answer's negation (`Rfg.quietTest_of_entry`). -/
theorem instrumentLineEvents : Obligations.InstrumentLineEvents := by
  refine ⟨fun input level s u hu => ?_, fun line s u hu => ?_, fun g tag e he => ?_⟩
  · subst hu
    change Host.Outcome.next (s.caughtUp.sampleTaken input level).complete = _
    rw [State.sampleTaken_eq]
    have hcontext (c : Context) : (if ∃ e ∈ s.caughtUp.rfg.guards, s.caughtUp.rfg.passesAt input level e = true ∧ e.tag = c.tag
        then c.quietPass else c) = if c.phase = .cold ∧ c.quietWait = true ∧
          ∃ e ∈ s.caughtUp.rfg.guards, s.caughtUp.rfg.passesAt input level e = true ∧ e.tag = c.tag
        then c.reportsQuiet else c := by
      rw [Context.quietPass_eq]
      split <;> rename_i hpasses <;> simp [hpasses]
    simp only [hcontext]
    rfl
  · subst hu
    change Host.Outcome.next (({ s.caughtUp with rfg := s.caughtUp.rfg.pulseExpiry line } : State).complete) = _
    rw [Rfg.pulseExpiry_eq]
    rfl
  · obtain ⟨hdetectors, hlines, _⟩ := g.quietTest_guard tag
    rw [Rfg.quietTest_of_entry he] at *
    refine ⟨?_, hlines, hdetectors, _, Rfg.entry_setWatch_of_entry he _, rfl⟩
    rw [← Rfg.entryHot_eq_false_iff]
    simp

end Sys2Proof.Machine
end

section
/-! SUPPORT. The rounded quotient, the trim outcome and the walk of a calibration table (R113, R114, R117). -/

namespace Sys2Proof.Machine

/-! ### The quotient to the nearest whole number, an exact half upwards -/

theorem nearest_mul_le (n d : Nat) : 2 * ((2 * n + d) / (2 * d) * d) ≤ 2 * n + d :=
  (Nat.mul_left_comm ..).trans_le (Nat.div_mul_le_self (2 * n + d) (2 * d))

theorem lt_nearest_mul_add (n : Nat) {d : Nat} (hd : 0 < d) : 2 * n < 2 * ((2 * n + d) / (2 * d) * d) + d := by
  have hrest : (2 * n + d) % (2 * d) < 2 * d := Nat.mod_lt _ (by omega)
  have hparts : (2 * n + d) / (2 * d) * (2 * d) + (2 * n + d) % (2 * d) = 2 * n + d := Nat.div_add_mod' ..
  rw [Nat.mul_left_comm] at hparts
  omega

theorem nearest_le_of_le_mul {n m d : Nat} (hd : 0 < d) (h : n ≤ m * d) : (2 * n + d) / (2 * d) ≤ m := by
  refine Nat.le_of_lt_succ ((Nat.div_lt_iff_lt_mul (by omega)).mpr ?_)
  calc 2 * n + d < 2 * (m * d) + 2 * d := by omega
    _ = (m + 1) * (2 * d) := by ring

/-! ### The trim outcome (R117) -/

theorem trimFor_short {target sum : Nat} (h : target < sum) (step maxCode : Nat) :
    trimFor target sum step maxCode = { code := 0, flag := .short, achieved := sum } :=
  if_pos h

theorem trimFor_long {target sum step maxCode : Nat} (h : sum ≤ target)
    (hraw : maxCode < (2 * (target - sum) + step) / (2 * step)) :
    trimFor target sum step maxCode = { code := maxCode, flag := .long, achieved := sum + maxCode * step } :=
  (if_neg h.not_gt).trans (if_pos hraw)

theorem trimFor_nearest {target sum step maxCode : Nat} (h : sum ≤ target)
    (hraw : (2 * (target - sum) + step) / (2 * step) ≤ maxCode) :
    trimFor target sum step maxCode = { code := (2 * (target - sum) + step) / (2 * step), flag := .none,
                                        achieved := sum + (2 * (target - sum) + step) / (2 * step) * step } :=
  (if_neg h.not_gt).trans (if_neg hraw.not_gt)

theorem trim_cases (target sum step maxCode : Nat) :
    target < sum ∨ (sum ≤ target ∧ maxCode < (2 * (target - sum) + step) / (2 * step)) ∨
      (sum ≤ target ∧ (2 * (target - sum) + step) / (2 * step) ≤ maxCode) := by
  omega

theorem trimFor_achieved (target sum step maxCode : Nat) :
    (trimFor target sum step maxCode).achieved = sum + (trimFor target sum step maxCode).code * step := by
  rcases trim_cases target sum step maxCode with h | ⟨h, hraw⟩ | ⟨h, hraw⟩
  · simp [trimFor_short h]
  · rw [trimFor_long h hraw]
  · rw [trimFor_nearest h hraw]

theorem trimFor_code_le (target sum step maxCode : Nat) : (trimFor target sum step maxCode).code ≤ maxCode := by
  rcases trim_cases target sum step maxCode with h | ⟨h, hraw⟩ | ⟨h, hraw⟩
  · simp [trimFor_short h]
  · rw [trimFor_long h hraw]
  · rwa [trimFor_nearest h hraw]

theorem trimFor_flag_none {target sum step maxCode : Nat} (h : (trimFor target sum step maxCode).flag = .none) :
    sum ≤ target ∧ (2 * (target - sum) + step) / (2 * step) ≤ maxCode := by
  rcases trim_cases target sum step maxCode with hshort | ⟨hsum, hraw⟩ | hnearest
  · simp [trimFor_short hshort] at h
  · simp [trimFor_long hsum hraw] at h
  · exact hnearest

theorem trimFor_within_half_step {target sum step maxCode : Nat} (hstep : 0 < step)
    (h : (trimFor target sum step maxCode).flag = .none) :
    -(step : Int) ≤ 2 * ((target : Int) - (trimFor target sum step maxCode).achieved) ∧
      2 * ((target : Int) - (trimFor target sum step maxCode).achieved) < step := by
  obtain ⟨hsum, hraw⟩ := trimFor_flag_none h
  have hlow := nearest_mul_le (target - sum) step
  have hhigh := lt_nearest_mul_add (target - sum) hstep
  rw [trimFor_nearest hsum hraw]
  dsimp only
  omega

/-- Settles O42: one equation per branch of the computation, and the nearest quotient's two bounds for the half step. -/
theorem trimWithinHalfStep : Obligations.TrimWithinHalfStep := by
  intro target sum step maxCode hstep o raw
  refine ⟨fun h => ?_, fun h hraw => ?_, fun h hraw => ?_, trimFor_achieved .., trimFor_code_le ..,
    trimFor_within_half_step hstep, fun hsum hcode hsize => ?_⟩
  · simp [o, trimFor_short h]
  · simp [o, trimFor_long h hraw]
  · simp [o, raw, trimFor_nearest h hraw]
  · have hadded : o.code * step ≤ 255 * 100 := Nat.mul_le_mul ((trimFor_code_le ..).trans hcode) hsize
    have hachieved : o.achieved = sum + o.code * step := trimFor_achieved ..
    omega

/-! ### The rounded interpolation (R114) -/

theorem roundAway_eq (num : Int) {den : Nat} (hden : 0 < den) :
    roundAway num den = num.sign * ((2 * num.natAbs + den) / (2 * den) : Nat) := by
  unfold roundAway
  rcases lt_trichotomy num 0 with hneg | rfl | hpos
  · rw [if_pos hneg, Int.sign_eq_neg_one_of_neg hneg, Int.neg_one_mul]
  · simp [Nat.div_eq_of_lt (show den < 2 * den by omega)]
  · rw [if_neg hpos.not_gt, Int.sign_eq_one_of_pos hpos, Int.one_mul]

/-- A step from one loss towards another, no longer than their distance, ends between them. -/
theorem step_towards_between (x y : Nat) {q : Nat} (hq : q ≤ ((y : Int) - x).natAbs) :
    ((min x y : Nat) : Int) ≤ x + ((y : Int) - x).sign * q ∧ x + ((y : Int) - x).sign * q ≤ ((max x y : Nat) : Int) := by
  rcases lt_trichotomy ((y : Int) - x) 0 with hdown | hlevel | hup
  · rw [Int.sign_eq_neg_one_of_neg hdown]
    omega
  · rw [hlevel, Int.sign_zero]
    omega
  · rw [Int.sign_eq_one_of_pos hup]
    omega

/-- Between two points the interpolation does not leave the range of their losses, so the conversion to `Nat` in `lossBetween`
cuts nothing. -/
theorem roundAway_between {a b : CalPoint} {f : Nat} (ha : a.frequency < f) (hb : f < b.frequency) :
    let moved : Int := a.loss + roundAway (((b.loss : Int) - a.loss) * ((f : Int) - a.frequency)) (b.frequency - a.frequency)
    ((min a.loss b.loss : Nat) : Int) ≤ moved ∧ moved ≤ ((max a.loss b.loss : Nat) : Int) := by
  have hden : 0 < b.frequency - a.frequency := by omega
  have hsign : ((f : Int) - a.frequency).sign = 1 := Int.sign_eq_one_of_pos (by omega)
  have hnum : (((b.loss : Int) - a.loss) * ((f : Int) - a.frequency)).natAbs ≤
      ((b.loss : Int) - a.loss).natAbs * (b.frequency - a.frequency) := by
    rw [Int.natAbs_mul]
    exact Nat.mul_le_mul_left _ (by omega)
  dsimp only
  rw [roundAway_eq _ hden, Int.sign_mul, hsign, Int.mul_one]
  exact step_towards_between _ _ (nearest_le_of_le_mul hden hnum)

theorem lossBetween_eq {a b : CalPoint} {f : Nat} (ha : a.frequency < f) (hb : f < b.frequency) :
    (lossBetween a b f : Int) =
      a.loss + roundAway (((b.loss : Int) - a.loss) * ((f : Int) - a.frequency)) (b.frequency - a.frequency) :=
  Int.toNat_of_nonneg ((Int.natCast_nonneg _).trans (roundAway_between ha hb).1)

theorem lossBetween_between {a b : CalPoint} {f : Nat} (ha : a.frequency < f) (hb : f < b.frequency) :
    min a.loss b.loss ≤ lossBetween a b f ∧ lossBetween a b f ≤ max a.loss b.loss := by
  obtain ⟨hlow, hhigh⟩ := roundAway_between ha hb
  rw [← lossBetween_eq ha hb] at hlow hhigh
  exact ⟨Int.ofNat_le.mp hlow, Int.ofNat_le.mp hhigh⟩

/-! ### The walk along the points (R113) -/

theorem lossAbove_of_below {f : Nat} {p b : CalPoint} (h : b.frequency < f) (rest : List CalPoint) :
    lossAbove f p (b :: rest) = lossAbove f b rest :=
  (if_neg h.ne').trans (if_neg h.not_gt)

theorem lossAbove_at {f : Nat} {p b : CalPoint} (h : f = b.frequency) (rest : List CalPoint) :
    lossAbove f p (b :: rest) = b.loss :=
  if_pos h

theorem lossAbove_of_above {f : Nat} {p b : CalPoint} (h : f < b.frequency) (rest : List CalPoint) :
    lossAbove f p (b :: rest) = lossBetween p b f :=
  (if_neg h.ne).trans (if_pos h)

theorem lossAbove_skip {f : Nat} {pre : List CalPoint} {a : CalPoint} (hpre : ∀ p ∈ pre, p.frequency < f)
    (ha : a.frequency < f) (p : CalPoint) (rest : List CalPoint) :
    lossAbove f p (pre ++ a :: rest) = lossAbove f a rest := by
  induction pre generalizing p with
  | nil => exact lossAbove_of_below ha rest
  | cons x xs ih =>
    obtain ⟨hx, hxs⟩ := List.forall_mem_cons.mp hpre
    rw [List.cons_append, lossAbove_of_below hx]
    exact ih hxs x

theorem tableLoss_of_le {f : Nat} {a : CalPoint} (h : f ≤ a.frequency) (rest : List CalPoint) :
    tableLoss f (a :: rest) = a.loss :=
  if_pos h

theorem tableLoss_of_lt {f : Nat} {a : CalPoint} (h : a.frequency < f) (rest : List CalPoint) :
    tableLoss f (a :: rest) = lossAbove f a rest :=
  if_neg h.not_ge

theorem tableLoss_skip {f : Nat} {pre : List CalPoint} {a : CalPoint} (hpre : ∀ p ∈ pre, p.frequency < f)
    (ha : a.frequency < f) (rest : List CalPoint) : tableLoss f (pre ++ a :: rest) = lossAbove f a rest := by
  cases pre with
  | nil => exact tableLoss_of_lt ha rest
  | cons x xs =>
    obtain ⟨hx, hxs⟩ := List.forall_mem_cons.mp hpre
    rw [List.cons_append, tableLoss_of_lt hx]
    exact lossAbove_skip hxs ha x rest

theorem tableLoss_at {f : Nat} {pre : List CalPoint} {a : CalPoint} (hpre : ∀ p ∈ pre, p.frequency < f)
    (ha : f = a.frequency) (rest : List CalPoint) : tableLoss f (pre ++ a :: rest) = a.loss := by
  rcases List.eq_nil_or_concat' pre with rfl | ⟨front, p, rfl⟩
  · exact tableLoss_of_le ha.le rest
  · obtain ⟨hfront, hp⟩ := List.forall_mem_append.mp hpre
    rw [List.append_assoc, List.singleton_append, tableLoss_skip hfront (hp p (List.mem_singleton_self p))]
    exact lossAbove_at ha rest

theorem frequency_lt_of_sorted {pre post : List CalPoint} {a p : CalPoint}
    (h : ((pre ++ a :: post).map CalPoint.frequency).Pairwise (· < ·)) (hp : p ∈ pre) : p.frequency < a.frequency := by
  obtain ⟨_, _, hacross⟩ := List.pairwise_append.mp (List.pairwise_map.mp h)
  exact hacross p hp a List.mem_cons_self

/-- Settles O43: the walk passes the points below the frequency (`tableLoss_skip`) and stops at the end of the table, on a point
or in the gap to the next one, where the interpolation keeps between the two losses (`lossBetween_between`). -/
theorem tableLossInterpolates : Obligations.TableLossInterpolates := by
  intro points f hsorted
  refine ⟨?_, ?_, fun a hmem ha => ?_, ?_⟩
  · rintro a rest rfl ha
    exact tableLoss_of_le ha rest
  · rintro pre a rfl ha
    have hpre (p) (hp : p ∈ pre) : p.frequency < f := (frequency_lt_of_sorted hsorted hp).trans_le ha
    rcases ha.eq_or_lt with hat | habove
    · exact tableLoss_at hpre hat.symm []
    · exact tableLoss_skip hpre habove []
  · obtain ⟨pre, post, rfl⟩ := List.append_of_mem hmem
    exact tableLoss_at (fun p hp => ha ▸ frequency_lt_of_sorted hsorted hp) ha post
  · rintro pre a b post rfl ha hb num den q
    have hgap : tableLoss f (pre ++ a :: b :: post) = lossBetween a b f :=
      (tableLoss_skip (fun p hp => (frequency_lt_of_sorted hsorted hp).trans ha) ha _).trans (lossAbove_of_above hb post)
    obtain ⟨hlow, hhigh⟩ := lossBetween_between ha hb
    rw [hgap]
    refine ⟨?_, hlow, hhigh, fun hla hlb => hhigh.trans (max_le hla hlb)⟩
    rw [lossBetween_eq ha hb, roundAway_eq _ (by omega)]

end Sys2Proof.Machine
end

section
/-! SUPPORT. The PROPOSE built from a request, its sequence number, and a message placed for a slot (R132 to R134). -/

namespace Sys2Proof.Machine

/-! ### The PROPOSE (R133) -/

/-- Settles O22: the fields read off the make route's record, the participants and the hot tolerance by the request's kind. -/
theorem proposeCarriesRequest : Obligations.ProposeCarriesRequest := by
  intro s j seq r hr p
  have hfrequency : p.frequency = j.frequency.getD r.plan.defaultFrequency := by simp [p, State.buildPropose, hr]
  have htrim : p.trimNode = r.plan.trimNode := by simp [p, State.buildPropose, hr]
  have htarget : p.target = if r.plan.trimNode.isSome then j.target.orElse (fun _ => r.plan.defaultTarget) else none := by
    simp [p, State.buildPropose, hr]
  have hlist : p.participants = s.jobParticipants j := rfl
  refine ⟨rfl, fun m hm => ?_, fun hn => ?_, hfrequency, htrim, fun hn => ?_, fun hs => ?_, rfl, fun hk => ?_, fun hk hn => ?_,
    fun hk b hb => ?_⟩
  · show j.second.getD j.route = m
    rw [hm, Option.getD_some]
  · show j.second.getD j.route = j.route
    rw [hn, Option.getD_none]
  · simp [htarget, hn]
  · rw [htarget, if_pos (Option.isSome_iff_ne_none.mpr hs)]
    cases j.target <;> rfl
  · refine ⟨?_, ?_, ?_⟩
    · show j.breakRoute? = none
      simp [Job.breakRoute?, hk]
    · simp [hlist, State.jobParticipants, hk, hr]
    · simp [p, State.buildPropose, hr, hk]
  · have hmake : j.route = j.makeRoute := by simp [Job.makeRoute, hn]
    refine ⟨?_, ?_, ?_⟩
    · show j.breakRoute? = some j.makeRoute
      simp [Job.breakRoute?, hk, hmake]
    · simp [hlist, State.jobParticipants, hk, hmake, hr]
    · simp [p, State.buildPropose, hr, hk]
  · refine ⟨?_, ?_, ?_⟩
    · show j.breakRoute? = some j.route
      simp [Job.breakRoute?, hk]
    · simp [hlist, State.jobParticipants, hk, hr, hb]
    · simp [p, State.buildPropose, hr, hk, hb]

/-! ### The sequence number (R132) -/

/-- No context of this node's sponsorship holds a sequence number. -/
def State.seqOpen (s : State) (seq : Nat) : Prop := ∀ c ∈ s.cxe.contexts, c.tag ≠ { sponsor := s.me, seq := seq }

theorem State.seqHeld_eq_false_iff (s : State) (seq : Nat) : s.seqHeld seq = false ↔ s.seqOpen seq := by
  simp [State.seqHeld, State.seqOpen]

/-- Skips that end at a held number have passed held numbers alone. -/
theorem State.seqHeld_of_nextSeq {s : State} :
    ∀ (fuel : Nat) {seq : Nat}, s.seqHeld (s.nextSeq fuel seq) = true → ∀ i ≤ fuel, s.seqHeld ((seq + 1 + i) % 256) = true
  | 0, seq, h, i, hi => by
    obtain rfl : i = 0 := Nat.le_zero.mp hi
    exact h
  | fuel + 1, seq, h, i, hi => by
    rw [State.nextSeq] at h
    split at h
    case isFalse hopen => exact absurd h hopen
    case isTrue hheld =>
      cases i with
      | zero => exact hheld
      | succ i =>
        have hlater := State.seqHeld_of_nextSeq fuel h i (Nat.le_of_succ_le_succ hi)
        rwa [show ((seq + 1) % 256 + 1 + i) % 256 = (seq + 1 + (i + 1)) % 256 by omega] at hlater

/-- The tags of the six sequence numbers after one. -/
def State.tagsAhead (s : State) (seq : Nat) : List Tag :=
  (List.range 6).map fun i => { sponsor := s.me, seq := (seq + 1 + i) % 256 }

theorem State.tagsAhead_nodup (s : State) (seq : Nat) : (s.tagsAhead seq).Nodup := by
  refine List.Nodup.map_on (fun a ha b hb e => ?_) List.nodup_range
  simp only [List.mem_range, Tag.mk.injEq, true_and] at ha hb e
  omega

/-- The table holds fewer than six contexts, so one of six numbers in a row is held by none (R64, R132). -/
theorem State.nextSeq_open {s : State} (h : s.cxe.contexts.length < 6) (seq : Nat) :
    s.seqOpen (s.nextSeq Config.tablePlaces seq) := by
  rw [← State.seqHeld_eq_false_iff, Bool.eq_false_iff]
  intro hheld
  have hsub : s.tagsAhead seq ⊆ s.cxe.contexts.map Context.tag := by
    intro tag htag
    obtain ⟨i, hi, rfl⟩ := List.mem_map.mp htag
    have hi6 := List.mem_range.mp hi
    have := State.seqHeld_of_nextSeq Config.tablePlaces hheld i hi6.le
    simpa [State.seqHeld] using this
  have hlen := (List.subperm_of_subset (s.tagsAhead_nodup seq) hsub).length_le
  simp only [State.tagsAhead, List.length_map, List.length_range] at hlen
  omega

theorem State.nextSeq_first {s : State} {seq : Nat} (h : s.seqOpen ((seq + 1) % 256)) :
    s.nextSeq Config.tablePlaces seq = (seq + 1) % 256 :=
  if_neg (by rw [(s.seqHeld_eq_false_iff _).mpr h]; exact Bool.false_ne_true)

/-! ### A message placed for a slot (R132, R134) -/

/-- A PROPOSE placed for a request under a sequence number and a reservation: the slot in SENDING, one attempt more (R132). -/
def State.proposed (s : State) (name : SlotName) (j : Job) (seq : Nat) : State :=
  ({ s with
    cxe := { s.cxe with reservations := s.cxe.reservations ++ [name] }
    biu := { s.biu with outbound := s.biu.outbound ++ [{ slot := name, message := .propose (s.buildPropose j seq) }] }
    spu := { s.spu with seq := seq } } : State).setSlot name
      { s.slot name with state := .sending, job := some j, attempts := (s.slot name).attempts + 1,
                         tag := some { sponsor := s.me, seq := seq }, sent := false, backoff := 0 }

/-- With a free place the number is held by no context, and is the next one where that is not held (R132). -/
theorem State.placePropose_proposed {s : State} (h : s.cxe.contexts.length + s.cxe.reservations.length < 6) (name : SlotName) (j : Job) :
    ∃ seq, s.seqOpen seq ∧ (s.seqOpen ((s.spu.seq + 1) % 256) → seq = (s.spu.seq + 1) % 256) ∧
      s.placePropose name j = s.proposed name j seq :=
  ⟨_, State.nextSeq_open ((Nat.le_add_right _ _).trans_lt h) _, State.nextSeq_first, by cases name <;> rfl⟩

/-- A RELEASE placed for a BREAK, forced where the route is ORPHANED (R134). -/
def State.releasing (s : State) (name : SlotName) (j : Job) : State :=
  ({ s with biu := { s.biu with outbound := s.biu.outbound ++
    [{ slot := name, message := .release j.route (s.routeIs j.route .orphaned) }] } } : State).setSlot name
      { SponsorSlot.empty with state := .sending, job := some j, attempts := 1 }

theorem State.placeRelease_releasing {s : State} {name : SlotName} (h : s.slot name = .empty) (j : Job) :
    s.placeRelease name j = s.releasing name j := by
  unfold State.placeRelease
  rw [h]
  rfl

end Sys2Proof.Machine
end

section
/-! SUPPORT. Take-up: which request of the queue is picked, what one round makes of it, and the row that asks for it (R130 to R132,
R134). -/

namespace Sys2Proof.Machine

/-! ### The request picked (R130) -/

/-- A request that may be taken into a slot: no route of it carries a busy tag here or is a route of the other slot's request. -/
def State.mayTake (s : State) (name : SlotName) (p : Job) : Prop :=
  (∀ x ∈ p.routes, ∀ r, s.route? x = some r → r.busy = none) ∧
    ∀ k ∈ (s.slot (otherSlot name)).job, ∀ x ∈ p.routes, x ∉ k.routes

theorem State.jobBusy_eq_false_iff (s : State) (j : Job) :
    s.jobBusy j = false ↔ ∀ x ∈ j.routes, ∀ r, s.route? x = some r → r.busy = none := by
  unfold State.jobBusy
  rw [List.any_eq_false]
  refine forall₂_congr fun x _ => ?_
  cases s.route? x <;> simp

theorem State.eligible_iff (s : State) (name : SlotName) (j : Job) : s.eligible name j = true ↔ s.mayTake name j := by
  unfold State.eligible State.mayTake
  rw [Bool.and_eq_true, Bool.not_eq_true', State.jobBusy_eq_false_iff]
  cases (s.slot (otherSlot name)).job <;> simp

/-- The request a round of take-up picks: the oldest that may be taken, among the BREAKs alone after NO PLACE (R130, R132). -/
def State.pick? (s : State) (name : SlotName) (only : Bool) : Option Job :=
  s.ctp.queue.find? fun j => s.eligible name j && (!only || j.kind == .breakRoute)

section
variable {s : State} {name : SlotName} {only : Bool} {fuel : Nat}

theorem State.pick_test_iff (j : Job) : (s.eligible name j && (!only || j.kind == .breakRoute)) = true ↔
    s.mayTake name j ∧ (only = true → j.kind = .breakRoute) := by
  rw [Bool.and_eq_true, State.eligible_iff]
  cases only <;> simp

theorem State.pick_none (h : ∀ p ∈ s.ctp.queue, (only = true → p.kind = .breakRoute) → ¬s.mayTake name p) :
    s.pick? name only = none :=
  List.find?_eq_none.mpr fun p hp hc => by
    obtain ⟨hmay, hkind⟩ := (State.pick_test_iff p).mp hc
    exact h p hp hkind hmay

theorem State.pick_first {pre post : List Job} {j : Job} (hq : s.ctp.queue = pre ++ j :: post)
    (hpre : ∀ p ∈ pre, (only = true → p.kind = .breakRoute) → ¬s.mayTake name p) (hj : s.mayTake name j)
    (hkind : only = true → j.kind = .breakRoute) : s.pick? name only = some j := by
  refine List.find?_eq_some_iff_append.mpr ⟨(State.pick_test_iff j).mpr ⟨hj, hkind⟩, pre, post, hq, fun p hp => ?_⟩
  rw [Bool.not_eq_true', Bool.eq_false_iff]
  intro hc
  obtain ⟨hmay, hk⟩ := (State.pick_test_iff p).mp hc
  exact hpre p hp hk hmay

/-! ### One round (R130 to R134) -/

theorem State.takeUpSlot_none (h : s.pick? name only = none) : State.takeUpSlot name fuel only s = s := by
  cases fuel with
  | zero => rfl
  | succ fuel =>
    unfold State.pick? at h
    rw [State.takeUpSlot, h]

/-- A round that picks a request ends by its re-check, its kind and the places left (R131, R132, R134). -/
theorem State.takeUpSlot_picked {j : Job} (h : s.pick? name only = some j) :
    State.takeUpSlot name (fuel + 1) only s = (s.recheck j).elim
      (if j.kind = .breakRoute then (s.dequeue j).placeRelease name j
        else if s.placeFree then (s.dequeue j).placePropose name j else State.takeUpSlot name fuel true s)
      (fun why => State.takeUpSlot name fuel only ((s.dequeue j).notice (j.notice .failed why.result 0))) := by
  unfold State.pick? at h
  rw [State.takeUpSlot, h]
  dsimp only
  cases s.recheck j <;> rfl

theorem State.takeUpSlot_failed {j : Job} {why : CheckFailure} (h : s.pick? name only = some j) (hcheck : s.recheck j = some why) :
    State.takeUpSlot name (fuel + 1) only s =
      State.takeUpSlot name fuel only ((s.dequeue j).notice (j.notice .failed why.result 0)) := by
  rw [State.takeUpSlot_picked h, hcheck]
  rfl

theorem State.takeUpSlot_release {j : Job} (h : s.pick? name only = some j) (hcheck : s.recheck j = none)
    (hkind : j.kind = .breakRoute) : State.takeUpSlot name (fuel + 1) only s = (s.dequeue j).placeRelease name j := by
  rw [State.takeUpSlot_picked h, hcheck]
  exact if_pos hkind

theorem State.takeUpSlot_propose {j : Job} (h : s.pick? name only = some j) (hcheck : s.recheck j = none)
    (hkind : j.kind ≠ .breakRoute) (hfree : s.cxe.contexts.length + s.cxe.reservations.length < 6) :
    State.takeUpSlot name (fuel + 1) only s = (s.dequeue j).placePropose name j := by
  rw [State.takeUpSlot_picked h, hcheck]
  exact (if_neg hkind).trans (if_pos (s.placeFree_iff.mpr hfree))

theorem State.takeUpSlot_noPlace {j : Job} (h : s.pick? name only = some j) (hcheck : s.recheck j = none)
    (hkind : j.kind ≠ .breakRoute) (hfull : 6 ≤ s.cxe.contexts.length + s.cxe.reservations.length) :
    State.takeUpSlot name (fuel + 1) only s = State.takeUpSlot name fuel true s := by
  rw [State.takeUpSlot_picked h, hcheck]
  exact (if_neg hkind).trans (if_neg (mt s.placeFree_iff.mp hfull.not_gt))

/-! ### Take-up where one slot alone is open (R129, R130) -/

/-- A slot's take-up leaves the other slot as open as it was. -/
theorem State.takeUpSlot_slotOpen_other (name : SlotName) :
    ∀ (fuel : Nat) (only : Bool) (s : State),
      (State.takeUpSlot name fuel only s).slotOpen (otherSlot name) = s.slotOpen (otherSlot name)
  | 0, _, _ => rfl
  | fuel + 1, only, s => by
    rcases State.takeUpSlot_cases name fuel only s with
      e | ⟨j, _, _, ⟨why, _, e⟩ | ⟨_, _, e⟩ | ⟨_, _, _, e⟩ | ⟨_, _, e⟩⟩ <;> rw [e]
    · rw [State.takeUpSlot_slotOpen_other name fuel]
      cases name <;> rfl
    · cases name <;> rfl
    · cases name <;> rfl
    · exact State.takeUpSlot_slotOpen_other name fuel true s

/-- Take-up into one slot at an event of R130. -/
def State.takeUpAt (s : State) (name : SlotName) : State :=
  if s.biu.busState = .onBus ∧ s.slotOpen name then State.takeUpSlot name (s.ctp.queue.length + 1) false s else s

theorem State.takeUps_eq (s : State) : s.takeUps = (s.takeUpAt .a).takeUpAt .b := rfl

theorem State.takeUpAt_open (hbus : s.biu.busState = .onBus) (hopen : s.slotOpen name = true) :
    s.takeUpAt name = State.takeUpSlot name (s.ctp.queue.length + 1) false s :=
  if_pos ⟨hbus, hopen⟩

theorem State.takeUpAt_shut (hshut : ¬s.slotOpen name = true) : s.takeUpAt name = s :=
  if_neg fun h => hshut h.2

/-- Where the other slot is not open to a request, an event of R130 takes up into this one alone. -/
theorem State.takeUps_alone (hbus : s.biu.busState = .onBus) (hfree : (s.slot name).state = .free)
    (hsecond : name = .b → s.spu.single = false)
    (hother : (s.slot (otherSlot name)).state ≠ .free ∨ (name = .a ∧ s.spu.single = true)) :
    s.takeUps = State.takeUpSlot name (s.ctp.queue.length + 1) false s := by
  have hopen : s.slotOpen name = true := by
    rw [State.slotOpen, hfree]
    cases name with
    | a => rfl
    | b => rw [hsecond rfl]; rfl
  have hshut : ¬s.slotOpen (otherSlot name) = true := by
    intro ho
    obtain ⟨hstate, hsingle⟩ := State.slotOpen_spec ho
    rcases hother with hne | ⟨rfl, hone⟩
    · exact hne hstate
    · rw [hsingle rfl] at hone
      cases hone
  rw [State.takeUps_eq]
  cases name with
  | a =>
    rw [State.takeUpAt_open hbus hopen]
    exact State.takeUpAt_shut fun h => hshut ((State.takeUpSlot_slotOpen_other .a _ _ s).symm.trans h)
  | b =>
    rw [State.takeUpAt_shut (name := .a) hshut]
    exact State.takeUpAt_open hbus hopen

end

/-! ### The row -/

theorem exec_takeUp {s : State} (h : Work.takeUp ∈ s.agenda) : exec .takeUp s = .next (s.taking .takeUp).takeUps.complete :=
  congrArg Host.Outcome.next (if_pos h)

/-- The request taken up leaves the queue where it stood. -/
theorem State.dequeue_at {s : State} {pre post : List Job} {j : Job} (hq : s.ctp.queue = pre ++ j :: post) (hj : j ∉ pre) :
    s.dequeue j = { s with ctp := { s.ctp with queue := pre ++ post } } := by
  unfold State.dequeue
  rw [hq, List.erase_append_right _ hj, List.erase_cons_head]

/-- Settles O23: the request picked is the oldest that may be taken (`State.pick_first`), and each way its round ends is a lemma of
`State.takeUpSlot`. -/
theorem takeUpPlacesFirstMessage : Obligations.TakeUpPlacesFirstMessage := by
  intro s u name pre post j hwork hu hbus hempty hsecond hother may released hq hpre hj
  have hfirst : j ∉ pre := fun hmem => hpre j hmem hj
  have hpick : u.pick? name false = some j := State.pick_first hq (fun p hp _ => hpre p hp) hj nofun
  have htakes : exec .takeUp s = .next (State.takeUpSlot name (u.ctp.queue.length + 1) false u).complete := by
    rw [exec_takeUp hwork, ← hu, State.takeUps_alone hbus (by rw [hempty]; rfl) hsecond hother]
  have hreleased {queue : List Job} {b : Job} (hb : u.dequeue b = { u with ctp := { u.ctp with queue := queue } }) :
      (u.dequeue b).placeRelease name b = released queue b := by
    rw [State.placeRelease_releasing ((u.dequeue_slot b name).trans hempty), hb]
    rfl
  rw [htakes]
  refine ⟨fun hcheck hkind hfree => ?_, fun hcheck hkind => ?_, fun why hcheck hpost => ?_, fun hcheck hkind hfull => ⟨fun hnone => ?_,
    fun mid b rest hmid hbkind hbmay hbcheck hbfirst => ?_⟩⟩
  · obtain ⟨seq, hopen, hnext, hplaced⟩ := State.placePropose_proposed (s := u.dequeue j) hfree name j
    refine ⟨seq, hopen, hnext, ?_⟩
    rw [State.takeUpSlot_propose hpick hcheck hkind hfree, hplaced, State.proposed, State.dequeue_slot, hempty,
      State.dequeue_at hq hfirst]
    rfl
  · rw [State.takeUpSlot_release hpick hcheck hkind, hreleased (State.dequeue_at hq hfirst)]
  · rw [State.takeUpSlot_failed hpick hcheck, State.dequeue_at hq hfirst]
    exact congrArg (fun t : State => Host.Outcome.next t.complete) (State.takeUpSlot_none (State.pick_none fun p hp _ =>
      (List.mem_append.mp hp).elim (hpre p) (hpost p)))
  · rw [State.takeUpSlot_noPlace hpick hcheck hkind hfull, State.takeUpSlot_none]
    refine State.pick_none fun p hp hbreak => ?_
    rw [hq, List.mem_append, List.mem_cons] at hp
    rcases hp with hp | rfl | hp
    · exact hpre p hp
    · exact absurd (hbreak rfl) hkind
    · exact hnone p hp (hbreak rfl)
  · have hq' : u.ctp.queue = (pre ++ j :: mid) ++ b :: rest := by rw [hq, hmid, List.append_assoc, List.cons_append]
    have hold (p) (hp : p ∈ pre ++ j :: mid) (hbreak : p.kind = .breakRoute) : ¬may p := by
      rw [List.mem_append, List.mem_cons] at hp
      rcases hp with hp | rfl | hp
      · exact hpre p hp
      · exact absurd hbreak hkind
      · exact hbfirst p hp hbreak
    have hlen : u.ctp.queue.length = (pre ++ post).length + 1 := by rw [hq]; simp [Nat.add_assoc]
    rw [State.takeUpSlot_noPlace hpick hcheck hkind hfull, hlen,
      State.takeUpSlot_release (State.pick_first hq' (fun p hp hb => hold p hp (hb rfl)) hbmay fun _ => hbkind) hbcheck hbkind,
      hreleased (State.dequeue_at hq' fun hmem => hold b hmem hbkind hbmay), List.append_assoc, List.cons_append]

end Sys2Proof.Machine
end

section
/-! SUPPORT. The retry when a backoff has run out, and what the Sponsor Unit decides when its context closes (R136, R137, R142). -/

namespace Sys2Proof.Machine

/-! ### A retry that is due (R137) -/

section
variable {s : State} {name : SlotName} {j : Job}

/-- A slot in BACKOFF at 0 with its request, at a node that speaks and with no route of the request busy, is due for a retry. -/
structure State.RetryDue (s : State) (name : SlotName) (j : Job) : Prop where
  job : (s.slot name).job = some j
  state : (s.slot name).state = .backoff
  backoff : (s.slot name).backoff = 0
  speaks : s.biu.busState.speaks = true
  clear : s.jobBusy j = false

/-- It ends by its re-check, and by the places left (R131, R137). -/
theorem State.RetryDue.retrySlot_eq (h : s.RetryDue name j) : s.retrySlot name = (s.recheck j).elim
    (if s.placeFree then s.placePropose name j else s)
    (fun why => ((s.setSlot name .empty).notice (j.notice .failed why.result (s.slot name).attempts)).drainTest) := by
  unfold State.retrySlot
  dsimp only
  rw [h.job]
  refine (if_pos ⟨h.state, h.backoff, h.speaks, h.clear⟩).trans ?_
  cases s.recheck j <;> rfl

theorem State.RetryDue.propose (h : s.RetryDue name j) (hcheck : s.recheck j = none)
    (hfree : s.cxe.contexts.length + s.cxe.reservations.length < 6) : s.retrySlot name = s.placePropose name j := by
  rw [h.retrySlot_eq, hcheck]
  exact if_pos (s.placeFree_iff.mpr hfree)

theorem State.RetryDue.noPlace (h : s.RetryDue name j) (hcheck : s.recheck j = none)
    (hfull : 6 ≤ s.cxe.contexts.length + s.cxe.reservations.length) : s.retrySlot name = s := by
  rw [h.retrySlot_eq, hcheck]
  exact if_neg (mt s.placeFree_iff.mp hfull.not_gt)

theorem State.RetryDue.failed (h : s.RetryDue name j) {why : CheckFailure} (hcheck : s.recheck j = some why) :
    s.retrySlot name = ((s.setSlot name .empty).notice (j.notice .failed why.result (s.slot name).attempts)).drainTest := by
  rw [h.retrySlot_eq, hcheck]
  rfl

/-- A slot waits while the node does not speak or a route of its request is busy here. -/
theorem State.retrySlot_waits (hj : (s.slot name).job = some j) (h : s.biu.busState.speaks = true → s.jobBusy j ≠ false) :
    s.retrySlot name = s := by
  unfold State.retrySlot
  dsimp only
  rw [hj]
  exact if_neg fun hdue => h hdue.2.2.1 hdue.2.2.2

/-! ### The backoff run out -/

theorem exec_backoffExpiry {t : State} (h : Work.backoff name ∈ t.agenda) :
    exec (.backoffExpiry name) t = .next ((t.taking (.backoff name)).backoffRunsOut name).complete :=
  congrArg Host.Outcome.next (if_pos h)

theorem State.backoffRunsOut_kept (h : ((s.retrySlot name).slot name).state ≠ .free) : s.backoffRunsOut name = s.retrySlot name :=
  if_neg fun hfree => h hfree.2

/-- A retry whose re-check fails ends its request as any other end does: the slot FREE, and an event of R130 (R131, R137). -/
theorem State.RetryDue.ends (h : s.RetryDue name j) {why : CheckFailure} (hcheck : s.recheck j = some why) :
    s.backoffRunsOut name = s.endRequest name (j.notice .failed why.result (s.slot name).attempts) := by
  have hretry := h.failed hcheck
  have hfree : ((s.retrySlot name).slot name).state = .free := by
    rw [hretry, State.drainTest_slot, State.notice_slot, State.slot_setSlot]
    rfl
  have hrun : s.backoffRunsOut name = (s.retrySlot name).sponsorEvent := if_pos ⟨h.state, hfree⟩
  rw [hrun, hretry]
  cases name <;> rfl

theorem State.backoffRunsOut_waits (hstate : (s.slot name).state = .backoff) (h : s.retrySlot name = s) :
    s.backoffRunsOut name = s := by
  rw [State.backoffRunsOut_kept (by rw [h, hstate]; exact nofun), h]

end

/-- A PROPOSE placed leaves all but the slot, the outbound list, the reservations and the sequence number. -/
theorem State.proposed_rest (s : State) (name : SlotName) (j : Job) (seq : Nat) :
    let t := s.proposed name j seq
    t.slot (otherSlot name) = s.slot (otherSlot name) ∧ t.spu.seq = seq ∧
      t.biu = { s.biu with outbound := s.biu.outbound ++ [{ slot := name, message := .propose (s.buildPropose j seq) }] } ∧
      t.cxe = { s.cxe with reservations := s.cxe.reservations ++ [name] } ∧ t.ctp = s.ctp ∧ t.sbc = s.sbc ∧ t.rtb = s.rtb ∧
      t.rfg = s.rfg ∧ t.planSide = s.planSide := by
  cases name <;> exact ⟨rfl, rfl, rfl, rfl, rfl, rfl, rfl, rfl, rfl⟩

/-- Settles O24: a retry that is due ends by its re-check and the places left (`State.RetryDue`), another waits. -/
theorem backoffExpiryRetries : Obligations.BackoffExpiryRetries := by
  intro name s u j hwork hu hstate hzero hj hkind speaks free
  have hexec : exec (.backoffExpiry name) s = .next (u.backoffRunsOut name).complete := by rw [exec_backoffExpiry hwork, ← hu]
  have hdue (hs : speaks) (hf : free) : u.RetryDue name j :=
    ⟨hj, hstate, hzero, (BusState.speaks_iff _).mpr hs, (u.jobBusy_eq_false_iff j).mpr hf⟩
  rw [hexec]
  refine ⟨fun hs hf hcheck hplace => ?_, fun hs hf hcheck hfull => ?_, fun hs hf why hcheck hqueue hother => ?_, fun hwait => ?_⟩
  · obtain ⟨seq, hopen, _, hplaced⟩ := State.placePropose_proposed hplace name j
    have hretry := ((hdue hs hf).propose hcheck hplace).trans hplaced
    have hslot : (u.proposed name j seq).slot name = _ := State.slot_setSlot _ _ _
    have hrun : u.backoffRunsOut name = u.proposed name j seq := by
      rw [State.backoffRunsOut_kept (by rw [hretry, hslot]; exact nofun), hretry]
    obtain ⟨hotherSlot, hseq, hbiu, hcxe, hctp, hsbc, hrtb, hrfg, hplan⟩ := u.proposed_rest name j seq
    rw [hrun]
    refine ⟨seq, _, rfl, hopen, ?_, (State.complete_slot _ _).trans hotherSlot, hseq, hbiu, hcxe, by rw [State.complete_ctp_queue, hctp],
      by rw [State.complete_ctp_notices, hctp], hsbc, hrtb, hrfg, (u.keeps_iff _).mpr hplan⟩
    rw [State.complete_slot, hslot, ← hj, ← hzero]
  · rw [State.backoffRunsOut_waits hstate ((hdue hs hf).noPlace hcheck hfull)]
  · rw [(hdue hs hf).ends hcheck, State.endRequest_idle hqueue hother]
    rfl
  · rw [State.backoffRunsOut_waits hstate (State.retrySlot_waits hj fun hs hclear => ?_)]
    exact hwait.elim (· ((BusState.speaks_iff _).mp hs)) (· ((u.jobBusy_eq_false_iff j).mp hclear))

/-! ### The decision on a close (R136, R137) -/

theorem State.retryable_iff (s : State) (j : Job) (done passed : Bool) (r : CloseRecord) :
    s.retryable j done passed r = true ↔ done = false ∧ s.mayRetry j passed r := by
  unfold State.retryable State.mayRetry
  simp only [Bool.and_eq_true, Bool.or_eq_true, beq_iff_eq, Bool.not_eq_true', List.all_eq_true, or_assoc, and_assoc]
  refine and_congr_right fun _ => and_congr_right fun _ => and_congr_right fun _ => forall₂_congr fun x _ => ?_
  cases s.route? x <;> simp

/-- How the cancel of a slot stands once its context has closed: one TAKEN came too late at a context past its commit point (R136). -/
def SponsorSlot.cancelAtClose (slot : SponsorSlot) (h : HandOff) : CancelState :=
  if h.passedCommit && slot.cancel == .taken then .late else slot.cancel

section
variable {slot : SponsorSlot} {h : HandOff}

theorem SponsorSlot.cancelAtClose_late :
    (slot.cancelAtClose h == .late) = (slot.cancel == .late || (h.passedCommit && slot.cancel == .taken)) := by
  unfold SponsorSlot.cancelAtClose
  split
  · rename_i hlate
    rw [hlate, Bool.or_true]
    rfl
  · rename_i hkept
    rw [Bool.eq_false_iff.mpr hkept, Bool.or_false]

theorem SponsorSlot.cancelAtClose_taken :
    slot.cancelAtClose h = .taken ↔ h.passedCommit = false ∧ slot.cancel = .taken := by
  unfold SponsorSlot.cancelAtClose
  cases h.passedCommit with
  | false => simp
  | true => by_cases htaken : slot.cancel = .taken <;> simp [htaken]

theorem SponsorSlot.cancelAtClose_none : slot.cancelAtClose h = .none ↔ slot.cancel = .none := by
  unfold SponsorSlot.cancelAtClose
  cases h.passedCommit <;> cases slot.cancel <;> simp

/-! #### Its four ends -/

variable {s : State} {name : SlotName} {j : Job}

theorem State.judgeClose_done (hd : h.done = true) :
    s.judgeClose name slot j h = s.endRequest name (h.doneNotice j slot.attempts (slot.cancelAtClose h == .late)) :=
  if_pos hd

theorem State.judgeClose_cancelled (hd : h.done = false) (hc : slot.cancelAtClose h = .taken) :
    s.judgeClose name slot j h =
      s.endRequest name ((j.notice .cancelled h.record.reason.result slot.attempts).withClose h.record) :=
  (if_neg (Bool.eq_false_iff.mp hd)).trans (if_pos hc)

/-- A close that may be tried again, with no cancel (R136 step 3). -/
theorem State.judgeClose_retried (hd : h.done = false) (hc : slot.cancelAtClose h = .none) (hr : s.mayRetry j h.passedCommit h.record) :
    s.judgeClose name slot j h =
      if slot.attempts < 16 then s.setSlot name { slot with
        state := .backoff, backoff := backoffFor slot.attempts s.me, lastClose := some h.record }
      else s.endRequest name ((j.notice .failed .excessiveContention slot.attempts).withClose h.record) := by
  have hkept : slot.cancel = .none := SponsorSlot.cancelAtClose_none.mp hc
  have hretry : (s.retryable j h.done h.passedCommit h.record && slot.cancelAtClose h == .none) = true := by
    rw [(s.retryable_iff j _ _ _).mpr ⟨hd, hr⟩, hc]
    rfl
  have hopen : slot.cancelAtClose h ≠ .taken := by rw [hc]; exact nofun
  refine (if_neg (Bool.eq_false_iff.mp hd)).trans ((if_neg hopen).trans ((if_pos hretry).trans ?_))
  show (if slot.attempts < 16 then s.setSlot name { slot with
      state := .backoff, backoff := backoffFor slot.attempts s.me, cancel := slot.cancelAtClose h, lastClose := some h.record }
    else _) = _
  rw [hc, ← hkept]

theorem State.judgeClose_failed (hd : h.done = false) (hc : slot.cancelAtClose h ≠ .taken)
    (hr : slot.cancelAtClose h = .none → ¬s.mayRetry j h.passedCommit h.record) :
    s.judgeClose name slot j h = s.endRequest name
      { (j.notice .failed h.record.reason.result slot.attempts).withClose h.record with
        cancelTooLate := slot.cancelAtClose h == .late } := by
  refine (if_neg (Bool.eq_false_iff.mp hd)).trans ((if_neg hc).trans (if_neg fun hretry => ?_))
  obtain ⟨hmay, hnone⟩ := Bool.and_eq_true_iff.mp hretry
  exact hr (beq_iff_eq.mp hnone) ((s.retryable_iff j _ _ _).mp hmay).2

end

/-- Settles O25: the four ends of the decision by how the cancel then stands, each notice told where nothing else waits. -/
theorem closeDecidesRetry : Obligations.CloseDecidesRetry := by
  intro s name slot j h hslot hj hqueue hother t late ended closed
  have hended (n : Notice) : s.endRequest name n = ended n := State.endRequest_idle hqueue hother n
  have hlate : (slot.cancelAtClose h == .late) = late := SponsorSlot.cancelAtClose_late
  refine ⟨fun hd => ?_, fun hd hcommit hc => ?_, fun hd hc hr => ?_, fun hd hr hc => ?_⟩
  · rw [← hended, ← hlate]
    exact State.judgeClose_done hd
  · rw [← hended]
    exact State.judgeClose_cancelled hd (SponsorSlot.cancelAtClose_taken.mpr ⟨hcommit, hc⟩)
  · have hretried := State.judgeClose_retried (name := name) hd (SponsorSlot.cancelAtClose_none.mpr hc) hr
    refine ⟨fun hfew => hretried.trans (if_pos hfew), fun hmany => ?_⟩
    rw [← hended]
    exact hretried.trans (if_neg hmany.not_gt)
  · rw [← hended, ← hlate]
    refine State.judgeClose_failed hd (fun htaken => ?_) fun hnone => hr (SponsorSlot.cancelAtClose_none.mp hnone)
    obtain ⟨hbefore, hcancel⟩ := SponsorSlot.cancelAtClose_taken.mp htaken
    rw [hc hcancel] at hbefore
    cases hbefore

end Sys2Proof.Machine
end

section
/-! SUPPORT. CANCEL: where the request is found, and its answer by where the request stands (R86, R138, R139). -/

namespace Sys2Proof.Machine

/-! ### CANCEL at the Changeover Engine (R86) -/

section
variable {s : State} {tag : Tag} {c : Context}

theorem State.cxeCancel_move (hc : s.context? tag = some c) (hp : c.phase = .move) : s.cxeCancel tag = (.tooLate, s) := by
  unfold State.cxeCancel
  rw [hc]
  dsimp only
  rw [hp]

/-- Before MOVE the cancel is taken, and a context with no withdrawal yet is withdrawn. -/
theorem State.cxeCancel_early (hc : s.context? tag = some c) (hp : c.phase = .answer ∨ c.phase = .cold) :
    s.cxeCancel tag = (.taken, if c.withdrawal = .none then s.onContext tag Context.withdraw else s) := by
  unfold State.cxeCancel
  rw [hc]
  dsimp only
  rcases hp with hp | hp <;> rw [hp]

theorem State.cxeCancel_closed {r : CloseRecord} (hc : s.context? tag = some c) (hp : c.phase = .done ∨ c.phase = .failed)
    (hr : c.close = some r) : s.cxeCancel tag = (.closed r c.passedCommit, s) := by
  unfold State.cxeCancel
  rw [hc]
  dsimp only
  rcases hp with hp | hp <;> rw [hp, hr] <;> rfl

/-! ### A slot OPEN (R139) -/

variable {name : SlotName} {j : Job}

theorem State.cancelOpen_taken {t : State} (h : s.cxeCancel tag = (.taken, t)) :
    s.cancelOpen name tag j = (.taken, t.withCancel name .taken) := by
  unfold State.cancelOpen
  rw [h]
  rfl

theorem State.cancelOpen_tooLate (h : s.cxeCancel tag = (.tooLate, s)) : s.cancelOpen name tag j = (.tooLate, s) := by
  unfold State.cancelOpen
  rw [h]

theorem State.cancelOpen_retried {r : CloseRecord} {passed : Bool} (h : s.cxeCancel tag = (.closed r passed, s))
    (hr : s.mayRetry j passed r) : s.cancelOpen name tag j = (.taken, s.withCancel name .taken) := by
  have hnotOk : (r.reason == .ok) = false := by
    rcases hr.2.1 with h | ⟨h, _⟩ <;> rw [h] <;> rfl
  unfold State.cancelOpen
  rw [h]
  exact if_pos ((s.retryable_iff j _ _ _).mpr ⟨hnotOk, hr⟩)

theorem State.cancelOpen_ended {r : CloseRecord} {passed : Bool} (h : s.cxeCancel tag = (.closed r passed, s))
    (hr : ¬s.mayRetry j passed r) : s.cancelOpen name tag j = (.tooLate, s) := by
  unfold State.cancelOpen
  rw [h]
  exact if_neg fun hretry => hr ((s.retryable_iff j _ _ _).mp hretry).2

/-! ### A request in a slot (R138) -/

/-- A cancel set before answers as it stands. -/
theorem State.cancelSlot_standing (hc : (s.slot name).cancel = .waiting ∨ (s.slot name).cancel = .taken) :
    s.cancelSlot name j = (.taken, s) := by
  unfold State.cancelSlot
  dsimp only
  rcases hc with hc | hc <;> rw [hc]

theorem State.cancelSlot_late (hc : (s.slot name).cancel = .late) : s.cancelSlot name j = (.tooLate, s) := by
  unfold State.cancelSlot
  dsimp only
  rw [hc]

theorem State.cancelSlot_backoff (hc : (s.slot name).cancel = .none) (hs : (s.slot name).state = .backoff) :
    s.cancelSlot name j = (.taken, s.endRequest name (j.notice .cancelled .ok (s.slot name).attempts)) := by
  unfold State.cancelSlot
  dsimp only
  rw [hc, hs]

/-- A slot's message taken off the outbound list, its reservation ended (R47, R64). -/
def State.messageWithdrawn (s : State) (name : SlotName) : State :=
  State.unreserve { s with biu := { s.biu with outbound := s.biu.outbound.filter (fun o => o.slot != name) } } name

theorem State.cancelSlot_sending (hc : (s.slot name).cancel = .none) (hs : (s.slot name).state = .sending) :
    s.cancelSlot name j =
      if s.biu.outbound.any (fun o => o.slot == name) then
        (.taken, (s.messageWithdrawn name).endRequest name (j.notice .cancelled .ok (s.slot name).attempts))
      else if (s.slot name).tag.isSome then (.taken, s.withCancel name .waiting) else (.tooLate, s) := by
  unfold State.cancelSlot State.withCancel
  dsimp only
  generalize s.slot name = x at hc hs ⊢
  obtain ⟨state, _, _, tag, _, _, cancel, _⟩ := x
  obtain rfl : state = .sending := hs
  obtain rfl : cancel = .none := hc
  rfl

theorem State.cancelSlot_listed (hc : (s.slot name).cancel = .none) (hs : (s.slot name).state = .sending)
    (hlist : ∃ o ∈ s.biu.outbound, o.slot = name) : s.cancelSlot name j =
      (.taken, (s.messageWithdrawn name).endRequest name (j.notice .cancelled .ok (s.slot name).attempts)) :=
  (State.cancelSlot_sending hc hs).trans (if_pos (by simpa using hlist))

/-- A message no longer on the outbound list has gone out: a PROPOSE waits for its context, a RELEASE has no tag and is too late. -/
theorem State.cancelSlot_sent (hc : (s.slot name).cancel = .none) (hs : (s.slot name).state = .sending)
    (hlist : ∀ o ∈ s.biu.outbound, o.slot ≠ name) : s.cancelSlot name j =
      if (s.slot name).tag.isSome then (.taken, s.withCancel name .waiting) else (.tooLate, s) :=
  (State.cancelSlot_sending hc hs).trans (if_neg (by simpa using hlist))

theorem State.cancelSlot_opened (hc : (s.slot name).cancel = .none) (hs : (s.slot name).state = .opened)
    (ht : (s.slot name).tag = some tag) : s.cancelSlot name j = s.cancelOpen name tag j := by
  unfold State.cancelSlot
  dsimp only
  rw [hc, hs, ht]

/-! ### Where the request is found (R138; log 33) -/

theorem filter_id_none {job : Option Job} {target : Nat} (h : ∀ k ∈ job, k.id ≠ target) :
    job.filter (fun k => k.id == target) = none :=
  Option.filter_eq_none_iff.mpr fun k hk => by simpa using h k hk

theorem State.slotHolding_slot (hj : (s.slot name).job = some j) (hfirst : name = .b → ∀ k ∈ s.spu.slotA.job, k.id ≠ j.id) :
    s.slotHolding? j.id = some (name, j) := by
  have hhere : (s.slot name).job.filter (fun k => k.id == j.id) = some j := by simp [hj]
  unfold State.slotHolding?
  cases name with
  | a => rw [show s.spu.slotA.job.filter (fun k => k.id == j.id) = some j from hhere]
  | b => rw [filter_id_none (hfirst rfl), show s.spu.slotB.job.filter (fun k => k.id == j.id) = some j from hhere]

theorem State.slotHolding_none {target : Nat} (hA : ∀ k ∈ s.spu.slotA.job, k.id ≠ target)
    (hB : ∀ k ∈ s.spu.slotB.job, k.id ≠ target) :
    s.slotHolding? target = none := by
  unfold State.slotHolding?
  rw [filter_id_none hA, filter_id_none hB]

theorem State.cancelRequest_slot (hj : (s.slot name).job = some j) (hfirst : name = .b → ∀ k ∈ s.spu.slotA.job, k.id ≠ j.id) :
    s.cancelRequest j.id = s.cancelSlot name j := by
  unfold State.cancelRequest
  rw [State.slotHolding_slot hj hfirst]

/-- A request of no slot is looked for in the queue. -/
theorem State.cancelRequest_queue {target : Nat} (h : s.slotHolding? target = none) :
    s.cancelRequest target = (s.ctp.queue.find? (fun k => k.id == target)).elim (.notFound, s)
      (fun q => (.taken, (s.dequeue q).notice (q.notice .cancelled .ok 0))) := by
  unfold State.cancelRequest
  rw [h]
  dsimp only
  cases s.ctp.queue.find? (fun k => k.id == target) <;> rfl

end

/-! ### The request (R138, R168) -/

/-- The result that answers a CANCEL (R168). -/
def CancelAnswer.result : CancelAnswer → ResponseResult
  | .taken => .taken
  | .tooLate => .tooLate
  | .notFound => .notFound

theorem State.cancelTaken_eq (s : State) (target : Nat) :
    s.cancelTaken target = ((s.cancelRequest target).1.result, (s.cancelRequest target).2) := by
  unfold State.cancelTaken
  obtain ⟨answer, t⟩ := s.cancelRequest target
  cases answer <;> rfl

theorem exec_cancel {id target : Nat} {s t : State} {answer : CancelAnswer} (hs : s.caughtUp.ctp.sending = none)
    (hp : s.caughtUp.biu.busState.planless = false) (h : s.caughtUp.cancelRequest target = (answer, t)) :
    exec (.cancel id target) s = .next (t.answered { id := id, body := .cancel target } answer.result).complete := by
  have htaken : s.caughtUp.offer { id := id, body := .cancel target } =
      t.answered { id := id, body := .cancel target } answer.result := by
    rw [State.offer_taken hs (by simp [State.requestRefusal, hp, RequestBody.formOk])]
    show (s.caughtUp.cancelTaken target).2.answered _ (s.caughtUp.cancelTaken target).1 = _
    rw [State.cancelTaken_eq, h]
  exact congrArg (fun u : State => Host.Outcome.next u.complete) htaken

/-- Settles O16: where the request is found (`State.slotHolding?`), then the answer by the slot's state and its context's phase. -/
theorem cancelByWhereItStands : Obligations.CancelByWhereItStands := by
  refine ⟨fun id target s u hu hsend hplan hA hB => ?_, fun id name s u j hu hsend hplan hj hfirst => ?_⟩
  · obtain rfl : u = s.caughtUp := hu
    have hqueue := State.cancelRequest_queue (State.slotHolding_none hA hB)
    refine ⟨fun pre q post hq hid hpre => ?_, fun hnone => ?_⟩
    · have hfind : s.caughtUp.ctp.queue.find? (fun k => k.id == target) = some q :=
        List.find?_eq_some_iff_append.mpr ⟨by simpa using hid, pre, post, hq, fun p hp => by simpa using hpre p hp⟩
      rw [hfind, Option.elim_some, State.dequeue_at hq fun hmem => hpre q hmem hid] at hqueue
      exact exec_cancel hsend hplan hqueue
    · have hfind : s.caughtUp.ctp.queue.find? (fun k => k.id == target) = none :=
        List.find?_eq_none.mpr fun q hq => by simpa using hnone q hq
      rw [hfind] at hqueue
      exact exec_cancel hsend hplan hqueue
  · obtain rfl : u = s.caughtUp := hu
    intro gives ended
    have hgives {answer : CancelAnswer} {t : State} (h : s.caughtUp.cancelSlot name j = (answer, t)) : gives t answer.result :=
      exec_cancel hsend hplan ((State.cancelRequest_slot hj hfirst).trans h)
    refine ⟨fun hc => hgives (State.cancelSlot_standing hc), fun hc => hgives (State.cancelSlot_late hc), fun hc =>
      ⟨fun hq hother => ⟨fun hs => ?_, fun hs hlist => ?_⟩, fun hs hlist => ⟨fun ht => ?_, fun ht => ?_⟩,
        fun tag c hs ht hctx => ?_⟩⟩
    · have hended := hgives (State.cancelSlot_backoff hc hs)
      rw [State.endRequest_idle hq hother] at hended
      exact hended
    · have hended := hgives (State.cancelSlot_listed hc hs hlist)
      rw [State.endRequest_idle (s := s.caughtUp.messageWithdrawn name) hq (by cases name <;> exact hother)] at hended
      exact hended
    · exact hgives ((State.cancelSlot_sent hc hs hlist).trans (if_pos (Option.isSome_iff_ne_none.mpr ht)))
    · exact hgives ((State.cancelSlot_sent hc hs hlist).trans (if_neg (by rw [ht]; exact nofun)))
    · have hopened : s.caughtUp.cancelSlot name j = _ := State.cancelSlot_opened hc hs ht
      refine ⟨fun hp => ?_, fun hp hw => ?_, fun hp hw => ?_, fun r hp hr => ⟨fun hmay => ?_, fun hmay => ?_⟩⟩
      · exact hgives (hopened.trans (State.cancelOpen_tooLate (State.cxeCancel_move hctx hp)))
      · have htaken := State.cxeCancel_early hctx hp
        rw [if_pos hw] at htaken
        have hset (f : Context → Context) (hf : ∀ x, x.withdraw = f x) :
            gives ((s.caughtUp.onContext tag f).withCancel name .taken) .taken := by
          rw [← funext hf]
          exact hgives (hopened.trans (State.cancelOpen_taken htaken))
        refine hset _ fun x => ?_
        unfold Context.withdraw
        cases x.report with
        | none => rfl
        | some r => cases r <;> rfl
      · have htaken := State.cxeCancel_early hctx hp
        rw [if_neg hw] at htaken
        exact hgives (hopened.trans (State.cancelOpen_taken htaken))
      · exact hgives (hopened.trans (State.cancelOpen_retried (State.cxeCancel_closed hctx hp hr) hmay))
      · exact hgives (hopened.trans (State.cancelOpen_ended (State.cxeCancel_closed hctx hp hr) hmay))

end Sys2Proof.Machine
end

section
/-! SUPPORT. The bounds on queues and counts block by block, as one relation between a state and a later one (R20, R38, R51, R52,
R57, R65, R160, R161, R166, R178, R181). -/

namespace Sys2Proof.Machine

/-! ### The bounds of each block -/

/-- The queues and counts of the Controller Port within their bounds (R160, R161, R166, R178, R181). -/
def Ctp.Bounded (c : Ctp) : Prop :=
  c.queue.length ≤ Config.queueRoom ∧ c.notices.length ≤ Config.noticeRoom ∧ c.framingFaults ≤ Config.count16 ∧
    c.overruns ≤ Config.count16 ∧ (∀ e ∈ c.events, e.repeats ≤ Config.count8) ∧ ∀ n ∈ c.notices, n.lost ≤ Config.count8

/-- The counts of the Bus Interface Unit within their bounds (R51, R52, R57). -/
def Biu.Bounded (b : Biu) : Prop :=
  b.silence ≤ Config.silenceFull ∧ b.clear ≤ Config.clearFull ∧
    ∀ p ∈ b.peers, p.missed ≤ Config.missedFull ∧ p.checkFailures ≤ Config.count16

/-- The stray RELEASEs and the PROPOSEs rejected and not placed within their bounds (R38, R65). -/
def State.TalliesBounded (s : State) : Prop :=
  s.rtb.stray ≤ Config.count16 ∧ s.cxe.rejected ≤ Config.count16 ∧ s.cxe.unplaced ≤ Config.count16

/-- Every wear count within its bound (R20). -/
def bankBounded (bank : List Switch) : Prop := ∀ w ∈ bank, w.wear ≤ Config.wearFull

theorem State.countsLawful_iff (s : State) :
    s.countsLawful ↔ s.ctp.Bounded ∧ s.biu.Bounded ∧ s.TalliesBounded ∧ bankBounded s.sbc := by
  constructor
  · rintro ⟨hqueue, hnotices, hfaults, hoverruns, hrepeats, hlost, hstray, hrejected, hunplaced, hsilence, hclear, hpeers, hwear⟩
    exact ⟨⟨hqueue, hnotices, hfaults, hoverruns, hrepeats, hlost⟩, ⟨hsilence, hclear, hpeers⟩,
      ⟨hstray, hrejected, hunplaced⟩, hwear⟩
  · rintro ⟨⟨hqueue, hnotices, hfaults, hoverruns, hrepeats, hlost⟩, ⟨hsilence, hclear, hpeers⟩,
      ⟨hstray, hrejected, hunplaced⟩, hwear⟩
    exact ⟨hqueue, hnotices, hfaults, hoverruns, hrepeats, hlost, hstray, hrejected, hunplaced, hsilence, hclear, hpeers, hwear⟩

/-! ### The bounds across two states -/

/-- The bounds kept from one state to a later one, block by block. -/
structure State.KeepsBounds (s t : State) : Prop where
  port : s.ctp.Bounded → t.ctp.Bounded
  bus : s.biu.Bounded → t.biu.Bounded
  tallies : s.TalliesBounded → t.TalliesBounded
  bank : bankBounded s.sbc → bankBounded t.sbc

theorem State.KeepsBounds.counts {s t : State} (h : s.KeepsBounds t) (hs : s.countsLawful) : t.countsLawful := by
  obtain ⟨hport, hbus, htallies, hbank⟩ := s.countsLawful_iff.mp hs
  exact t.countsLawful_iff.mpr ⟨h.port hport, h.bus hbus, h.tallies htallies, h.bank hbank⟩

theorem State.KeepsBounds.refl (s : State) : s.KeepsBounds s := ⟨id, id, id, id⟩

theorem State.KeepsBounds.trans {s t u : State} (h : s.KeepsBounds t) (k : t.KeepsBounds u) : s.KeepsBounds u :=
  ⟨k.port ∘ h.port, k.bus ∘ h.bus, k.tallies ∘ h.tallies, k.bank ∘ h.bank⟩

/-- A run of operations that each keep the bounds, one for each element of a list. -/
theorem State.KeepsBounds.foldl {α : Type} {f : State → α → State} (hf : ∀ (u : State) (a : α), u.KeepsBounds (f u a))
    (l : List α) (s : State) : s.KeepsBounds (l.foldl f s) :=
  List.foldlRecOn (motive := fun t => s.KeepsBounds t) l f (.refl s) fun _ hu a _ => hu.trans (hf _ a)

/-! ### The port -/

/-- A change of the events that keeps each repeat count within its bound. -/
theorem Ctp.Bounded.onEvents {c : Ctp} (h : c.Bounded) {f : EventStatus → EventStatus}
    (hf : ∀ e, e.repeats ≤ Config.count8 → (f e).repeats ≤ Config.count8) :
    Ctp.Bounded { c with events := c.events.map f } := by
  obtain ⟨hqueue, hnotices, hfaults, hoverruns, hrepeats, hlost⟩ := h
  refine ⟨hqueue, hnotices, hfaults, hoverruns, fun e he => ?_, hlost⟩
  obtain ⟨x, hx, rfl⟩ := List.mem_map.mp he
  exact hf x (hrepeats x hx)

/-- A repeat count saturates, and a fresh raising clears it (R181). -/
theorem EventStatus.fire_repeats (source : EventSource) (e : EventStatus) : (e.fire source).repeats ≤ Config.count8 := by
  unfold EventStatus.fire
  split
  · exact Nat.min_le_left _ _
  · exact Nat.zero_le _

theorem State.fire_keepsBounds (s : State) (name : EventName) (source : EventSource) : s.KeepsBounds (s.fire name source) := by
  refine ⟨fun h => h.onEvents fun e he => ?_, id, id, id⟩
  split
  · exact e.fire_repeats source
  · exact he

theorem State.complete_keepsBounds (s : State) : s.KeepsBounds s.complete :=
  ⟨fun h => h.onEvents (f := fun e =>
    { e with raised := levelRaised s.ctp.notices (holdAfter s.ctp.queue.length s.ctp.hold) s.biu.busState e.name e.raised })
    fun _ he => he, id, id, id⟩

theorem State.notice_keepsBounds (s : State) (n : Notice) : s.KeepsBounds (s.notice n) := by
  refine ⟨?_, id, id, id⟩
  rintro ⟨hqueue, hnotices, hfaults, hoverruns, hrepeats, hlost⟩
  exact ⟨hqueue, joinNotice_length _ n hnotices, hfaults, hoverruns, hrepeats, joinNotice_lost _ n hlost⟩

theorem State.dequeue_keepsBounds (s : State) (j : Job) : s.KeepsBounds (s.dequeue j) := by
  refine ⟨?_, id, id, id⟩
  rintro ⟨hqueue, hrest⟩
  exact ⟨(List.length_erase_le ..).trans hqueue, hrest⟩

/-! ### The bus -/

/-- A change of the peers that keeps the counts of each within their bounds. -/
theorem Biu.Bounded.onPeers {b : Biu} (h : b.Bounded) {f : Peer → Peer}
    (hf : ∀ p, p.missed ≤ Config.missedFull ∧ p.checkFailures ≤ Config.count16 →
      (f p).missed ≤ Config.missedFull ∧ (f p).checkFailures ≤ Config.count16) :
    Biu.Bounded { b with peers := b.peers.map f } := by
  obtain ⟨hsilence, hclear, hpeers⟩ := h
  refine ⟨hsilence, hclear, fun p hp => ?_⟩
  obtain ⟨q, hq, rfl⟩ := List.mem_map.mp hp
  exact hf q (hpeers q hq)

theorem State.onPeer_keepsBounds (s : State) (n : Nat) {f : Peer → Peer}
    (hf : ∀ p, p.missed ≤ Config.missedFull ∧ p.checkFailures ≤ Config.count16 →
      (f p).missed ≤ Config.missedFull ∧ (f p).checkFailures ≤ Config.count16) : s.KeepsBounds (s.onPeer n f) := by
  refine ⟨id, fun h => h.onPeers fun p hp => ?_, id, id⟩
  split
  · exact hf p hp
  · exact hp

/-- The end of DRAINING sets the silence count to its bound (R53). -/
theorem State.drainTest_keepsBounds (s : State) : s.KeepsBounds s.drainTest := by
  rcases s.drainTest_cases with ⟨e, _⟩ | e <;> rw [e]
  · exact ⟨id, fun h => ⟨Nat.le_refl _, h.2⟩, id, id⟩
  · exact .refl s

/-! ### The bank -/

theorem bankBounded.map {bank : List Switch} (h : bankBounded bank) {f : Switch → Switch}
    (hf : ∀ w, w.wear ≤ Config.wearFull → (f w).wear ≤ Config.wearFull) : bankBounded (bank.map f) := by
  intro v hv
  obtain ⟨w, hw, rfl⟩ := List.mem_map.mp hv
  exact hf w (h w hw)

theorem State.onSwitches_keepsBounds (s : State) {f : Switch → Switch}
    (hf : ∀ w, w.wear ≤ Config.wearFull → (f w).wear ≤ Config.wearFull) : s.KeepsBounds (s.onSwitches f) :=
  ⟨id, id, id, fun h => h.map hf⟩

theorem State.onSwitch_keepsBounds (s : State) (i : Nat) {f : Switch → Switch}
    (hf : ∀ w, w.wear ≤ Config.wearFull → (f w).wear ≤ Config.wearFull) : s.KeepsBounds (s.onSwitch i f) := by
  refine s.onSwitches_keepsBounds (f := fun w => if w.plan.index = i then f w else w) fun w hw => ?_
  split
  · exact hf w hw
  · exact hw

/-- A claim operation leaves the wear count. -/
theorem Switch.wear_of_bare {v w : Switch} (h : v.bare = w.bare) : v.wear = w.wear := by
  have := congrArg Switch.wear h
  exact this

/-! ### What is counted in none of them -/

theorem State.setSlot_keepsBounds (s : State) (name : SlotName) (x : SponsorSlot) : s.KeepsBounds (s.setSlot name x) := by
  cases name <;> exact ⟨id, id, id, id⟩

theorem State.onRoute_keepsBounds (s : State) (i : Nat) (f : Route → Route) : s.KeepsBounds (s.onRoute i f) := ⟨id, id, id, id⟩

theorem State.onContext_keepsBounds (s : State) (g : Tag) (f : Context → Context) : s.KeepsBounds (s.onContext g f) :=
  ⟨id, id, id, id⟩

theorem State.unreserve_keepsBounds (s : State) (name : SlotName) : s.KeepsBounds (s.unreserve name) := ⟨id, id, id, id⟩

end Sys2Proof.Machine
end

section
/-! SUPPORT. The operations of the Sponsor Unit, the bank, the Route Table and the Changeover Engine keep every queue and count
within its bound. -/

namespace Sys2Proof.Machine

/-! ### The Sponsor Unit (R130 to R140) -/

theorem State.placePropose_keepsBounds (s : State) (name : SlotName) (j : Job) : s.KeepsBounds (s.placePropose name j) := by
  cases name <;> exact ⟨id, id, id, id⟩

theorem State.placeRelease_keepsBounds (s : State) (name : SlotName) (j : Job) : s.KeepsBounds (s.placeRelease name j) := by
  cases name <;> exact ⟨id, id, id, id⟩

theorem State.takeUpSlot_keepsBounds (name : SlotName) :
    ∀ (fuel : Nat) (only : Bool) (s : State), s.KeepsBounds (State.takeUpSlot name fuel only s)
  | 0, _, s => .refl s
  | fuel + 1, only, s => by
    rcases State.takeUpSlot_cases name fuel only s with
      e | ⟨j, _, _, ⟨why, _, e⟩ | ⟨_, _, e⟩ | ⟨_, _, _, e⟩ | ⟨_, _, e⟩⟩ <;> rw [e]
    · exact .refl s
    · exact ((s.dequeue_keepsBounds j).trans (State.notice_keepsBounds _ _)).trans
        (State.takeUpSlot_keepsBounds name fuel only _)
    · exact (s.dequeue_keepsBounds j).trans (State.placeRelease_keepsBounds _ name j)
    · exact (s.dequeue_keepsBounds j).trans (State.placePropose_keepsBounds _ name j)
    · exact State.takeUpSlot_keepsBounds name fuel true s

theorem State.takeUps_keepsBounds (s : State) : s.KeepsBounds s.takeUps := by
  have one : ∀ (name : SlotName) (u : State), u.KeepsBounds (if u.biu.busState = .onBus ∧ u.slotOpen name then
      State.takeUpSlot name (u.ctp.queue.length + 1) false u else u) := by
    intro name u
    split
    · exact State.takeUpSlot_keepsBounds name _ _ u
    · exact .refl u
  exact (one .a s).trans (one .b _)

theorem State.retrySlot_keepsBounds (s : State) (name : SlotName) : s.KeepsBounds (s.retrySlot name) := by
  rcases s.retrySlot_cases name with e | ⟨j, _, _, _, _, _, ⟨why, _, e⟩ | ⟨_, _, e⟩⟩ <;> rw [e]
  · exact .refl s
  · exact ((s.setSlot_keepsBounds name _).trans (State.notice_keepsBounds _ _)).trans (State.drainTest_keepsBounds _)
  · exact s.placePropose_keepsBounds name j

theorem State.sponsorEvent_keepsBounds (s : State) : s.KeepsBounds s.sponsorEvent :=
  ((s.retrySlot_keepsBounds .a).trans (State.retrySlot_keepsBounds _ .b)).trans (State.takeUps_keepsBounds _)

theorem State.endRequest_keepsBounds (s : State) (name : SlotName) (n : Notice) : s.KeepsBounds (s.endRequest name n) :=
  ((s.notice_keepsBounds n).trans (State.setSlot_keepsBounds _ name _)).trans
    ((State.drainTest_keepsBounds _).trans (State.sponsorEvent_keepsBounds _))

theorem State.handOver_keepsBounds (s : State) (c : Context) (done : Bool) (record : CloseRecord) :
    s.KeepsBounds (s.handOver c done record) := by
  unfold State.handOver State.takeHandOff
  split
  · split
    · exact .refl s
    · rename_i name _
      split
      · rename_i j _
        rcases s.judgeClose_cases name (s.slot name) j (c.handOff done record) with ⟨n, _, e⟩ | ⟨_, _, _, e⟩ <;> rw [e]
        · exact s.endRequest_keepsBounds name n
        · exact s.setSlot_keepsBounds name _
      · exact .refl s
  · exact .refl s

theorem State.proposeNotOpened_keepsBounds (s : State) : s.KeepsBounds s.proposeNotOpened := by
  unfold State.proposeNotOpened
  repeat' split
  · exact .refl s
  · exact s.endRequest_keepsBounds _ _
  · exact .refl s

theorem State.releaseAnswered_keepsBounds (s : State) (honoured : Bool) : s.KeepsBounds (s.releaseAnswered honoured) := by
  unfold State.releaseAnswered
  split
  · exact .refl s
  · split
    · exact s.endRequest_keepsBounds _ _
    · exact .refl s

theorem State.endSilent_keepsBounds (s : State) (name : SlotName) : s.KeepsBounds (s.endSilent name) := by
  unfold State.endSilent
  split
  · exact s.endRequest_keepsBounds _ _
  · exact .refl s

theorem State.cxeCancel_keepsBounds (s : State) (g : Tag) : s.KeepsBounds (s.cxeCancel g).2 := by
  rw [s.cxeCancel_rest g]
  exact ⟨id, id, id, id⟩

theorem State.proposeOpened_keepsBounds (s : State) : s.KeepsBounds s.proposeOpened := by
  unfold State.proposeOpened
  split
  · exact .refl s
  · dsimp only
    split
    · exact (s.cxeCancel_keepsBounds _).trans (State.setSlot_keepsBounds _ _ _)
    · exact s.setSlot_keepsBounds _ _

theorem State.cancelOpen_keepsBounds (s : State) (name : SlotName) (g : Tag) (j : Job) :
    s.KeepsBounds (s.cancelOpen name g j).2 := by
  have h := s.cxeCancel_keepsBounds g
  unfold State.cancelOpen
  split <;> rename_i heq <;> rw [heq] at h
  · exact h.trans (State.setSlot_keepsBounds _ _ _)
  · exact h
  · split
    · exact h.trans (State.setSlot_keepsBounds _ _ _)
    · exact h

theorem State.cancelSlot_keepsBounds (s : State) (name : SlotName) (j : Job) : s.KeepsBounds (s.cancelSlot name j).2 := by
  unfold State.cancelSlot
  dsimp only
  split
  iterate 3 exact .refl s
  split
  · exact s.endRequest_keepsBounds _ _
  · split
    · refine State.KeepsBounds.trans ?_ (State.endRequest_keepsBounds _ _ _)
      exact ⟨id, id, id, id⟩
    · split
      · exact s.setSlot_keepsBounds _ _
      · exact .refl s
  · exact s.cancelOpen_keepsBounds _ _ _
  · exact .refl s

theorem State.cancelRequest_keepsBounds (s : State) (id : Nat) : s.KeepsBounds (s.cancelRequest id).2 := by
  unfold State.cancelRequest
  split
  · exact s.cancelSlot_keepsBounds _ _
  · split
    · exact (s.dequeue_keepsBounds _).trans (State.notice_keepsBounds _ _)
    · exact .refl s

theorem State.testWithdrawals_keepsBounds (s : State) : s.KeepsBounds s.testWithdrawals := by
  unfold State.testWithdrawals
  have hcontexts : s.KeepsBounds { s with cxe := { s.cxe with contexts := s.cxe.contexts.map Context.testWithdrawal } } :=
    ⟨id, id, id, id⟩
  exact hcontexts.trans (.foldl (f := fun u g => { u with spu := { u.spu with
    slotA := u.spu.slotA.cancelLate g, slotB := u.spu.slotB.cancelLate g } }) (fun _ _ => ⟨id, id, id, id⟩) _ _)

theorem State.takeMessage_keepsBounds (s : State) : s.KeepsBounds s.takeMessage.2 := by
  unfold State.takeMessage
  split
  · exact .refl s
  · refine State.KeepsBounds.trans ?_ (State.setSlot_keepsBounds _ _ _)
    exact ⟨id, id, id, id⟩

/-! ### Claims, drives and settles (R7 to R21) -/

/-- An operation on claims alone. -/
theorem State.KeepsBounds.of_bare {s : State} {i : Nat} {f : Switch → Switch} (hf : ∀ w, (f w).bare = w.bare) :
    s.KeepsBounds (s.onSwitch i f) :=
  s.onSwitch_keepsBounds i fun w hw => (Switch.wear_of_bare (hf w)).trans_le hw

theorem State.claimCheck_keepsBounds (s : State) (g : Tag) (m : Nat) (b : Option Nat) (t : Bool) :
    s.KeepsBounds (s.claimCheck g m b t).2 := by
  unfold State.claimCheck
  dsimp only
  split
  · exact .refl s
  · exact .foldl (fun _ (q : Nat × Option Nat) => .of_bare (Switch.grant_bare g b q.2)) _ s

theorem State.fixTrim_keepsBounds (s : State) (g : Tag) (a code : Nat) : s.KeepsBounds (s.fixTrim g a code).2 := by
  rcases s.fixTrim_cases g a code with e | ⟨_, _, _, e⟩ <;> rw [e]
  · exact .refl s
  · exact .of_bare (Switch.fixPosition_bare g code)

/-- A drive adds to the wear count, which saturates (R20). -/
theorem Switch.driveMember_wear (g : Tag) (p : Nat) (hot : Bool) {w : Switch} (h : w.wear ≤ Config.wearFull) :
    (w.driveMember g p hot).wear ≤ Config.wearFull := by
  have hwaiter : ∀ v : Switch, (v.addWaiter g).wear = v.wear := fun v => by unfold Switch.addWaiter; split <;> rfl
  unfold Switch.driveMember
  split
  · exact h
  · split
    · exact (hwaiter w).trans_le h
    · exact (hwaiter _).trans_le (Nat.min_le_left _ _)

theorem State.fireWorn_keepsBounds (s : State) (w : Switch) : s.KeepsBounds (s.fireWorn w) := by
  unfold State.fireWorn
  repeat' split
  · exact s.fire_keepsBounds _ _
  all_goals exact .refl s

theorem State.fireFault_keepsBounds (s : State) (w : Switch) : s.KeepsBounds (s.fireFault w) := by
  unfold State.fireFault
  repeat' split
  · exact s.fire_keepsBounds _ _
  all_goals exact .refl s

theorem State.drive_keepsBounds (s : State) (g : Tag) (m : Bool) (i p : Nat) : s.KeepsBounds (s.drive g m i p).2 := by
  have hmembers : ∀ hot, s.KeepsBounds
      ((s.members i).foldl (fun s w => s.onSwitch w.plan.index (Switch.driveMember g p hot)) s) := fun hot =>
    .foldl (fun u _ => u.onSwitch_keepsBounds _ fun _ hv => Switch.driveMember_wear g p hot hv) _ s
  rcases s.drive_cases g m i p with e | ⟨_, e, _⟩ | ⟨e, _⟩ | ⟨e, _⟩ | ⟨e, _⟩ <;> rw [e]
  iterate 3 exact .refl s
  · exact hmembers false
  · refine State.KeepsBounds.trans ?_ (.foldl State.fireWorn_keepsBounds _ _)
    split
    · exact (hmembers _).trans (State.fire_keepsBounds _ _ _)
    · exact hmembers _

theorem Switch.afterSettle_wear (sense : SenseLevels) (reason : FaultReason) (w : Switch) :
    (w.afterSettle sense reason).wear = w.wear := by
  unfold Switch.afterSettle
  split
  · split <;> rfl
  · rfl

theorem State.endSettle_keepsBounds (s : State) (i : Nat) : s.KeepsBounds (s.endSettle i).2 := by
  unfold State.endSettle
  dsimp only
  refine State.KeepsBounds.trans (.foldl (fun u w => u.onSwitch_keepsBounds _ fun v hv => ?_) _ s)
    (.foldl State.fireFault_keepsBounds _ _)
  exact (v.afterSettle_wear _ _).trans_le hv

/-! ### Routes (R30 to R38, R149) -/

theorem State.markRoutes_keepsBounds (s : State) (make : Nat) (brk : Option Nat) (f : Route → Route) :
    s.KeepsBounds (s.markRoutes make brk f) := by
  unfold State.markRoutes
  dsimp only
  repeat' split
  all_goals exact ⟨id, id, id, id⟩

theorem State.takeDown_keepsBounds (s : State) (route : Nat) : s.KeepsBounds (s.takeDown route) :=
  (s.onSwitches_keepsBounds (f := Switch.dropRoute route) fun _ hw => hw).trans (State.onRoute_keepsBounds _ _ _)

theorem State.breakDown_keepsBounds (s : State) (route : Nat) : s.KeepsBounds (s.breakDown route) := by
  unfold State.breakDown
  repeat' split
  · exact .refl s
  · exact s.takeDown_keepsBounds route
  · exact .refl s

theorem State.makeEstablished_keepsBounds (s : State) (c : Context) : s.KeepsBounds (s.makeEstablished c) := by
  unfold State.makeEstablished
  split
  · exact (s.onSwitches_keepsBounds (f := Switch.convert c.tag c.make) fun _ hw => hw).trans (State.onRoute_keepsBounds _ _ _)
  · exact .refl s

theorem State.releaseHeard_keepsBounds (s : State) (sender route : Nat) (force : Bool) :
    s.KeepsBounds (s.releaseHeard sender route force).2 := by
  unfold State.releaseHeard
  split
  · exact .refl s
  · split
    · exact s.takeDown_keepsBounds route
    · exact ⟨id, id, fun h => ⟨Nat.min_le_left _ _, h.2⟩, id⟩

theorem State.orphanRoutes_keepsBounds (s : State) (absent : List Nat) : s.KeepsBounds (s.orphanRoutes absent) :=
  .foldl (fun u _ => ((u.onRoute_keepsBounds _ _).trans (State.fire_keepsBounds _ _ _)).trans (State.notice_keepsBounds _ _)) _ s

/-! ### Phases and closes (R75 to R84) -/

theorem State.closeFailed_keepsBounds (s : State) (c : Context) (record : CloseRecord) :
    s.KeepsBounds (s.closeFailed c record) := by
  rw [State.closeFailed_eq]
  refine State.KeepsBounds.trans ?_ (State.handOver_keepsBounds _ c false record)
  exact ⟨id, id, id, fun h => h.map (f := Switch.dropTag c.tag) fun _ hw => hw⟩

theorem State.closeOpen_keepsBounds (record : Context → CloseRecord) (s : State) (g : Tag) :
    s.KeepsBounds (State.closeOpen record s g) := by
  unfold State.closeOpen
  repeat' split
  · exact s.closeFailed_keepsBounds _ _
  all_goals exact .refl s

theorem State.trimStep_keepsBounds (s : State) (g : Tag) : s.KeepsBounds (s.trimStep g) := by
  unfold State.trimStep
  split
  · exact .refl s
  · split
    · exact .refl s
    · split
      · exact (s.onContext_keepsBounds g _).trans (State.fixTrim_keepsBounds _ _ _ _)
      · exact ⟨id, id, id, id⟩

theorem State.enterCold_keepsBounds (s : State) (c : Context) : s.KeepsBounds (s.enterCold c) := by
  by_cases hrole : c.role = .sponsorOnly
  · unfold State.enterCold
    rw [if_pos hrole]
    exact s.onContext_keepsBounds _ _
  · have hcold : s.KeepsBounds (s.intoCold c) := ⟨id, id, id, id⟩
    rw [s.enterCold_eq hrole]
    split
    · exact hcold.trans (State.trimStep_keepsBounds _ _)
    · exact hcold

theorem State.enterMove_keepsBounds (s : State) (c : Context) : s.KeepsBounds (s.enterMove c) := by
  have hbreak : s.KeepsBounds (s.breakOf c) := by
    unfold State.breakOf
    split
    · exact s.breakDown_keepsBounds _
    · exact .refl s
  have hdrives : ∀ (l : List (Nat × Nat)) (u : State), u.KeepsBounds (State.driveAll c.tag l u).2 := by
    intro l
    induction l with
    | nil => exact State.KeepsBounds.refl
    | cons q l ih => exact fun u => (u.drive_keepsBounds c.tag true q.1 q.2).trans (ih _)
  rw [State.enterMove_parts]
  refine State.KeepsBounds.trans ?_ (State.onContext_keepsBounds _ _ _)
  unfold State.moveDrives
  split
  · exact hbreak.trans (hdrives _ _)
  · exact hbreak

theorem State.enterDone_keepsBounds (s : State) (c : Context) : s.KeepsBounds (s.enterDone c) := by
  obtain ⟨hcxe, hsbc, hrtb, _, hbiu, hctp⟩ := s.closedDone_kept c
  have hmade := s.makeEstablished_keepsBounds c
  rw [State.enterDone_eq]
  refine State.KeepsBounds.trans ⟨?_, ?_, fun h => ?_, ?_⟩ (State.handOver_keepsBounds _ c true _)
  · rw [hctp]; exact id
  · rw [hbiu]; exact id
  · have hstray : (s.closedDone c).rtb.stray = (s.makeEstablished c).rtb.stray :=
      (congrArg Rtb.stray hrtb).trans rfl
    refine ⟨hstray ▸ (hmade.tallies h).1, ?_⟩
    rw [hcxe]
    exact h.2
  · rw [hsbc]; exact hmade.bank

theorem State.testPhases_keepsBounds (v : Voice) (g : Tag) : ∀ (fuel : Nat) (s : State), s.KeepsBounds (State.testPhases v g fuel s)
  | 0, s => .refl s
  | fuel + 1, s => by
    unfold State.testPhases
    split
    · exact .refl s
    split
    · exact .refl s
    split
    · exact s.closeFailed_keepsBounds _ _
    split
    · exact (s.enterCold_keepsBounds _).trans (State.testPhases_keepsBounds v g fuel _)
    split
    · exact (s.enterMove_keepsBounds _).trans (State.testPhases_keepsBounds v g fuel _)
    split
    · exact s.enterDone_keepsBounds _
    · exact .refl s

/-! ### Records heard (R65 to R72) -/

theorem State.takeEntry_keepsBounds (sender : Nat) (s : State) (e : StageEntry) : s.KeepsBounds (State.takeEntry sender s e) := by
  unfold State.takeEntry
  split
  · exact .refl s
  dsimp only
  split
  · refine State.KeepsBounds.trans ?_ (State.testPhases_keepsBounds _ _ 4 _)
    split
    · exact s.onContext_keepsBounds _ _
    · exact .refl s
  · exact .refl s

theorem State.openContext_keepsBounds (s : State) (p : Propose) (n : Nat) : s.KeepsBounds (s.openContext p n) := by
  obtain ⟨role, report, t, e, ht⟩ := s.openContext_cases p n
  rw [e]
  refine State.KeepsBounds.trans (t := t) ?_ ⟨id, id, id, id⟩
  rcases ht with rfl | rfl | ⟨_, rfl | ⟨_, rfl⟩⟩
  · exact .refl _
  · exact s.markRoutes_keepsBounds _ _ _
  · exact s.markRoutes_keepsBounds _ _ _
  · exact (s.markRoutes_keepsBounds _ _ _).trans (State.claimCheck_keepsBounds _ _ _ _ _)

theorem State.endReservation_keepsBounds (s : State) : s.KeepsBounds s.endReservation := by
  unfold State.endReservation
  split
  · exact s.unreserve_keepsBounds _
  · exact .refl s

theorem State.proposeHeard_keepsBounds (s : State) (sponsor : Nat) (p : Propose) : s.KeepsBounds (s.proposeHeard sponsor p) := by
  have hreject : s.KeepsBounds s.countRejected := ⟨id, id, fun h => ⟨h.1, Nat.min_le_left _ _, h.2.2⟩, id⟩
  have hunplaced : ∀ u : State, u.KeepsBounds u.countUnplaced := fun _ =>
    ⟨id, id, fun h => ⟨h.1, h.2.1, Nat.min_le_left _ _⟩, id⟩
  unfold State.proposeHeard
  dsimp only
  split
  · exact .refl s
  split
  · split
    · exact (hreject.trans (State.endReservation_keepsBounds _)).trans (State.proposeNotOpened_keepsBounds _)
    · exact hreject
  have hown : s.KeepsBounds (if (sponsor == s.me) = true then s.endReservation else s) := by
    split
    · exact s.endReservation_keepsBounds
    · exact .refl s
  generalize (if (sponsor == s.me) = true then s.endReservation else s) = t at hown ⊢
  refine hown.trans ?_
  split
  · split
    · exact (t.openContext_keepsBounds p sponsor).trans (State.proposeOpened_keepsBounds _)
    · exact t.openContext_keepsBounds p sponsor
  · exact hunplaced t

theorem State.messageHeard_keepsBounds (s : State) (sender : Nat) (changeovers : Bool) (m : Option Message) :
    s.KeepsBounds (s.messageHeard sender changeovers m) := by
  unfold State.messageHeard
  split
  · exact .refl s
  · split
    · exact s.proposeHeard_keepsBounds sender _
    · exact .refl s
  · dsimp only
    split
    · exact (s.releaseHeard_keepsBounds _ _ _).trans (State.releaseAnswered_keepsBounds _ _)
    · exact s.releaseHeard_keepsBounds _ _ _

theorem State.deliver_keepsBounds (s : State) (r : SlotRecord) : s.KeepsBounds (s.deliver r) := by
  unfold State.deliver
  split
  · exact ((State.KeepsBounds.foldl (State.takeEntry_keepsBounds r.sender) r.entries s).trans
      (.foldl (State.closeOpen_keepsBounds _) _ _)).trans (State.messageHeard_keepsBounds _ _ _ _)
  · exact s.messageHeard_keepsBounds _ _ _

/-! ### Freeing, settles and windows (R74, R76, R79, R85) -/

theorem State.freeIfDone_keepsBounds (s : State) (g : Tag) : s.KeepsBounds (s.freeIfDone g) := by
  unfold State.freeIfDone
  repeat' split
  · refine State.KeepsBounds.trans ?_ (State.drainTest_keepsBounds _)
    exact ⟨id, id, id, fun h => h.map (f := fun w => { w with waiters := w.waiters.filter (fun t => t != g) }) fun _ hw => hw⟩
  all_goals exact .refl s

theorem State.tellOutcome_keepsBounds (report : SettleReport) (s : State) (g : Tag) :
    s.KeepsBounds (State.tellOutcome report s g) := by
  unfold State.tellOutcome
  split
  · exact .refl s
  · dsimp only
    refine State.KeepsBounds.trans ?_ (State.freeIfDone_keepsBounds _ g)
    split <;> exact ⟨id, id, id, id⟩

theorem State.settleEnds_keepsBounds (s : State) (i : Nat) : s.KeepsBounds (s.settleEnds i) :=
  (s.endSettle_keepsBounds i).trans (.foldl (State.tellOutcome_keepsBounds _) _ _)

theorem State.windowRunsOut_keepsBounds (s : State) (g : Tag) : s.KeepsBounds (s.windowRunsOut g) := by
  unfold State.windowRunsOut
  repeat' split
  · exact (s.onContext_keepsBounds _ _).trans (State.closeFailed_keepsBounds _ _ _)
  all_goals exact .refl s

theorem State.quietRunsOut_keepsBounds (s : State) (g : Tag) : s.KeepsBounds (s.quietRunsOut g) := by
  unfold State.quietRunsOut
  repeat' split
  all_goals exact ⟨id, id, id, id⟩

theorem State.sampleTaken_keepsBounds (s : State) (input : Nat) (level : Int) : s.KeepsBounds (s.sampleTaken input level) := by
  unfold State.sampleTaken State.quietPasses
  have hguard : s.KeepsBounds { s with rfg := (s.rfg.takeSample input level).1 } := ⟨id, id, id, id⟩
  exact hguard.trans (.foldl (fun u g => u.onContext_keepsBounds g _) _ _)

end Sys2Proof.Machine
end

section
/-! SUPPORT. The work of a frame end, the bus, the controller port and the load keep every queue and count within its bound, and the
flags of the port agree at the end of every event (R167, R180, R184). -/

namespace Sys2Proof.Machine

/-! ### The work of a frame end (R43) -/

theorem State.peersGoAbsent_keepsBounds (s : State) : s.KeepsBounds s.peersGoAbsent := by
  rw [s.peersGoAbsent_eq]
  unfold State.markAbsent
  refine (State.KeepsBounds.foldl (fun u n => ?_) _ s).trans
    ((State.KeepsBounds.foldl (State.closeOpen_keepsBounds _) _ _).trans (State.orphanRoutes_keepsBounds _ _))
  exact (u.onPeer_keepsBounds n (f := fun p => { p with presence := .absent }) fun _ hp => hp).trans (State.fire_keepsBounds _ _ _)

theorem Biu.Bounded.enterListen {b : Biu} (h : b.Bounded) : b.enterListen.Bounded := ⟨h.1, Nat.zero_le _, h.2.2⟩

theorem State.silenceComplete_keepsBounds (s : State) : s.KeepsBounds s.silenceComplete := by
  unfold State.silenceComplete
  split
  · exact ⟨id, Biu.Bounded.enterListen, id, id⟩
  · exact .refl s

theorem State.clearComplete_keepsBounds (s : State) : s.KeepsBounds s.clearComplete := by
  unfold State.clearComplete
  split
  · refine State.KeepsBounds.trans ?_ (State.sponsorEvent_keepsBounds _)
    exact ⟨id, id, id, id⟩
  · exact .refl s

theorem State.backoffRunsOut_keepsBounds (s : State) (name : SlotName) : s.KeepsBounds (s.backoffRunsOut name) := by
  unfold State.backoffRunsOut
  dsimp only
  split
  · exact (s.retrySlot_keepsBounds name).trans (State.sponsorEvent_keepsBounds _)
  · exact s.retrySlot_keepsBounds name

theorem State.doWork_keepsBounds (s : State) (w : Work) : s.KeepsBounds (s.doWork w) := by
  refine State.KeepsBounds.trans ?_ (State.complete_keepsBounds _)
  cases w with
  | settle i =>
    dsimp only
    split
    · exact s.settleEnds_keepsBounds i
    · exact .refl s
  | quiet g => exact s.quietRunsOut_keepsBounds g
  | window g => exact s.windowRunsOut_keepsBounds g
  | absence => exact s.peersGoAbsent_keepsBounds
  | linger g => exact s.freeIfDone_keepsBounds g
  | silence => exact s.silenceComplete_keepsBounds
  | clear => exact s.clearComplete_keepsBounds
  | backoff name => exact s.backoffRunsOut_keepsBounds name
  | takeUp => exact s.takeUps_keepsBounds

theorem State.caughtUp_keepsBounds (s : State) : s.KeepsBounds s.caughtUp := by
  have hemptied : s.KeepsBounds { s with agenda := [] } := ⟨id, id, id, id⟩
  exact hemptied.trans (.foldl State.doWork_keepsBounds _ _)

theorem State.workNow_keepsBounds (s : State) (w : Work) : s.KeepsBounds (s.workNow w) := by
  unfold State.workNow
  split
  · have htaken : s.KeepsBounds { s with agenda := s.agenda.erase w } := ⟨id, id, id, id⟩
    exact htaken.trans (State.doWork_keepsBounds _ w)
  · exact .refl s

/-- The counts of a frame end saturate (R51, R52, R58). -/
theorem Biu.Bounded.frameEnd {b : Biu} (h : b.Bounded) : b.frameEnd.Bounded := by
  obtain ⟨hsilence, hclear, hpeers⟩ := h.onPeers (f := Peer.frameEnd b.heard) fun p hp => by
    unfold Peer.frameEnd
    split
    · exact ⟨Nat.min_le_left _ _, hp.2⟩
    · exact hp
  refine ⟨?_, ?_, hpeers⟩
  · show (if _ then _ else _) ≤ _
    split
    · exact Nat.min_le_left _ _
    · exact hsilence
  · show (if _ then _ else _) ≤ _
    split
    · exact Nat.min_le_left _ _
    · exact hclear

theorem State.frameEnds_keepsBounds (s : State) (sense : SenseLevels) : s.KeepsBounds (s.frameEnds sense) := by
  unfold State.frameEnds
  split
  · have hcount : s.KeepsBounds ({ s with sense := sense } : State).countFrame := by
      refine ⟨id, Biu.Bounded.frameEnd, id, fun h => h.map (f := Switch.settleTick) fun w hw => ?_⟩
      unfold Switch.settleTick
      split <;> exact hw
    refine (hcount.trans (State.drainTest_keepsBounds _)).trans ?_
    exact ⟨id, id, id, id⟩
  · exact .refl s

/-! ### The bus (R44 to R59) -/

theorem State.enterDuplicate_keepsBounds (s : State) (cause : DuplicateCause) : s.KeepsBounds (s.enterDuplicate cause) := by
  have hsilent : s.KeepsBounds { s with biu := { s.biu with busState := .duplicate, cause := some cause, outbound := [] } } :=
    ⟨id, id, id, id⟩
  have hended : ∀ u : State, u.KeepsBounds { u with cxe := { u.cxe with reservations := [] } } := fun _ => ⟨id, id, id, id⟩
  unfold State.enterDuplicate State.fallSilent
  exact (((hsilent.trans (State.fire_keepsBounds _ _ _)).trans (hended _)).trans
    (.foldl (State.closeOpen_keepsBounds _) _ _)).trans
      ((State.endSilent_keepsBounds _ .a).trans (State.endSilent_keepsBounds _ .b))

theorem State.peerHeard_keepsBounds (s : State) (r : SlotRecord) : s.KeepsBounds (s.peerHeard r) := by
  have hpeer : s.KeepsBounds (s.onPeer r.sender (fun p =>
      { p with presence := .present, missed := 0, lastDraining := some r.draining })) :=
    s.onPeer_keepsBounds _ fun _ hp => ⟨Nat.zero_le _, hp.2⟩
  unfold State.peerHeard
  dsimp only
  split
  · exact hpeer.trans ⟨id, id, id, id⟩
  · refine State.KeepsBounds.trans (hpeer.trans ?_) (State.fire_keepsBounds _ _ _)
    exact ⟨id, id, id, id⟩

theorem State.peerSlot_keepsBounds (s : State) (n : Nat) (heard : Heard) : s.KeepsBounds (s.peerSlot n heard) := by
  cases heard with
  | nothing => exact .refl s
  | failed =>
    exact (s.onPeer_keepsBounds n (f := fun p => { p with checkFailures := satAdd Config.count16 p.checkFailures 1 })
      fun _ hp => ⟨hp.1, Nat.min_le_left _ _⟩).trans (State.fire_keepsBounds _ _ _)
  | good r => exact (s.peerHeard_keepsBounds r).trans (State.deliver_keepsBounds _ r)

theorem State.ownSlot_keepsBounds (s : State) (copy : Option SlotRecord) (heard : Heard) :
    s.KeepsBounds (s.ownSlot copy heard) := by
  have hsignal : s.KeepsBounds { s with biu := s.biu.signalHeard } := ⟨id, id, id, id⟩
  unfold State.ownSlot
  split
  iterate 2
    split
    · exact s.deliver_keepsBounds _
    · exact s.enterDuplicate_keepsBounds _
  iterate 2 exact s.enterDuplicate_keepsBounds _
  iterate 2
    split
    · exact s.enterDuplicate_keepsBounds _
    · exact .refl s
  · split
    · exact (s.deliver_keepsBounds _).trans (State.enterDuplicate_keepsBounds _ _)
    · exact .refl s
  · split
    · exact s.enterDuplicate_keepsBounds _
    · exact .refl s
  · exact hsignal.trans (State.deliver_keepsBounds _ _)
  · exact hsignal
  · exact .refl s

theorem State.endSlot_keepsBounds (s : State) (line : Bits) : s.KeepsBounds (s.endSlot line) := by
  unfold State.endSlot
  split
  · split
    · dsimp only
      split
      · refine State.KeepsBounds.trans ?_ (State.ownSlot_keepsBounds _ _ _)
        exact ⟨id, id, id, id⟩
      · refine State.KeepsBounds.trans ?_ (State.peerSlot_keepsBounds _ _ _)
        exact ⟨id, id, id, id⟩
    · exact .refl s
  · exact .refl s

theorem State.startOwnSlot_keepsBounds (s : State) : s.KeepsBounds s.startOwnSlot := by
  unfold State.startOwnSlot
  dsimp only
  split
  · refine (s.testWithdrawals_keepsBounds.trans (State.takeMessage_keepsBounds _)).trans ?_
    exact ⟨id, id, id, id⟩
  · exact .refl s

theorem State.timerDrives_keepsBounds (s : State) : s.KeepsBounds s.timerDrives := by
  rcases s.timerDrives_cases with e | e <;> rw [e] <;> exact ⟨id, id, id, id⟩

theorem State.syncSeen_keepsBounds (s : State) : s.KeepsBounds s.syncSeen := by
  unfold State.syncSeen
  split <;> exact ⟨id, id, id, id⟩

theorem State.frameTimerExpires_keepsBounds (s : State) : s.KeepsBounds s.frameTimerExpires := by
  unfold State.frameTimerExpires
  split
  · split
    · exact ⟨id, id, id, id⟩
    · exact s.timerDrives_keepsBounds
  · exact .refl s

theorem State.searchSpanExpires_keepsBounds (s : State) : s.KeepsBounds s.searchSpanExpires := by
  unfold State.searchSpanExpires
  split
  · exact s.timerDrives_keepsBounds
  · exact .refl s

/-! ### The controller port (chapter 9) -/

/-- A request joins the queue only where there is room for it (R164, R166). -/
theorem State.submit_keepsBounds (s : State) (j : Job) : s.KeepsBounds (s.submit j).2 := by
  unfold State.submit
  split
  · exact .refl s
  · rename_i hpass
    have hroom : s.ctp.queue.length < Config.queueRoom := by
      by_contra hfull
      unfold State.jobRefusal at hpass
      rw [if_pos (Nat.not_lt.mp hfull)] at hpass
      repeat' split at hpass
      all_goals cases hpass
    have hjoined : s.KeepsBounds { s with ctp := { s.ctp with queue := s.ctp.queue ++ [j] } } :=
      ⟨fun h => ⟨by simpa using hroom, h.2⟩, id, id, id⟩
    exact hjoined.trans (State.sponsorEvent_keepsBounds _)

theorem State.cancelTaken_keepsBounds (s : State) (requestId : Nat) : s.KeepsBounds (s.cancelTaken requestId).2 := by
  have h := s.cancelRequest_keepsBounds requestId
  unfold State.cancelTaken
  split <;> rename_i e <;> rw [e] at h <;> exact h

theorem State.takeNotice_keepsBounds (s : State) : s.KeepsBounds s.takeNotice.2 := by
  unfold State.takeNotice
  split
  · exact .refl s
  · rename_i n rest hnotices
    refine ⟨?_, id, id, id⟩
    rintro ⟨hqueue, hroom, hfaults, hoverruns, hrepeats, hlost⟩
    rw [hnotices] at hroom hlost
    exact ⟨hqueue, Nat.le_of_succ_le hroom, hfaults, hoverruns, hrepeats, fun m hm => hlost m (.tail _ hm)⟩

theorem State.clearFaultOf_keepsBounds (s : State) (i : Nat) : s.KeepsBounds (s.clearFaultOf i).2 := by
  unfold State.clearFaultOf
  split
  · exact .refl s
  · refine s.onSwitch_keepsBounds i fun v hv => ?_
    unfold Switch.clearFault
    repeat' split
    all_goals exact hv

theorem State.clearEventSet_keepsBounds (s : State) (events : Word16) : s.KeepsBounds (s.clearEventSet events).2 := by
  unfold State.clearEventSet
  split
  · exact .refl s
  · refine ⟨fun h => h.onEvents fun e he => ?_, id, id, id⟩
    split
    · exact Nat.zero_le _
    · exact he

theorem State.saveWearTaken_keepsBounds (s : State) : s.KeepsBounds s.saveWearTaken.2 := by
  unfold State.saveWearTaken State.beginSave
  cases s.pld.save <;> exact ⟨id, id, id, id⟩

/-- Where LEAVE BUS sets the silence count it sets it to its bound (R53). -/
theorem State.leave_keepsBounds (s : State) : s.KeepsBounds s.leave.2 := by
  unfold State.leave
  split
  case h_2 => exact ⟨id, fun h => ⟨Nat.le_refl _, h.2⟩, id, id⟩
  all_goals exact ⟨id, id, id, id⟩

theorem State.join_keepsBounds (s : State) : s.KeepsBounds s.join.2 := by
  unfold State.join
  split
  · dsimp only
    split
    · exact ⟨id, Biu.Bounded.enterListen, id, id⟩
    · exact ⟨id, id, id, id⟩
  · refine State.KeepsBounds.trans ?_ (State.sponsorEvent_keepsBounds _)
    exact ⟨id, id, id, id⟩
  all_goals exact .refl s

/-- RESTART empties the queues, lowers the events and clears the counts it does not keep (R62, R174, R187). -/
theorem State.restarted_keepsBounds (s : State) : s.KeepsBounds s.restarted where
  port := by
    rintro ⟨_, _, hfaults, hoverruns, _, _⟩
    refine ⟨Nat.zero_le _, Nat.zero_le _, hfaults, hoverruns, fun e he => ?_, List.forall_mem_nil _⟩
    obtain ⟨x, _, rfl⟩ := List.mem_map.mp he
    exact Nat.zero_le _
  bus h := by
    obtain ⟨_, hclear, hpeers⟩ := h.onPeers (f := fun p => { Peer.blank p.node with checkFailures := p.checkFailures })
      fun _ hp => ⟨Nat.zero_le _, hp.2⟩
    exact ⟨Nat.zero_le _, hclear, hpeers⟩
  tallies := id
  bank h := h.map (f := Switch.restart s.sense) fun w hw => by
    unfold Switch.restart
    dsimp only
    split <;> exact hw

theorem State.carryOut_keepsBounds (s : State) (id : Nat) (body : RequestBody) : s.KeepsBounds (s.carryOut id body).2 := by
  cases body with
  | make | breakRoute | exchange | retrim => exact s.submit_keepsBounds _
  | cancel x => exact s.cancelTaken_keepsBounds x
  | takeNotice => exact s.takeNotice_keepsBounds
  | queryRoute | querySwitch | queryNode | wrongForm | unknownKind => exact ⟨fun h => h, fun h => h, fun h => h, fun h => h⟩
  | setNotifyMap lines => exact ⟨fun h => h.onEvents fun _ he => he, fun h => h, fun h => h, fun h => h⟩
  | clearFault i => exact s.clearFaultOf_keepsBounds i
  | clearEvents e => exact s.clearEventSet_keepsBounds e
  | saveWear => exact s.saveWearTaken_keepsBounds
  | leaveBus => exact s.leave_keepsBounds
  | joinBus => exact s.join_keepsBounds
  | restart => exact s.restarted_keepsBounds

theorem State.takeRequest_keepsBounds (s : State) (r : Request) : s.KeepsBounds (s.takeRequest r) := by
  have hanswer : s.KeepsBounds (s.answer r).2 := by
    unfold State.answer
    split
    · exact .refl s
    · exact s.carryOut_keepsBounds r.id r.body
  exact hanswer.trans ⟨id, id, id, id⟩

/-- An overrun is counted to the bound and no further (R161). -/
theorem State.offer_keepsBounds (s : State) (r : Request) : s.KeepsBounds (s.offer r) := by
  unfold State.offer
  split
  · exact s.takeRequest_keepsBounds r
  · exact ⟨id, id, id, id⟩
  · exact ⟨fun ⟨hqueue, hnotices, hfaults, _, hrest⟩ => ⟨hqueue, hnotices, hfaults, Nat.min_le_left _ _, hrest⟩, id, id, id⟩

theorem State.sensed_keepsBounds (s : State) (sense : SenseLevels) : s.KeepsBounds (s.sensed sense) := ⟨id, id, id, id⟩

theorem State.framingFault_keepsBounds (s : State) : s.KeepsBounds s.framingFault :=
  ⟨fun ⟨hqueue, hnotices, _, hrest⟩ => ⟨hqueue, hnotices, Nat.min_le_left _ _, hrest⟩, id, id, id⟩

theorem State.frameArrived_keepsBounds (s : State) (bytes : List Byte) : s.KeepsBounds (s.frameArrived bytes) := by
  unfold State.frameArrived
  split
  · exact s.offer_keepsBounds _
  · exact s.framingFault_keepsBounds

theorem State.sendComplete_keepsBounds (s : State) : s.KeepsBounds s.sendComplete := by
  have hfree : s.KeepsBounds { s with ctp := { s.ctp with sending := none, rxBuffer := none } } := ⟨id, id, id, id⟩
  unfold State.sendComplete
  split
  · exact .refl s
  · dsimp only
    split
    · exact hfree.trans (State.takeRequest_keepsBounds _ _)
    · exact hfree

/-! ### The load and the saves (R189 to R195) -/

theorem State.saveAccepted_keepsBounds (s : State) : s.KeepsBounds s.saveAccepted := by
  unfold State.saveAccepted
  repeat' split
  all_goals exact ⟨id, id, id, id⟩

theorem State.saveFailed_keepsBounds (s : State) (reached : Nat) : s.KeepsBounds (s.saveFailed reached) := by
  unfold State.saveFailed
  split <;> exact ⟨id, id, id, id⟩

theorem State.beginLoad_keepsBounds (s : State) (straps : Nat) (plan : List Byte) : s.KeepsBounds (s.beginLoad straps plan) := by
  unfold State.beginLoad
  split
  · dsimp only
    split <;> exact ⟨id, id, id, id⟩
  · exact .refl s

theorem State.rejectPlan_keepsBounds (s : State) : s.KeepsBounds s.rejectPlan := by
  unfold State.rejectPlan
  repeat' split
  all_goals exact ⟨id, id, id, id⟩

theorem State.wearLost_keepsBounds (s : State) : s.KeepsBounds s.wearLost := by
  refine State.KeepsBounds.trans ?_ (State.fire_keepsBounds _ _ _)
  exact ⟨id, id, id, id⟩

theorem State.notAnswered_keepsBounds (s : State) (access : MemoryAccess) : s.KeepsBounds (s.notAnswered access) := by
  cases access with
  | planRead =>
    unfold State.notAnswered
    dsimp only
    split <;> exact ⟨id, id, id, id⟩
  | wearRead =>
    unfold State.notAnswered
    dsimp only
    repeat' split
    · exact s.wearLost_keepsBounds
    all_goals exact .refl s
  | saveWrite reached => exact s.saveFailed_keepsBounds reached

/-- A count of four bytes is within the bound of a wear count (R20, R192). -/
theorem bytesValue_lt (bytes : List Byte) : bytesValue bytes < 256 ^ bytes.length := by
  induction bytes with
  | nil => exact Nat.one_pos
  | cons b bs ih =>
    have hfold : bytesValue (b :: bs) = (256 * 0 + b.toNat) * 256 ^ bs.length + bytesValue bs :=
      bytesValue_foldl bs (256 * 0 + b.toNat)
    have hb : b.toNat + 1 ≤ 256 := b.isLt
    have hlow : bytesValue (b :: bs) < (b.toNat + 1) * 256 ^ bs.length := by
      rw [hfold, Nat.mul_zero, Nat.zero_add, Nat.succ_mul]
      exact Nat.add_lt_add_left ih _
    calc bytesValue (b :: bs) < (b.toNat + 1) * 256 ^ bs.length := hlow
      _ ≤ 256 * 256 ^ bs.length := Nat.mul_le_mul_right _ hb
      _ = 256 ^ (b :: bs).length := by rw [List.length_cons, Nat.pow_succ, Nat.mul_comm]

theorem countsOf_le : ∀ (n : Nat) (bytes : List Byte), ∀ x ∈ countsOf n bytes, x ≤ Config.wearFull
  | 0, _, _, h => nomatch h
  | n + 1, bytes, x, h => by
    rcases List.mem_cons.mp h with rfl | h
    · have hpow : 256 ^ (bytes.take 4).length ≤ 256 ^ 4 :=
        Nat.pow_le_pow_right (by omega) (by rw [List.length_take]; omega)
      exact Nat.le_of_lt_succ ((bytesValue_lt _).trans_le hpow)
    · exact countsOf_le n _ x h

theorem readWear_le {mem : List Host.Cell} {counts : List Nat} (h : readWear mem = some counts) :
    ∀ x ∈ counts, x ≤ Config.wearFull := by
  unfold readWear at h
  split at h
  · split at h
    · cases h
      exact countsOf_le _ _
    · cases h
  · cases h

/-- A plan accepted: the wear counts are those of the wear area or 0, and the silence count begins at 0 (R192, R193). -/
theorem State.fill_keepsBounds {s : State} (p : RawPlan) {counts : Option (List Nat)} (sense : SenseLevels)
    (h : ∀ saved ∈ counts, ∀ x ∈ saved, x ≤ Config.wearFull) : s.KeepsBounds (s.fill p counts sense) := by
  have hstart : ∀ w : RawSwitch, (w.plan.start sense counts).wear ≤ Config.wearFull := by
    intro w
    show (match counts with | some saved => saved.getD w.plan.index 0 | none => 0) ≤ _
    split
    · rename_i saved
      rw [List.getD_eq_getElem?_getD]
      cases hx : saved[w.plan.index]? with
      | none => exact Nat.zero_le _
      | some x => exact h saved rfl x (List.mem_of_getElem? hx)
    · exact Nat.zero_le _
  unfold State.fill
  refine State.KeepsBounds.trans (State.KeepsBounds.trans ?_ (.foldl (fun u w => u.fire_keepsBounds .worn _) _ _))
    ⟨id, fun h => ⟨Nat.zero_le _, h.2⟩, id, id⟩
  refine ⟨id, id, id, fun _ w hw => ?_⟩
  obtain ⟨v, _, rfl⟩ := List.mem_map.mp hw
  exact hstart v

theorem State.judgeWear_keepsBounds (s : State) : s.KeepsBounds s.judgeWear.2 := by
  unfold State.judgeWear
  split
  · exact .refl s
  · split
    · exact ⟨id, id, id, id⟩
    · exact s.wearLost_keepsBounds

theorem State.judgeWear_le (s : State) : ∀ saved ∈ s.judgeWear.1, ∀ x ∈ saved, x ≤ Config.wearFull := by
  unfold State.judgeWear
  split
  · exact nofun
  · split
    · rename_i hread
      rintro saved ⟨⟩
      exact readWear_le hread
    · exact nofun

theorem State.acceptPlan_keepsBounds (s : State) (sense : SenseLevels) : s.KeepsBounds (s.acceptPlan sense) := by
  unfold State.acceptPlan
  split
  · split
    · exact s.judgeWear_keepsBounds.trans (State.fill_keepsBounds _ sense s.judgeWear_le)
    · exact .refl s
  · exact .refl s

theorem State.hardwareReset_keepsBounds (s : State) (reached : Nat) : s.KeepsBounds (s.hardwareReset reached) := by
  obtain ⟨hport, hbus, htallies, hbank⟩ := State.reset.countsLawful_iff.mp State.reset_countsLawful
  exact ⟨fun _ => hport, fun _ => hbus, fun _ => htallies, fun _ => hbank⟩

/-! ### Every command -/

theorem State.event_keepsBounds {s t : State} {act : State → State} (hact : ∀ u : State, u.KeepsBounds (act u))
    (e : s.event act = .next t) : s.KeepsBounds t := by
  cases e
  exact (s.caughtUp_keepsBounds.trans (hact _)).trans (State.complete_keepsBounds _)

theorem State.exec_keepsBounds {s t : State} (c : Instr) (e : exec c s = .next t) : s.KeepsBounds t := by
  cases c with
  | hardwareReset reached => cases e; exact s.hardwareReset_keepsBounds reached
  | resetRelease straps plan => exact State.event_keepsBounds (fun u => u.beginLoad_keepsBounds straps plan) e
  | memoryNoAnswer access => exact State.event_keepsBounds (fun u => u.notAnswered_keepsBounds access) e
  | planRefused => exact State.event_keepsBounds State.rejectPlan_keepsBounds e
  | planAccepted sense => exact State.event_keepsBounds (fun u => u.acceptPlan_keepsBounds sense) e
  | settleEnd | answerWindowExpiry | quietTimeout | lingerExpiry | backoffExpiry | takeUp | silenceCountComplete
  | clearCountComplete | peerAbsent =>
    cases e
    exact s.workNow_keepsBounds _
  | requestUnknownKind | make | breakRoute | exchange | retrim | cancel | takeNotice | queryNode | queryRoute | querySwitch
  | clearEvents | setNotifyMap | saveWear | leaveBus | joinBus =>
    exact State.event_keepsBounds (fun u => u.offer_keepsBounds _) e
  | clearFault | restart =>
    exact State.event_keepsBounds (fun u => (u.sensed_keepsBounds _).trans (State.offer_keepsBounds _ _)) e
  | frameReceived bytes sense =>
    exact State.event_keepsBounds (fun u => (u.sensed_keepsBounds sense).trans (State.frameArrived_keepsBounds _ bytes)) e
  | responseSendComplete sense =>
    exact State.event_keepsBounds (fun u => (u.sensed_keepsBounds sense).trans (State.sendComplete_keepsBounds _)) e
  | frameGapTimeout => exact State.event_keepsBounds State.framingFault_keepsBounds e
  | saveWearWriteAccepted => exact State.event_keepsBounds State.saveAccepted_keepsBounds e
  | saveWearWriteFailed reached => exact State.event_keepsBounds (fun u => u.saveFailed_keepsBounds reached) e
  | syncRecognised => exact State.event_keepsBounds State.syncSeen_keepsBounds e
  | frameTimerExpiry => exact State.event_keepsBounds State.frameTimerExpires_keepsBounds e
  | searchSpanExpiry => exact State.event_keepsBounds State.searchSpanExpires_keepsBounds e
  | ownSlotStart => exact State.event_keepsBounds State.startOwnSlot_keepsBounds e
  | slotEnd line => exact State.event_keepsBounds (fun u => u.endSlot_keepsBounds line) e
  | frameEnd sense => exact State.event_keepsBounds (fun u => u.frameEnds_keepsBounds sense) e
  | detectorSample input level => exact State.event_keepsBounds (fun u => u.sampleTaken_keepsBounds input level) e
  | readyPulseExpiry line =>
    exact State.event_keepsBounds (act := fun u => { u with rfg := u.rfg.pulseExpiry line }) (fun _ => ⟨id, id, id, id⟩) e

/-! ### The flags -/

/-- A row that finds no work owed leaves the flags, and work done is an event of its own (R167, R180, R184). -/
theorem State.workNow_flagsLawful {s : State} (h : s.flagsLawful) (w : Work) : (s.workNow w).flagsLawful := by
  unfold State.workNow
  split
  · exact State.complete_flagsLawful _
  · exact h

/-- A command ends an event, resets the node, or asks for work of a frame end. -/
theorem State.exec_flagsLawful {s t : State} (h : s.flagsLawful) (c : Instr) (e : exec c s = .next t) : t.flagsLawful := by
  cases c <;> cases e
  case hardwareReset => exact State.reset_flagsLawful
  case settleEnd | answerWindowExpiry | quietTimeout | lingerExpiry | backoffExpiry | takeUp | silenceCountComplete
    | clearCountComplete | peerAbsent => exact State.workNow_flagsLawful h _
  all_goals exact State.complete_flagsLawful _

/-- A property of the node that no queue of commands bears on, and every command keeps, is kept by every step. -/
theorem step_keeps {P : State → Prop} (hqueue : ∀ s rest, P s → P (s.queued rest))
    (hexec : ∀ (c : Instr) (s t : State), P s → exec c s = .next t → P t) {s t : State} (h : P s) (e : step s = .next t) : P t := by
  unfold step at e
  split at e
  · cases e
    exact h
  · exact hexec _ _ t (hqueue s _ h) e

/-- Settles O57: the flags are judged afresh at the end of every event (`State.complete_flagsLawful`), and every operation keeps each
block's queues and counts within their bounds (`State.KeepsBounds`). -/
theorem flagsAndCountsKept : Obligations.FlagsAndCountsKept :=
  ⟨fun _ _ => step_keeps (P := State.flagsLawful) (fun _ _ h => h) fun c _ _ h => State.exec_flagsLawful h c,
    fun _ _ => step_keeps (P := State.countsLawful) (fun _ _ h => h) fun c _ _ h e => (State.exec_keepsBounds c e).counts h⟩

end Sys2Proof.Machine
end

section
/-! SUPPORT. The request rows: what a frame offered to the port does, the tests of R163, and a request taken whole (R161, R163). -/

namespace Sys2Proof.Machine

/-! ### A frame offered to the port (R161) -/

/-- A request row offers its request to the port. -/
theorem exec_request {c : Instr} {r : Request} (hc : requestOf? c = some r) (s : State) :
    exec c s = .next ((s.before c).offer r).complete := by
  cases c <;> cases hc <;> rfl

theorem State.offer_free {s : State} (hs : s.ctp.sending = none) (r : Request) : s.offer r = s.takeRequest r := by
  unfold State.offer
  rw [hs]

theorem State.offer_held {s : State} (hs : s.ctp.sending ≠ none) (hb : s.ctp.rxBuffer = none) (r : Request) :
    s.offer r = { s with ctp := { s.ctp with rxBuffer := some r } } := by
  obtain ⟨out, hout⟩ := Option.ne_none_iff_exists'.mp hs
  unfold State.offer
  rw [hout, hb]

theorem State.offer_overrun {s : State} (hs : s.ctp.sending ≠ none) (hb : s.ctp.rxBuffer ≠ none) (r : Request) :
    s.offer r = { s with ctp := { s.ctp with overruns := min 65535 (s.ctp.overruns + 1) } } := by
  obtain ⟨out, hout⟩ := Option.ne_none_iff_exists'.mp hs
  obtain ⟨held, hheld⟩ := Option.ne_none_iff_exists'.mp hb
  unfold State.offer
  rw [hout, hheld]
  rfl

/-- A request that fails a test of R163 changes nothing but the response. -/
theorem State.takeRequest_refused {s : State} {r : Request} {why : RefusalReason} (hr : s.requestRefusal r.body = some why) :
    s.takeRequest r = s.answered r (.refused why) := by
  unfold State.takeRequest State.answer
  rw [hr]
  rfl

theorem exec_refused {c : Instr} {r : Request} {s : State} {why : RefusalReason} (hc : requestOf? c = some r)
    (hs : (s.before c).ctp.sending = none) (hr : (s.before c).requestRefusal r.body = some why) :
    exec c s = .next ((s.before c).answered r (.refused why)).complete := by
  rw [exec_request hc, State.offer_free hs, State.takeRequest_refused hr]

/-! ### The tests of R163 -/

theorem BusState.planless_iff (b : BusState) : b.planless = true ↔ b = .loading ∨ b = .planFault := by
  cases b <;> decide

/-- The tests on a kind the port has. -/
theorem State.requestRefusal_known (s : State) {body : RequestBody} (h : ∀ k, body ≠ .unknownKind k) :
    s.requestRefusal body =
      if s.biu.busState.planless && body.kind != 9 then some .noPlan else if !body.formOk then some .badRequest else none := by
  cases body with
  | unknownKind k => exact absurd rfl (h k)
  | _ => rfl

theorem State.requestRefusal_noPlan {s : State} {body : RequestBody} (h : ∀ k, body ≠ .unknownKind k)
    (hb : s.biu.busState = .loading ∨ s.biu.busState = .planFault) (hk : body.kind ≠ 9) :
    s.requestRefusal body = some .noPlan := by
  rw [s.requestRefusal_known h, if_pos (by simp [s.biu.busState.planless_iff.mpr hb, hk])]

theorem State.requestRefusal_badForm {s : State} {body : RequestBody} (h : ∀ k, body ≠ .unknownKind k)
    (hb : ¬((s.biu.busState = .loading ∨ s.biu.busState = .planFault) ∧ body.kind ≠ 9)) (hf : body.formOk = false) :
    s.requestRefusal body = some .badRequest := by
  have hplan : ¬((s.biu.busState.planless && body.kind != 9) = true) := fun hp => by
    obtain ⟨hp, hk⟩ := Bool.and_eq_true_iff.mp hp
    exact hb ⟨s.biu.busState.planless_iff.mp hp, by simpa using hk⟩
  rw [s.requestRefusal_known h, if_neg hplan, hf]
  rfl

theorem State.requestRefusal_none {s : State} {body : RequestBody} (h : ∀ k, body ≠ .unknownKind k)
    (hb : s.biu.busState.planless = false) (hf : body.formOk = true) : s.requestRefusal body = none := by
  rw [s.requestRefusal_known h, hb, hf]
  rfl

/-- A request row of a node with a plan, at a free port, in the right form: taken by the rule of its kind. -/
theorem exec_taken {c : Instr} {r : Request} {s t : State} {result : ResponseResult} (hc : requestOf? c = some r)
    (hs : (s.before c).ctp.sending = none) (hr : (s.before c).requestRefusal r.body = none)
    (h : (s.before c).carryOut r.id r.body = (result, t)) : exec c s = .next (t.answered r result).complete := by
  rw [exec_request hc, State.offer_taken hs hr, h]

/-- No row spells a body of wrong form. -/
theorem requestOf_wrongForm {c : Instr} {r : Request} (hc : requestOf? c = some r) (k : Nat) : r.body ≠ .wrongForm k := by
  cases c <;> cases hc <;> exact nofun

theorem RequestBody.kind_eq_queryNode {body : RequestBody} (hk : body.kind = 9) (h : ∀ k, body ≠ .unknownKind k)
    (hw : ∀ k, body ≠ .wrongForm k) : body = .queryNode := by
  cases body with
  | unknownKind k => exact absurd rfl (h k)
  | wrongForm k => exact absurd rfl (hw k)
  | queryNode => rfl
  | _ => cases hk

theorem RequestBody.formOk_clearEvents (e : Word16) :
    (RequestBody.clearEvents e).formOk = false ↔ e.toNat % 1024 = 0 ∨ 1024 ≤ e.toNat := by
  simp [RequestBody.formOk]
  omega

theorem RequestBody.formOk_setNotifyMap (lines : List Byte) :
    (RequestBody.setNotifyMap lines).formOk = false ↔ lines.length ≠ 10 ∨ ∃ b ∈ lines, 2 < b.toNat := by
  simp [RequestBody.formOk]
  grind

/-- Settles O10: the tests of `State.requestRefusal` in their order, and the two kinds whose fields have codes. -/
theorem requestTestsInOrder : Obligations.RequestTestsInOrder := by
  refine ⟨fun c r s u hc hu hs => ?_, fun c r hc hknown => ?_⟩
  · subst hu
    have hrefused {why : RefusalReason} (h : (s.before c).requestRefusal r.body = some why) := exec_refused hc hs h
    have hquery (hknown : ∀ k, r.body ≠ .unknownKind k) (hk : r.body.kind = 9) : r.body = .queryNode :=
      RequestBody.kind_eq_queryNode hk hknown (requestOf_wrongForm hc)
    refine ⟨fun k hk => hrefused (by rw [hk]; rfl), fun hknown hb hq => ?_, fun hknown hb hf => ?_⟩
    · exact hrefused (State.requestRefusal_noPlan hknown hb fun hk => hq (hquery hknown hk))
    · refine hrefused (State.requestRefusal_badForm hknown (fun h => hb ⟨h.1, fun hq => h.2 ?_⟩) hf)
      rw [hq]
      rfl
  · cases hbody : r.body with
    | unknownKind k => exact absurd hbody (hknown k)
    | wrongForm k => exact absurd hbody (requestOf_wrongForm hc k)
    | clearEvents e => simp [RequestBody.formOk_clearEvents]
    | setNotifyMap lines => simp [RequestBody.formOk_setNotifyMap]
    | _ => simp [RequestBody.formOk]

/-! ### While a response is out (R161) -/

/-- The send wire free with a frame held: the frame is taken as if it had just come. -/
theorem State.sendComplete_held {s : State} (hs : s.ctp.sending ≠ none) {r : Request} (hb : s.ctp.rxBuffer = some r) :
    s.sendComplete = ({ s with ctp := { s.ctp with sending := none, rxBuffer := none } } : State).takeRequest r := by
  obtain ⟨out, hout⟩ := Option.ne_none_iff_exists'.mp hs
  unfold State.sendComplete
  rw [hout, hb]

theorem State.sendComplete_empty {s : State} (hs : s.ctp.sending ≠ none) (hb : s.ctp.rxBuffer = none) :
    s.sendComplete = { s with ctp := { s.ctp with sending := none } } := by
  obtain ⟨out, hout⟩ := Option.ne_none_iff_exists'.mp hs
  simp only [State.sendComplete, hout, hb]

theorem State.sendComplete_idle {s : State} (hs : s.ctp.sending = none) : s.sendComplete = s := by
  unfold State.sendComplete
  rw [hs]

theorem exec_responseSendComplete (sense : SenseLevels) (s : State) :
    exec (.responseSendComplete sense) s = .next (s.before (.responseSendComplete sense)).sendComplete.complete := rfl

/-- Settles O11: a frame offered while a response is out, and the frame held when the send wire comes free. -/
theorem portHoldsOneFrame : Obligations.PortHoldsOneFrame := by
  refine ⟨fun c r s u hc hu hs => ⟨fun hb => ?_, fun hb => ?_⟩, fun sense s u hu => ?_⟩
  · rw [exec_request hc, ← hu, State.offer_held hs hb]
  · rw [exec_request hc, ← hu, State.offer_overrun hs hb]
  · have hexec := exec_responseSendComplete sense s
    rw [← hu] at hexec
    refine ⟨fun hs hb => ?_, fun hs c r v hc hb hv hbefore => ?_, fun hs r k hb hk => ?_, fun hs => ?_⟩
    · rw [hexec, State.sendComplete_empty hs hb]
    · refine ⟨_, hexec, ?_⟩
      have hfree : v.ctp.sending = none := by rw [hv]
      rw [exec_request hc, hbefore, State.offer_free hfree, State.sendComplete_held hs hb, hv]
    · intro refused planless
      have hknown (n : Nat) : r.body ≠ .unknownKind n := by rw [hk]; exact nofun
      have hkind : r.body.kind = k := by rw [hk]; rfl
      have hrefused {why : RefusalReason} (h : ({ u with ctp := { u.ctp with sending := none, rxBuffer := none } } :
          State).requestRefusal r.body = some why) : refused why := by
        show exec _ _ = _
        rw [hexec, State.sendComplete_held hs hb, State.takeRequest_refused h]
        rfl
      refine ⟨fun hp h9 => hrefused (State.requestRefusal_noPlan hknown hp (hkind ▸ h9)), fun h =>
        hrefused (State.requestRefusal_badForm hknown (fun hboth => ?_) (by rw [hk]; rfl))⟩
      exact h.elim (fun hp => hp hboth.1) fun h9 => hboth.2 (hkind.trans h9)
    · rw [hexec, State.sendComplete_idle hs]

end Sys2Proof.Machine
end

section
/-! SUPPORT. The request frame: a body read back from its bytes, and a frame judged by its length and check (R160, R198, R200). -/

namespace Sys2Proof.Machine

/-! ### Two bytes and the options -/

theorem pair_lt (hi lo : Byte) : pair hi lo < 65536 := by
  unfold pair
  have := hi.isLt
  have := lo.isLt
  omega

theorem bytesOf_pair (hi lo : Byte) : bytesOf 2 (pair hi lo) = [hi, lo] := by
  rw [bytesOf_two]
  unfold pair
  have hlo := lo.isLt
  congr 2
  · apply BitVec.eq_of_toNat_eq
    rw [BitVec.toNat_ofNat]
    have := hi.isLt
    omega
  · apply BitVec.eq_of_toNat_eq
    rw [BitVec.toNat_ofNat]
    omega

theorem bytesOf_byte (b : Byte) : bytesOf 1 b.toNat = [b] := by
  rw [bytesOf_one, BitVec.ofNat_toNat, BitVec.setWidth_eq]

theorem toNat_byte {n : Nat} (h : n < 256) : (BitVec.ofNat 8 n).toNat = n := by
  rw [BitVec.toNat_ofNat, Nat.mod_eq_of_lt h]

/-- Options, target and frequency read back (R200). -/
theorem readOptions_optionBytes {t f : Option Nat} (ht : fitsOption16 t = true) (hf : fitsOption16 f = true) :
    readOptions (optionBytes t f) = some (t, f) := by
  cases t <;> cases f <;>
    simp_all [optionBytes, readOptions, bytesOf_two, fitsOption16, fits16, pair_bytes]

/-- Options read are those that spell the bytes (R200). -/
theorem readOptions_spells {bytes : List Byte} {t f : Option Nat} (h : readOptions bytes = some (t, f)) :
    optionBytes t f = bytes ∧ fitsOption16 t = true ∧ fitsOption16 f = true := by
  unfold readOptions at h
  split at h
  · rename_i o rest
    have ho : o = BitVec.ofNat 8 o.toNat := by rw [BitVec.ofNat_toNat, BitVec.setWidth_eq]
    split at h <;> cases h <;> rename_i hcode <;> rw [ho, hcode] <;>
      simp [optionBytes, bytesOf_pair, fitsOption16, fits16, pair_lt]
  · cases h

/-! ### The body -/

theorem RequestBody.decode_make (rh rl : Byte) (rest : List Byte) : RequestBody.decode 1 (rh :: rl :: rest) =
    (readOptions rest).elim (.wrongForm 1) fun o => .make (pair rh rl) o.1 o.2 := by
  show (match readOptions rest with | some (t, f) => _ | none => _) = _
  cases readOptions rest <;> rfl

theorem RequestBody.decode_exchange (bh bl mh ml : Byte) (rest : List Byte) : RequestBody.decode 3 (bh :: bl :: mh :: ml :: rest) =
    (readOptions rest).elim (.wrongForm 3) fun o => .exchange (pair bh bl) (pair mh ml) o.1 o.2 := by
  show (match readOptions rest with | some (t, f) => _ | none => _) = _
  cases readOptions rest <;> rfl

theorem RequestBody.decode_retrim (rh rl : Byte) (rest : List Byte) : RequestBody.decode 4 (rh :: rl :: rest) =
    (readOptions rest).elim (.wrongForm 4) fun o => .retrim (pair rh rl) o.1 o.2 := by
  show (match readOptions rest with | some (t, f) => _ | none => _) = _
  cases readOptions rest <;> rfl

/-- A body within its fields is read back from its bytes. -/
theorem RequestBody.decode_bytes {b : RequestBody} (h : b.fits = true) : RequestBody.decode b.kind b.bytes = b := by
  have hpair {n : Nat} (hn : fits16 n = true) := pair_bytes n (of_decide_eq_true hn)
  cases b with
  | make r t f =>
    simp only [RequestBody.fits, Bool.and_eq_true] at h
    obtain ⟨⟨hr, ht⟩, hf⟩ := h
    show RequestBody.decode 1 (bytesOf 2 r ++ optionBytes t f) = _
    simp only [bytesOf_two, List.cons_append, List.nil_append]
    rw [RequestBody.decode_make, readOptions_optionBytes ht hf, hpair hr]
    rfl
  | exchange b m t f =>
    simp only [RequestBody.fits, Bool.and_eq_true] at h
    obtain ⟨⟨⟨hb, hm⟩, ht⟩, hf⟩ := h
    show RequestBody.decode 3 (bytesOf 2 b ++ bytesOf 2 m ++ optionBytes t f) = _
    simp only [bytesOf_two, List.cons_append, List.nil_append]
    rw [RequestBody.decode_exchange, readOptions_optionBytes ht hf, hpair hb, hpair hm]
    rfl
  | retrim r t f =>
    simp only [RequestBody.fits, Bool.and_eq_true] at h
    obtain ⟨⟨hr, ht⟩, hf⟩ := h
    show RequestBody.decode 4 (bytesOf 2 r ++ optionBytes t f) = _
    simp only [bytesOf_two, List.cons_append, List.nil_append]
    rw [RequestBody.decode_retrim, readOptions_optionBytes ht hf, hpair hr]
    rfl
  | breakRoute n => exact (congrArg (RequestBody.decode 2) (bytesOf_two n)).trans (congrArg RequestBody.breakRoute (hpair h))
  | cancel n => exact (congrArg (RequestBody.decode 5) (bytesOf_two n)).trans (congrArg RequestBody.cancel (hpair h))
  | queryRoute n => exact (congrArg (RequestBody.decode 7) (bytesOf_two n)).trans (congrArg RequestBody.queryRoute (hpair h))
  | querySwitch i =>
    exact (congrArg (RequestBody.decode 8) (bytesOf_one i)).trans
      (congrArg RequestBody.querySwitch (toNat_byte (of_decide_eq_true h)))
  | clearFault i =>
    exact (congrArg (RequestBody.decode 10) (bytesOf_one i)).trans
      (congrArg RequestBody.clearFault (toNat_byte (of_decide_eq_true h)))
  | clearEvents e =>
    refine (congrArg (RequestBody.decode 11) (bytesOf_two e.toNat)).trans (congrArg RequestBody.clearEvents ?_)
    rw [pair_bytes e.toNat e.isLt, BitVec.ofNat_toNat, BitVec.setWidth_eq]
  | setNotifyMap lines =>
    match lines, eq_of_beq h with
    | [_, _, _, _, _, _, _, _, _, _], _ => rfl
  | wrongForm k | unknownKind k => cases h
  | _ => rfl

/-- What a body of a kind the port has may be read as: a request that spells these bytes, or a body of wrong form (R163, R200). -/
def RequestBody.readsAs (b : RequestBody) (kind : Nat) (body : List Byte) : Prop :=
  b = .wrongForm kind ∨ (b.fits = true ∧ b.kind = kind ∧ b.bytes = body)

theorem fits16_pair (hi lo : Byte) : fits16 (pair hi lo) = true := decide_eq_true (pair_lt hi lo)

/-- A body that ends in options: they are read as they spell, or it is of wrong form. -/
theorem RequestBody.readsAs_options {kind : Nat} {head rest : List Byte} {act : Option Nat × Option Nat → RequestBody}
    (hact : ∀ o, fitsOption16 o.1 = true → fitsOption16 o.2 = true →
      (act o).fits = true ∧ (act o).kind = kind ∧ (act o).bytes = head ++ optionBytes o.1 o.2) :
    ((readOptions rest).elim (.wrongForm kind) act).readsAs kind (head ++ rest) := by
  cases hread : readOptions rest with
  | none => exact .inl rfl
  | some o =>
    obtain ⟨hbytes, ht, hf⟩ := readOptions_spells (t := o.1) (f := o.2) hread
    exact .inr (hbytes ▸ hact o ht hf)

theorem RequestBody.decode_readsAs {kind : Nat} (hk : 1 ≤ kind ∧ kind ≤ 16) (body : List Byte) :
    (RequestBody.decode kind body).readsAs kind body := by
  match kind, hk with
  | 1, _ =>
    match body with
    | [] | [_] => exact .inl rfl
    | rh :: rl :: rest =>
      rw [RequestBody.decode_make]
      exact RequestBody.readsAs_options (head := [rh, rl]) fun o ht hf =>
        ⟨by simp [RequestBody.fits, fits16_pair, ht, hf], rfl, by simp [RequestBody.bytes, bytesOf_pair]⟩
  | 3, _ =>
    match body with
    | [] | [_] | [_, _] | [_, _, _] => exact .inl rfl
    | bh :: bl :: mh :: ml :: rest =>
      rw [RequestBody.decode_exchange]
      exact RequestBody.readsAs_options (head := [bh, bl, mh, ml]) fun o ht hf =>
        ⟨by simp [RequestBody.fits, fits16_pair, ht, hf], rfl, by simp [RequestBody.bytes, bytesOf_pair]⟩
  | 4, _ =>
    match body with
    | [] | [_] => exact .inl rfl
    | rh :: rl :: rest =>
      rw [RequestBody.decode_retrim]
      exact RequestBody.readsAs_options (head := [rh, rl]) fun o ht hf =>
        ⟨by simp [RequestBody.fits, fits16_pair, ht, hf], rfl, by simp [RequestBody.bytes, bytesOf_pair]⟩
  | 2, _ | 5, _ | 7, _ =>
    match body with
    | [] | [_] | _ :: _ :: _ :: _ => exact .inl rfl
    | [hi, lo] => exact .inr ⟨fits16_pair hi lo, rfl, bytesOf_pair hi lo⟩
  | 11, _ =>
    match body with
    | [] | [_] | _ :: _ :: _ :: _ => exact .inl rfl
    | [hi, lo] =>
      refine .inr ⟨rfl, rfl, ?_⟩
      show bytesOf 2 (BitVec.ofNat 16 (pair hi lo)).toNat = _
      rw [BitVec.toNat_ofNat, Nat.mod_eq_of_lt (pair_lt hi lo), bytesOf_pair]
  | 8, _ | 10, _ =>
    match body with
    | [] | _ :: _ :: _ => exact .inl rfl
    | [b] => exact .inr ⟨decide_eq_true b.isLt, rfl, bytesOf_byte b⟩
  | 12, _ =>
    match body with
    | [_, _, _, _, _, _, _, _, _, _] => exact .inr ⟨rfl, rfl, rfl⟩
    | [] | [_] | [_, _] | [_, _, _] | [_, _, _, _] | [_, _, _, _, _] | [_, _, _, _, _, _] | [_, _, _, _, _, _, _]
    | [_, _, _, _, _, _, _, _] | [_, _, _, _, _, _, _, _, _] | _ :: _ :: _ :: _ :: _ :: _ :: _ :: _ :: _ :: _ :: _ :: _ =>
      exact .inl rfl
  | 6, _ | 9, _ | 13, _ | 14, _ | 15, _ | 16, _ =>
    match body with
    | [] => exact .inr ⟨rfl, rfl, rfl⟩
    | _ :: _ => exact .inl rfl
  | n + 17, h => exact absurd h.2 (by omega)

theorem RequestBody.decode_unknownKind {kind : Nat} (hk : kind = 0 ∨ 16 < kind) (body : List Byte) :
    RequestBody.decode kind body = .unknownKind kind := by
  rcases hk with rfl | hk
  · rfl
  · obtain ⟨n, rfl⟩ := Nat.exists_eq_add_of_lt hk
    rw [show 16 + n + 1 = n + 17 by omega]
    exact if_neg (t := RequestBody.wrongForm (n + 17)) (by omega : ¬(1 ≤ n + 17 ∧ n + 17 ≤ 16))

/-! ### The frame -/

/-- A frame whose length and check agree is good whatever its kind and body (R160). -/
theorem Request.ofFrame_checked {id kind : Nat} {body : List Byte} (hid : id < 65536) (hkind : kind < 256)
    (hbody : body.length ≤ 10) :
    Request.ofFrame (bytesOf 2 (5 + body.length) ++ bytesOf 2 id ++ bytesOf 1 kind ++ body ++
        bytesOf 2 (crcBytes (bytesOf 2 (5 + body.length) ++ bytesOf 2 id ++ bytesOf 1 kind ++ body)).toNat) =
      some { id := id, body := RequestBody.decode kind body } := by
  have hcheck (check : Word16) : bytesValue (bytesOf 2 check.toNat) = check.toNat := by
    rw [bytesValue_bytesOf]
    exact Nat.mod_eq_of_lt check.isLt
  have hlength := pair_bytes (5 + body.length) (by omega)
  have hin : 5 ≤ 5 + body.length ∧ 5 + body.length ≤ 15 := by omega
  simp only [bytesOf_two (5 + body.length), bytesOf_two id, bytesOf_one kind, List.cons_append, List.nil_append, Request.ofFrame,
    hlength, pair_bytes id hid, toNat_byte hkind]
  rw [if_pos ⟨hin.1, hin.2, by simp; omega⟩]
  simp [hcheck]

theorem RequestBody.kind_lt {b : RequestBody} (h : b.fits = true) : b.kind < 256 := by
  cases b with
  | wrongForm k | unknownKind k => cases h
  | _ => exact Nat.le_of_ble_eq_true rfl

theorem optionBytes_length (t f : Option Nat) : (optionBytes t f).length ≤ 5 := by
  cases t <;> cases f <;> simp [optionBytes]

theorem RequestBody.bytes_length {b : RequestBody} (h : b.fits = true) : b.bytes.length ≤ 10 := by
  cases b with
  | make r t f | retrim r t f | exchange b m t f =>
    have := optionBytes_length t f
    simp [RequestBody.bytes]
    omega
  | setNotifyMap lines => exact (by simpa [RequestBody.fits] using h : lines.length = 10).le
  | _ => simp [RequestBody.bytes]

/-- Settles O60: the frame is good, and its body is read back from its bytes. -/
theorem requestFrameRoundTrip : Obligations.RequestFrameRoundTrip := by
  intro r hid hfits
  have hframe := Request.ofFrame_checked (body := r.body.bytes) hid (RequestBody.kind_lt hfits) (RequestBody.bytes_length hfits)
  rw [RequestBody.decode_bytes hfits] at hframe
  exact hframe

theorem Request.ofFrame_bad {hi lo : Byte} {rest : List Byte} (h : rest.length ≠ hi.toNat * 256 + lo.toNat ∨ rest.length < 5 ∨
    15 < rest.length ∨
    bytesValue (rest.drop (rest.length - 2)) ≠ (crcBytes (hi :: lo :: rest.take (rest.length - 2))).toNat) :
    Request.ofFrame (hi :: lo :: rest) = none := by
  unfold Request.ofFrame
  dsimp only
  split
  · rename_i hlength
    obtain ⟨hmin, hmax, hlen⟩ := hlength
    have hcheck : bytesValue (rest.drop (rest.length - 2)) ≠ (crcBytes (hi :: lo :: rest.take (rest.length - 2))).toNat := by
      refine (h.resolve_left fun hne => hne hlen).resolve_left ?_ |>.resolve_left ?_ <;> omega
    match rest with
    | ih :: il :: k :: bodyAndCheck =>
      have htwo : (ih :: il :: k :: bodyAndCheck).length - 2 = pair hi lo - 5 + 3 := by omega
      rw [htwo] at hcheck
      exact if_neg hcheck
    | [] | [_] | [_, _] => rfl
  · rfl

theorem exec_frameReceived (bytes : List Byte) (sense : SenseLevels) (s : State) :
    exec (.frameReceived bytes sense) s = .next ((s.before (.frameReceived bytes sense)).frameArrived bytes).complete := rfl

theorem State.frameArrived_good {bytes : List Byte} {r : Request} (h : Request.ofFrame bytes = some r) (s : State) :
    s.frameArrived bytes = s.offer r := by
  unfold State.frameArrived
  rw [h]

theorem State.frameArrived_fault {bytes : List Byte} (h : Request.ofFrame bytes = none) (s : State) :
    s.frameArrived bytes =
      { s with ctp := { s.ctp with framingFaults := min 65535 (s.ctp.framingFaults + 1) } } := by
  unfold State.frameArrived
  rw [h]
  rfl

/-- Settles O12: a good frame is offered to the port as its request, and any other is counted. -/
theorem frameReceivedJudged : Obligations.FrameReceivedJudged := by
  refine ⟨fun c r sense s u hc hid hfits hu hbefore => ?_, fun id kind body hid hkind hbody => ?_,
    fun bytes r sense s u hframe hu => ?_, fun bytes sense s u hframe hu => ?_, fun hi lo rest => Request.ofFrame_bad,
    fun s u hu => hu ▸ rfl⟩
  · refine ⟨_, exec_frameReceived _ sense s, ?_⟩
    rw [← hu, exec_request hc, hbefore, State.frameArrived_good (requestFrameRoundTrip r hid hfits)]
  · refine ⟨RequestBody.decode kind body, Request.ofFrame_checked hid hkind hbody,
      fun hk => RequestBody.decode_unknownKind hk body, ?_, fun hk hnone => ?_⟩
    · rintro - b hfits rfl rfl
      exact RequestBody.decode_bytes hfits
    · refine (RequestBody.decode_readsAs hk body).resolve_right ?_
      rintro ⟨hfits, hk, hbytes⟩
      exact hnone _ hfits hk hbytes
  · have hexec := exec_frameReceived bytes sense s
    rw [← hu, State.frameArrived_good hframe] at hexec
    intro planless answer
    have hanswer {why : RefusalReason} (hs : u.ctp.sending = none) (h : u.requestRefusal r.body = some why) : answer why := by
      show exec _ _ = _
      rw [hexec, State.offer_free hs, State.takeRequest_refused h]
    have hknown {k : Nat} (hk : r.body = .wrongForm k) (n : Nat) : r.body ≠ .unknownKind n := by rw [hk]; exact nofun
    have hkind {k : Nat} (hk : r.body = .wrongForm k) : r.body.kind = k := by rw [hk]; rfl
    refine ⟨fun k hk hs => hanswer hs (by rw [hk]; rfl), fun k hk hs hp h9 => ?_, fun k hk hs h => ?_, fun hs hb => ?_,
      fun hs hb => ?_⟩
    · exact hanswer hs (State.requestRefusal_noPlan (hknown hk) hp (hkind hk ▸ h9))
    · refine hanswer hs (State.requestRefusal_badForm (hknown hk) (fun hboth => ?_) (by rw [hk]; rfl))
      exact h.elim (fun hp => hp hboth.1) fun h9 => hboth.2 ((hkind hk).trans h9)
    · rw [hexec, State.offer_held hs hb]
    · rw [hexec, State.offer_overrun hs hb]
  · rw [exec_frameReceived, ← hu, State.frameArrived_fault hframe]

end Sys2Proof.Machine
end

section
/-! SUPPORT. The changeover-bearing requests: the tests of R164 in their order, and the checks of R131 by kind. -/

namespace Sys2Proof.Machine

/-! ### The tests of R164 -/

/-- The values of a changeover-bearing request are in range, and of its kind (R164 step 3). -/
def State.valuesOk (s : State) (j : Job) : Prop :=
  j.id ≠ 0 ∧ (∀ x ∈ j.target, x ≤ 25000) ∧ (∀ x ∈ j.frequency, 400 ≤ x ∧ x ≤ 44000) ∧
    (j.target ≠ none → ∃ x, s.route? j.makeRoute = some x ∧ x.plan.trimNode ≠ none) ∧ j.second ≠ some j.route

theorem State.trimNamed_iff (s : State) (j : Job) :
    s.trimNamed j = true ↔ ∃ x, s.route? j.makeRoute = some x ∧ x.plan.trimNode ≠ none := by
  unfold State.trimNamed
  cases s.route? j.makeRoute <;> simp [Option.isSome_iff_ne_none]

theorem State.valuesOk_iff (s : State) (j : Job) : s.valuesOk j ↔ s.badValue j = false := by
  unfold State.valuesOk State.badValue
  rw [← s.trimNamed_iff]
  simp only [Bool.or_eq_false_iff, beq_eq_false_iff_ne, and_assoc]
  refine and_congr_right' (and_congr ?_ (and_congr ?_ (and_congr_left' ?_)))
  · cases j.target <;> simp
  · cases j.frequency <;> simp [within]
  · cases j.target <;> simp

theorem State.routesKnown_iff (s : State) (j : Job) :
    (∀ x ∈ j.routes, (s.route? x).isSome = true) ↔ ¬(j.routes.any (fun r => (s.route? r).isNone) = true) := by
  simp [Option.isSome_iff_ne_none]

theorem State.jobRefusal_offBus {s : State} {j : Job} (hb : s.biu.busState ≠ .onBus) : s.jobRefusal j = some .offBus := by
  unfold State.jobRefusal
  rw [if_pos hb]

section
variable {s : State} {j : Job} (hb : s.biu.busState = .onBus)
include hb

theorem State.jobRefusal_unknownRoute (hk : ¬∀ x ∈ j.routes, (s.route? x).isSome = true) :
    s.jobRefusal j = some .unknownRoute := by
  unfold State.jobRefusal
  rw [if_neg (not_not_intro hb), if_pos (not_not.mp (mt (s.routesKnown_iff j).mpr hk))]

variable (hk : ∀ x ∈ j.routes, (s.route? x).isSome = true)
include hk

theorem State.jobRefusal_badValue (hv : ¬s.valuesOk j) : s.jobRefusal j = some .badValue := by
  unfold State.jobRefusal
  rw [if_neg (not_not_intro hb), if_neg ((s.routesKnown_iff j).mp hk),
    if_pos (Bool.eq_true_of_not_eq_false (mt (s.valuesOk_iff j).mpr hv))]

variable (hv : s.valuesOk j)
include hv

/-- Behind the first three tests the checks of R131 and the queue's room are left. -/
theorem State.jobRefusal_eq : s.jobRefusal j = (s.recheck j).elim
    (if Config.queueRoom ≤ s.ctp.queue.length then some .queueFull else none) fun why => some why.refusal := by
  unfold State.jobRefusal
  rw [if_neg (not_not_intro hb), if_neg ((s.routesKnown_iff j).mp hk), if_neg (ne_true_of_eq_false ((s.valuesOk_iff j).mp hv))]
  cases s.recheck j <;> rfl

theorem State.jobRefusal_recheck {why : CheckFailure} (hr : s.recheck j = some why) : s.jobRefusal j = some why.refusal := by
  rw [State.jobRefusal_eq hb hk hv, hr]
  rfl

theorem State.jobRefusal_queueFull (hr : s.recheck j = none) (hq : 16 ≤ s.ctp.queue.length) :
    s.jobRefusal j = some .queueFull := by
  rw [State.jobRefusal_eq hb hk hv, hr]
  exact if_pos hq

theorem State.jobRefusal_none (hr : s.recheck j = none) (hq : s.ctp.queue.length < 16) : s.jobRefusal j = none := by
  rw [State.jobRefusal_eq hb hk hv, hr]
  exact if_neg (Nat.not_le.mpr hq)

end

/-! ### The rows -/

theorem RequestBody.carryOut_job {body : RequestBody} {id : Nat} {j : Job} (h : body.job? id = some j) (s : State) :
    s.carryOut id body = s.submit j := by
  cases body <;> cases h <;> rfl

theorem RequestBody.requestRefusal_job {body : RequestBody} {id : Nat} {j : Job} (h : body.job? id = some j) {s : State}
    (hb : s.biu.busState.planless = false) : s.requestRefusal body = none := by
  cases body <;> cases h <;> exact State.requestRefusal_none nofun hb rfl

/-- A changeover-bearing request of a node with a plan, at a free port (R164). -/
theorem exec_job {c : Instr} {r : Request} {j : Job} {s t : State} {result : ResponseResult} (hc : requestOf? c = some r)
    (hj : r.body.job? r.id = some j) (hs : (s.before c).ctp.sending = none) (hb : (s.before c).biu.busState.planless = false)
    (h : (s.before c).submit j = (result, t)) : exec c s = .next (t.answered r result).complete :=
  exec_taken hc hs (RequestBody.requestRefusal_job hj hb) ((RequestBody.carryOut_job hj _).trans h)

theorem State.submit_refused {s : State} {j : Job} {why : RefusalReason} (h : s.jobRefusal j = some why) :
    s.submit j = (.refused why, s) := by
  unfold State.submit
  rw [h]

theorem State.submit_joins {s : State} {j : Job} (h : s.jobRefusal j = none) : s.submit j = (.taken, s.joinQueue j) := by
  unfold State.submit
  rw [h]

/-! ### The checks of R131 by kind -/

section
variable {s : State} {j : Job}

theorem State.held_iff {route : Nat} {r : Route} (h : s.route? route = some r) :
    s.held route = true ↔ r.state = .established ∧ r.holder = some s.me := by
  simp [State.held, h]

theorem State.routeIs_iff {route : Nat} {r : Route} (h : s.route? route = some r) (state : RouteState) :
    s.routeIs route state = true ↔ r.state = state := by
  simp [State.routeIs, h]

theorem State.recheck_breakRoute (hk : j.kind = .breakRoute) :
    s.recheck j = if s.held j.route || s.routeIs j.route .orphaned then none else some .notHolder := by
  unfold State.recheck
  rw [hk]

theorem State.recheck_retrim (hk : j.kind = .retrim) : s.recheck j = if s.held j.route then none else some .notHolder := by
  unfold State.recheck
  rw [hk]

theorem State.recheck_make (hk : j.kind = .make) :
    s.recheck j = if s.routeIs j.route .idle then none else some .routeBusy := by
  unfold State.recheck
  rw [hk]

theorem State.recheck_exchange (hk : j.kind = .exchange) :
    s.recheck j = if !s.held j.route then some .notHolder
      else if !s.routeIs j.makeRoute .idle then some .routeBusy
      else if Config.participantsFull < (s.jobParticipants j).length then some .badValue
      else none := by
  unfold State.recheck
  rw [hk]

/-- The participant list of an EXCHANGE (R133). -/
theorem State.jobParticipants_exchange {r m : Route} (hk : j.kind = .exchange) (hr : s.route? j.route = some r)
    (hm : s.route? j.makeRoute = some m) :
    s.jobParticipants j = m.plan.participants ++ r.established.filter (fun n => n ∉ m.plan.participants) := by
  unfold State.jobParticipants
  rw [hk, hr, hm]

end

/-- Settles O13: `State.jobRefusal` test by test, and `State.recheck` kind by kind. -/
theorem changeoverRequestTests : Obligations.ChangeoverRequestTests := by
  refine ⟨fun c r j s u hc hj hu hs hplan => ?_, fun s j r hr => ?_⟩
  · intro known valueOk
    have hrefused {why : RefusalReason} (h : u.jobRefusal j = some why) :
        exec c s = .next (u.answered r (.refused why)).complete := by
      subst hu
      exact exec_job hc hj hs hplan (State.submit_refused h)
    exact ⟨fun hb => hrefused (State.jobRefusal_offBus hb), fun hb hk => hrefused (State.jobRefusal_unknownRoute hb hk),
      fun hb hk hv => hrefused (State.jobRefusal_badValue hb hk hv),
      fun hb hk hv why hw => hrefused (State.jobRefusal_recheck hb hk hv hw),
      fun hb hk hv hw hq => hrefused (State.jobRefusal_queueFull hb hk hv hw hq)⟩
  · intro held
    have hheld : s.held j.route = true ↔ held := State.held_iff hr
    refine ⟨fun hk => ?_, fun hk => ?_, fun hk => ?_, fun hk m mk hmk hm => ?_⟩
    · rw [State.recheck_breakRoute hk]
      exact if_congr (by rw [Bool.or_eq_true, hheld, State.routeIs_iff hr]) rfl rfl
    · rw [State.recheck_retrim hk]
      exact if_congr hheld rfl rfl
    · rw [State.recheck_make hk]
      exact if_congr (State.routeIs_iff hr _) rfl rfl
    · have hmake : j.makeRoute = mk := by rw [Job.makeRoute, hmk, Option.getD_some]
      rw [← hmake] at hm
      have hidle := State.routeIs_iff hm .idle
      rw [State.recheck_exchange hk, State.jobParticipants_exchange hk hr hm]
      refine ⟨fun h => if_pos ?_, fun h hne => ?_, fun h he => ?_⟩
      · simpa using mt hheld.mp h
      · rw [if_neg (by simpa using hheld.mpr h), if_pos (by simpa using mt hidle.mp hne)]
      · rw [if_neg (by simpa using hheld.mpr h), if_neg (by simpa using hidle.mpr he)]
        rfl

end Sys2Proof.Machine
end

section
/-! SUPPORT. The notices, the queries and the event requests (R168, R169, R171). -/

namespace Sys2Proof.Machine

/-- Settles O15: each answer as the record found gives it. -/
theorem takeNoticeAndQueriesAnswer : Obligations.TakeNoticeAndQueriesAnswer := by
  refine ⟨fun id s u hu hs hb => ?_, fun id x s u hu hs hb => ?_⟩
  · subst hu
    have htaken {result : ResponseResult} {t : State} (h : (s.before (.takeNotice id)).takeNotice = (result, t)) :=
      exec_taken (c := .takeNotice id) rfl hs (State.requestRefusal_none nofun hb rfl) h
    refine ⟨fun n rest hn => htaken ?_, fun hn => htaken ?_⟩ <;>
      · unfold State.takeNotice
        rw [hn]
  · subst hu
    have hroute {result : ResponseResult} (h : s.caughtUp.queryRoute x = result) :=
      exec_taken (c := .queryRoute id x) (t := s.caughtUp) (result := result) rfl hs (State.requestRefusal_none nofun hb rfl)
        (congrArg (·, s.caughtUp) h)
    have hswitch {result : ResponseResult} (h : s.caughtUp.querySwitch x = result) :=
      exec_taken (c := .querySwitch id x) (t := s.caughtUp) (result := result) rfl hs (State.requestRefusal_none nofun hb rfl)
        (congrArg (·, s.caughtUp) h)
    refine ⟨fun r hr => hroute ?_, fun hr => hroute ?_, fun w hw => hswitch ?_, fun hw => hswitch ?_⟩
    · simp only [State.queryRoute, hr]
    · simp only [State.queryRoute, hr]
    · simp only [State.querySwitch, hw]
    · simp only [State.querySwitch, hw]

/-! ### The bits of the events (section 12.2) -/

/-- The bits of CLEAR EVENTS and the bytes of SET NOTIFY MAP name the events in their order. -/
theorem EventName.bit_eq (e : EventName) : e.bit = EventName.all.idxOf e := by
  cases e <;> rfl

/-- The level events are those of the first three bits (R180). -/
theorem namesLevelEvent_iff (events : Word16) :
    EventName.all.any (fun e => namesEvent events e && !e.isEdge) = true ↔ ∃ i, i < 3 ∧ events.getLsbD i = true := by
  have hthree : (∃ i, i < 3 ∧ events.getLsbD i = true) ↔
      events.getLsbD 0 = true ∨ events.getLsbD 1 = true ∨ events.getLsbD 2 = true :=
    ⟨fun ⟨i, hi, h⟩ => by interval_cases i <;> simp [h], fun h => h.elim (⟨0, by omega, ·⟩) fun h =>
      h.elim (⟨1, by omega, ·⟩) (⟨2, by omega, ·⟩)⟩
  rw [hthree]
  simp [EventName.all, namesEvent, EventName.isEdge, EventName.bit]

theorem State.clearEventSet_refused {s : State} {events : Word16} (h : ∃ i, i < 3 ∧ events.getLsbD i = true) :
    s.clearEventSet events = (.refused .badValue, s) :=
  if_pos ((namesLevelEvent_iff events).mpr h)

theorem State.clearEventSet_taken {s : State} {events : Word16} (h : ∀ i, i < 3 → events.getLsbD i = false) :
    s.clearEventSet events = (.taken, { s with ctp := { s.ctp with events := s.ctp.events.map (fun e =>
      if events.getLsbD (EventName.all.idxOf e.name) then { e with raised := false, repeats := 0, source := none } else e) } }) := by
  have hnone : ¬∃ i, i < 3 ∧ events.getLsbD i = true := fun ⟨i, hi, hset⟩ => ne_true_of_eq_false (h i hi) hset
  have hbit : (fun e : EventStatus => if namesEvent events e.name then e.lower else e) = fun e =>
      if events.getLsbD (EventName.all.idxOf e.name) then { e with raised := false, repeats := 0, source := none } else e := by
    funext e
    rw [namesEvent, EventName.bit_eq, EventStatus.lower]
  rw [← hbit]
  exact if_neg (mt (namesLevelEvent_iff events).mp hnone)

/-- A byte of the notify map names the line its code gives, and one past the map's end names none. -/
theorem NotifyLine.ofByte_getD (lines : List Byte) (i : Nat) : NotifyLine.ofByte (lines.getD i 0#8) =
    (match (lines[i]?).map BitVec.toNat with
     | some 1 => .line1
     | some 2 => .line2
     | _ => .none) := by
  rw [List.getD_eq_getElem?_getD]
  cases lines[i]? with
  | none => rfl
  | some b =>
    unfold NotifyLine.ofByte
    show (match b.toNat with | 1 => _ | 2 => _ | _ => _) = match some b.toNat with | some 1 => _ | some 2 => _ | _ => _
    split <;> simp_all

/-- Settles O19: the level events stand in the first three bits, and each event takes its own byte of the map. -/
theorem eventRequestsAct : Obligations.EventRequestsAct := by
  refine ⟨fun id events s u hu hs hb hsome hlow => ?_, fun id lines s u hu hs hb hlen hcodes => ?_⟩
  · subst hu
    intro answer
    have hform : (RequestBody.clearEvents events).formOk = true := by
      simpa [RequestBody.formOk] using And.intro hsome hlow
    have htaken {result : ResponseResult} {t : State}
        (h : (s.before (.clearEvents id events)).clearEventSet events = (result, t)) :=
      exec_taken (c := .clearEvents id events) rfl hs (State.requestRefusal_none nofun hb hform) h
    exact ⟨fun h => htaken (State.clearEventSet_refused h), fun h => htaken (State.clearEventSet_taken h)⟩
  · subst hu
    have hform : (RequestBody.setNotifyMap lines).formOk = true := by
      simpa [RequestBody.formOk] using And.intro hlen hcodes
    refine ⟨_, exec_taken (c := .setNotifyMap id lines) rfl hs (State.requestRefusal_none nofun hb hform) rfl, rfl, ?_⟩
    refine List.map_congr_left fun e _ => ?_
    have hline := (congrArg (fun i => NotifyLine.ofByte (lines.getD i 0#8)) e.name.bit_eq).trans (NotifyLine.ofByte_getD lines _)
    exact congrArg (fun line => ({ e with line := line } : EventStatus)) hline

end Sys2Proof.Machine
end

section
/-! SUPPORT. SAVE WEAR and the writes of a save (R172, R194, R195), QUERY NODE (R170), and RESTART (R174). -/

namespace Sys2Proof.Machine

/-! ### SAVE WEAR (R172, R194) -/

theorem State.wearCopy_length (s : State) : s.wearCopy.length = 48 := by
  simp [State.wearCopy, Config.wearSlots]

/-- The count of each index the plan fills, and 0 of any other (R194). -/
theorem State.wearCopy_getElem (s : State) {i : Nat} (hi : i < 48) :
    s.wearCopy[i]? = some ((s.switch? i).elim 0 Switch.wear) := by
  have hi : i < Config.wearSlots := hi
  simp only [State.wearCopy, List.getElem?_map, List.getElem?_range hi, Option.map_some]
  cases s.switch? i <;> rfl

theorem State.saveWearTaken_idle {s : State} (h : s.pld.save = .idle) :
    s.saveWearTaken = (.taken, { s with pld := { s.pld with save := .writing s.wearCopy .openMark } }) := by
  unfold State.saveWearTaken State.beginSave
  rw [h]

theorem State.saveWearTaken_writing {s : State} (h : s.pld.save ≠ .idle) : s.saveWearTaken = (.busy, s) := by
  unfold State.saveWearTaken State.beginSave
  cases hsave : s.pld.save with
  | idle => exact absurd hsave h
  | writing copy w => rfl

/-! ### The writes (R195) -/

/-- The closing write is the last (R195). -/
theorem SaveWrite.next_isSome {w : SaveWrite} (h : w ≠ .closeMark) : ∃ v, w.next = some v := by
  cases w with
  | closeMark => exact (h rfl).elim
  | openMark | check => exact ⟨_, rfl⟩
  | count i =>
    by_cases hi : i + 1 < Config.wearSlots
    · exact ⟨_, if_pos hi⟩
    · exact ⟨_, if_neg hi⟩

section
variable {s : State} {copy : List Nat} {w : SaveWrite} (h : s.pld.save = .writing copy w)
include h

theorem State.saveAccepted_goesOn {v : SaveWrite} (hv : w.next = some v) : s.saveAccepted =
    { s with mem := w.whole copy s.mem, pld := { s.pld with save := .writing copy v } } := by
  unfold State.saveAccepted
  rw [h]
  dsimp only
  rw [hv]

theorem State.saveAccepted_complete (hw : w = .closeMark) : s.saveAccepted =
    { s with mem := w.whole copy s.mem, pld := { s.pld with save := .idle, lastSave := .complete } } := by
  subst hw
  unfold State.saveAccepted
  rw [h]
  rfl

theorem State.saveFailed_writing (reached : Nat) : s.saveFailed reached =
    { s with mem := w.partly copy reached s.mem, pld := { s.pld with save := .idle, lastSave := .failed } } := by
  unfold State.saveFailed
  rw [h]

end

/-- A write that failed changes no byte outside those it had brought to the memory (R195). -/
theorem SaveWrite.read_partly_outside (w : SaveWrite) (copy : List Nat) (reached : Nat) (mem : List Host.Cell) {a : Nat}
    (ha : ¬((w.target copy).1 ≤ a ∧ a < (w.target copy).1 + min reached (w.target copy).2.length)) :
    Memory.read (w.partly copy reached mem) a = Memory.read mem a := by
  by_cases hclose : w = .closeMark
  · rw [hclose]
    rfl
  · rw [SaveWrite.read_partly hclose, if_neg ha]

/-- Settles O8: the copy at the start, then each write by where the save stands. -/
theorem saveWearTakenAndWritten : Obligations.SaveWearTakenAndWritten := by
  refine ⟨fun id s u hu hs hb => ?_, fun s u copy w hu hw => ?_, fun reached s u copy w hu hw => ?_⟩
  · subst hu
    have htaken {result : ResponseResult} {t : State} (h : (s.before (.saveWear id)).saveWearTaken = (result, t)) :=
      exec_taken (c := .saveWear id) rfl hs (State.requestRefusal_none nofun hb rfl) h
    exact ⟨fun hidle => ⟨_, State.wearCopy_length _, fun i => State.wearCopy_getElem _, htaken (State.saveWearTaken_idle hidle)⟩,
      fun hbusy => htaken (State.saveWearTaken_writing hbusy)⟩
  · subst hu
    have hexec : exec .saveWearWriteAccepted s = .next (s.before .saveWearWriteAccepted).saveAccepted.complete := rfl
    refine ⟨w.whole copy (s.before .saveWearWriteAccepted).mem, Memory.read_writeBytes _ _ _, fun hmore => ?_, fun hlast => ?_⟩
    · obtain ⟨v, hv⟩ := SaveWrite.next_isSome hmore
      exact ⟨v, hv, by rw [hexec, State.saveAccepted_goesOn hw hv]⟩
    · rw [hexec, State.saveAccepted_complete hw hlast]
  · subst hu
    have hexec : exec (.saveWearWriteFailed reached) s =
        .next ((s.before (.saveWearWriteFailed reached)).saveFailed reached).complete := rfl
    refine ⟨_, by rw [hexec, State.saveFailed_writing hw], fun hopen hmark => ?_, fun a ha => ?_⟩
    · exact readWear_of_open (SaveWrite.partly_open hopen copy reached hmark)
    · exact SaveWrite.read_partly_outside w copy reached _ ha

/-! ### QUERY NODE (R170) -/

/-- The time a ready line shows is within the time last set (R105). -/
theorem ReadyLine.shown_within {draw : Nat} {r : ReadyLine} {x : Nat} (h : (r.shown draw).timeLeft = some x) :
    r.pulsing = true ∧ 1 ≤ x ∧ (0 < r.timeLeft → x ≤ r.timeLeft) := by
  unfold ReadyLine.shown at h
  dsimp only at h
  split at h
  · rename_i hp
    cases h
    refine ⟨hp, by omega, fun hpos => ?_⟩
    have := Nat.mod_lt (Config.readyElapsed r.line draw) hpos
    omega
  · cases h

/-- Settles O17: the answer `State.nodeAnswer` gathers, block by block. -/
theorem queryNodeGathersBlocks : Obligations.QueryNodeGathersBlocks := by
  intro id s u hu hs
  subst hu
  have hpass : (s.before (.queryNode id)).requestRefusal .queryNode = none := by
    rw [State.requestRefusal_known _ (body := .queryNode) nofun]
    simp [RequestBody.kind, RequestBody.formOk]
  refine ⟨(s.before (.queryNode id)).nodeAnswer, exec_taken (c := .queryNode id) rfl hs hpass rfl, rfl, rfl, fun h => if_pos h,
    fun h => if_pos h, fun h => if_pos h, rfl, rfl, rfl, rfl, rfl, rfl, rfl, rfl, rfl, rfl, rfl, rfl, rfl, rfl, ?_, ?_, ?_, ?_,
    rfl, rfl, rfl, rfl, rfl, bne_iff_ne, rfl, rfl, rfl, rfl, rfl, rfl, rfl⟩
  · exact List.map_map ..
  · intro l hl
    obtain ⟨line, _, rfl⟩ := List.mem_map.mp hl
    rfl
  · refine (List.map_map ..).trans (List.map_congr_left fun r _ => ?_)
    show (r.line, (r.shown _).timeLeft.isSome) = (r.line, r.pulsing)
    unfold ReadyLine.shown
    cases r.pulsing <;> rfl
  · intro hset hpos r hr x hx
    obtain ⟨line, hline, rfl⟩ := List.mem_map.mp hr
    obtain ⟨hp, hone, hle⟩ := ReadyLine.shown_within hx
    rw [hset line hline hp] at hle
    exact ⟨hone, hle hpos⟩

/-! ### RESTART (R174) -/

theorem Switch.restart_eq (sense : SenseLevels) (w : Switch) : w.restart sense =
    if w.state = .moving then
      { w with claims := [], waiters := [], state := .still, settleLeft := 0, driveLines := none,
               current := (if w.plan.sensed then w.reading sense else none),
               commanded := (if w.plan.sensed then w.reading sense else none) }
    else { w with claims := [], waiters := [] } := rfl

/-- With no notice, no hold and no plan fault every level event stays lowered (R180). -/
theorem levelRaised_quiet (e : EventName) : levelRaised [] (holdAfter 0 false) .silent e false = false := by
  cases e <;> rfl

/-- Lowered events assert no notify line (R184). -/
theorem notifyAsserted_lowered {events : List EventStatus} (h : ∀ e ∈ events, e.raised = false) (line : NotifyLine) :
    notifyAsserted events line = false := by
  unfold notifyAsserted
  rw [List.any_eq_false]
  intro e he
  simp [h e he]

/-- The events at the end of a RESTART: every one lowered (R187). -/
theorem State.restarted_events (s : State) : s.restarted.complete.ctp.events = s.ctp.events.map EventStatus.lower := by
  show (s.ctp.events.map EventStatus.lower).map _ = _
  rw [List.map_map]
  refine List.map_congr_left fun e _ => ?_
  show { e.lower with raised := levelRaised [] (holdAfter 0 false) .silent e.name false } = e.lower
  rw [levelRaised_quiet]
  rfl

theorem State.restarted_notify (s : State) (line : NotifyLine) : notifyAsserted s.restarted.complete.ctp.events line = false := by
  refine notifyAsserted_lowered (fun e he => ?_) line
  rw [State.restarted_events] at he
  obtain ⟨x, _, rfl⟩ := List.mem_map.mp he
  rfl

/-- The work a frame end owed is done before a command acts (log 1). -/
theorem State.caughtUp_agenda (s : State) : s.caughtUp.agenda = [] := by
  have := congrArg State.agenda s.caughtUp_keeps
  exact this

/-- Settles O21: `State.restarted` block by block, and the flags judged at the end of its event. -/
theorem restartResetsBlocks : Obligations.RestartResetsBlocks := by
  intro id sense s u hu hs hb
  have hagenda : u.agenda = [] := by rw [hu]; exact State.caughtUp_agenda s
  have hsense : u.sense = sense := by rw [hu]; rfl
  have hexec : exec (.restart id sense) s =
      .next (u.restarted.answered { id := id, body := .restart } .taken).complete := by
    subst hu
    exact exec_taken (c := .restart id sense) rfl hs (State.requestRefusal_none nofun hb rfl) rfl
  refine ⟨_, hexec, rfl, rfl, rfl, rfl, rfl, rfl, ?_, rfl, rfl, rfl, rfl, rfl, rfl, rfl, ?_, rfl, rfl, rfl, rfl, rfl, rfl, rfl,
    rfl, rfl, rfl, rfl, rfl, rfl, u.restarted_events, u.restarted_notify .line1, u.restarted_notify .line2, ?_⟩
  · show (if u.biu.drive = .record then _ else _) ≠ _
    split
    · exact nofun
    · assumption
  · show u.sbc.map (Switch.restart u.sense) = _
    rw [hsense]
    exact List.map_congr_left fun w _ => Switch.restart_eq sense w
  · show { u with agenda := [] } = u
    rw [← hagenda]

end Sys2Proof.Machine
end

section
/-! SUPPORT. A changeover-bearing request that passes its tests: it joins the queue, and an event of R130 follows (R130 to R134,
R164, R165). -/

namespace Sys2Proof.Machine

/-! ### A request at the young end of the queue (R165) -/

/-- A request at the young end of the queue. -/
def State.joined (s : State) (j : Job) : State := { s with ctp := { s.ctp with queue := s.ctp.queue ++ [j] } }

/-- With no slot behind a backoff, a request that joins the queue asks for a take-up alone (R130). -/
theorem State.joinQueue_eq {s : State} (h : ∀ name, (s.slot name).state ≠ .backoff) (j : Job) :
    s.joinQueue j = (s.joined j).takeUps := by
  show (((s.joined j).retrySlot .a).retrySlot .b).takeUps = _
  rw [State.retrySlot_idle (s.joined j) .a (h .a), State.retrySlot_idle (s.joined j) .b (h .b)]

/-- The request just joined leaves the queue as it was. -/
theorem State.dequeue_joined {s : State} {j : Job} (h : j ∉ s.ctp.queue) : (s.joined j).dequeue j = s := by
  rw [State.dequeue_at (post := []) rfl h, List.append_nil]
  rfl

/-! ### Take-up with one request that may be taken (R130) -/

section
variable {s t : State} {name : SlotName} {j : Job}

/-- No slot is open: nothing is taken up. -/
theorem State.takeUps_shut (h : ∀ name, ¬s.slotOpen name = true) : s.takeUps = s := by
  rw [State.takeUps_eq, State.takeUpAt_shut (h .a), State.takeUpAt_shut (h .b)]

/-- Nothing in the queue may be taken: a slot takes nothing up. -/
theorem State.takeUpAt_none (h : ∀ p ∈ s.ctp.queue, ¬s.mayTake name p) : s.takeUpAt name = s := by
  unfold State.takeUpAt
  split
  · exact State.takeUpSlot_none (State.pick_none fun p hp _ => h p hp)
  · rfl

/-- Take-up into one slot, the other being occupied or finding nothing after it. -/
theorem State.takeUps_first (hbus : s.biu.busState = .onBus) (hopen : s.slotOpen name = true)
    (ht : State.takeUpSlot name (s.ctp.queue.length + 1) false s = t)
    (hother : (s.slot (otherSlot name)).state ≠ .free ∨ (name = .a ∧ t.takeUpAt .b = t)) : s.takeUps = t := by
  obtain ⟨hfree, hsecond⟩ := State.slotOpen_spec hopen
  rcases hother with hne | ⟨rfl, hnone⟩
  · rw [State.takeUps_alone hbus hfree hsecond (.inl hne), ht]
  · rw [State.takeUps_eq, State.takeUpAt_open hbus hopen, ht, hnone]

/-- What slot B may take after slot A's take-up, slot A could have taken: the routes stay, and slot B held no request. -/
theorem State.mayTake_first {p : Job} (hrtb : t.rtb = s.rtb) (hempty : s.spu.slotB = .empty) (h : t.mayTake .b p) :
    s.mayTake .a p := by
  refine ⟨fun x hx r hr => h.1 x hx r ?_, ?_⟩
  · unfold State.route?
    rw [hrtb]
    exact hr
  · show ∀ k ∈ s.spu.slotB.job, _
    rw [hempty]
    exact nofun

/-- A request that has no place waits, and so does every request behind it but a BREAK (R132). -/
theorem State.takeUpSlot_joined_full (hold : ∀ p ∈ s.ctp.queue, ¬s.mayTake name p) (hcheck : s.recheck j = none)
    (hkind : j.kind ≠ .breakRoute) (hfull : 6 ≤ s.cxe.contexts.length + s.cxe.reservations.length) (fuel : Nat) :
    State.takeUpSlot name (fuel + 1) false (s.joined j) = s.joined j := by
  by_cases hmay : s.mayTake name j
  · have hpick : (s.joined j).pick? name false = some j :=
      State.pick_first (s := s.joined j) (post := []) rfl (fun p hp _ => hold p hp) hmay nofun
    rw [State.takeUpSlot_noPlace hpick hcheck hkind hfull]
    refine State.takeUpSlot_none (State.pick_none fun p hp hbreak => ?_)
    rcases List.mem_append.mp hp with hp | hp
    · exact hold p hp
    · obtain rfl := List.mem_singleton.mp hp
      exact absurd (hbreak rfl) hkind
  · refine State.takeUpSlot_none (State.pick_none fun p hp _ => ?_)
    rcases List.mem_append.mp hp with hp | hp
    · exact hold p hp
    · obtain rfl := List.mem_singleton.mp hp
      exact hmay

theorem State.takeUpAt_joined_full (hold : ∀ p ∈ s.ctp.queue, ¬s.mayTake name p) (hcheck : s.recheck j = none)
    (hkind : j.kind ≠ .breakRoute) (hfull : 6 ≤ s.cxe.contexts.length + s.cxe.reservations.length) :
    (s.joined j).takeUpAt name = s.joined j := by
  unfold State.takeUpAt
  split
  · exact State.takeUpSlot_joined_full hold hcheck hkind hfull _
  · rfl

end

/-! ### Where the take-up finds a FREE slot (R129, R130) -/

/-- A sponsor slot that sends or waits for its context. -/
def SponsorSlot.occupied (slot : SponsorSlot) : Prop := slot.state = .sending ∨ slot.state = .opened

theorem SponsorSlot.occupied.ne_free {slot : SponsorSlot} (h : slot.occupied) : slot.state ≠ .free := by
  rcases h with h | h <;> rw [h] <;> decide

theorem SponsorSlot.occupied.ne_backoff {slot : SponsorSlot} (h : slot.occupied) : slot.state ≠ .backoff := by
  rcases h with h | h <;> rw [h] <;> decide

/-- With slot A occupied, and slot B occupied or closed by single-sponsor mode, a request that joins the queue waits there (R129). -/
theorem State.joinQueue_shut {s : State} (ha : s.spu.slotA.occupied)
    (hb : s.spu.slotB.occupied ∨ (s.spu.slotB.state = .free ∧ s.spu.single = true)) (j : Job) : s.joinQueue j = s.joined j := by
  rw [State.joinQueue_eq fun name => ?_, State.takeUps_shut fun name hopen => ?_]
  · obtain ⟨hfree, hsingle⟩ := State.slotOpen_spec hopen
    cases name with
    | a => exact ha.ne_free hfree
    | b =>
      rcases hb with h | h
      · exact h.ne_free hfree
      · exact absurd (h.2.symm.trans (hsingle rfl)) (by decide)
  · cases name with
    | a => exact ha.ne_backoff
    | b =>
      rcases hb with h | h
      · exact h.ne_backoff
      · exact fun hback => nomatch h.1.symm.trans hback

/-- A slot is EMPTY and open to a request, and the other one is occupied, or follows it with nothing in hand. -/
structure State.TakesInto (s : State) (name : SlotName) : Prop where
  empty : s.slot name = .empty
  first : name = .a → s.spu.slotB.occupied ∨ s.spu.slotB = .empty
  second : name = .b → s.spu.slotA.occupied ∧ s.spu.single = false

section
variable {s : State} {name : SlotName} (h : s.TakesInto name)
include h

theorem State.TakesInto.ne_backoff (n : SlotName) : (s.slot n).state ≠ .backoff := by
  have hidle {slot : SponsorSlot} (he : slot = .empty) : slot.state ≠ .backoff := by rw [he]; decide
  cases name with
  | a =>
    cases n with
    | a => exact hidle h.empty
    | b => exact (h.first rfl).elim SponsorSlot.occupied.ne_backoff hidle
  | b =>
    cases n with
    | a => exact (h.second rfl).1.ne_backoff
    | b => exact hidle h.empty

theorem State.TakesInto.slotOpen : s.slotOpen name = true := by
  unfold State.slotOpen
  rw [h.empty]
  cases name with
  | a => rfl
  | b => rw [(h.second rfl).2]; rfl

variable {t : State} {j : Job} (hbus : s.biu.busState = .onBus)
include hbus

/-- The take-up into the slot is all that happens, where the other slot finds nothing after it. -/
theorem State.TakesInto.joinQueue_eq (ht : State.takeUpSlot name ((s.joined j).ctp.queue.length + 1) false (s.joined j) = t)
    (hb : name = .a → s.spu.slotB = .empty → t.takeUpAt .b = t) : s.joinQueue j = t := by
  rw [State.joinQueue_eq h.ne_backoff]
  refine State.takeUps_first (s := s.joined j) hbus h.slotOpen ht ?_
  cases name with
  | a => exact (h.first rfl).imp SponsorSlot.occupied.ne_free fun he => ⟨rfl, hb rfl he⟩
  | b => exact .inl (h.second rfl).1.ne_free

/-- The same where no request left in the queue may be taken. -/
theorem State.TakesInto.joinQueue_last (ht : State.takeUpSlot name ((s.joined j).ctp.queue.length + 1) false (s.joined j) = t)
    (hrtb : t.rtb = s.rtb) (hq : ∀ p ∈ t.ctp.queue, ¬s.mayTake name p) : s.joinQueue j = t :=
  h.joinQueue_eq hbus ht fun hn he => State.takeUpAt_none fun p hp hmay =>
    hq p hp (by subst hn; exact State.mayTake_first hrtb he hmay)

variable (hold : ∀ p ∈ s.ctp.queue, ¬s.mayTake name p)
include hold

theorem State.TakesInto.joinQueue_waits (hnot : ¬s.mayTake name j) : s.joinQueue j = s.joined j := by
  have hall (p) (hp : p ∈ (s.joined j).ctp.queue) : ¬s.mayTake name p := by
    rcases List.mem_append.mp hp with hp | hp
    · exact hold p hp
    · rwa [List.mem_singleton.mp hp]
  exact h.joinQueue_last hbus (State.takeUpSlot_none (State.pick_none fun p hp _ => hall p hp)) rfl hall

variable (hcheck : s.recheck j = none)
include hcheck

theorem State.TakesInto.joinQueue_noPlace (hkind : j.kind ≠ .breakRoute)
    (hfull : 6 ≤ s.cxe.contexts.length + s.cxe.reservations.length) : s.joinQueue j = s.joined j :=
  h.joinQueue_eq hbus (State.takeUpSlot_joined_full hold hcheck hkind hfull _) fun hn he =>
    State.takeUpAt_joined_full (fun p hp hmay => hold p hp (by subst hn; exact State.mayTake_first rfl he hmay)) hcheck hkind hfull

variable (hmay : s.mayTake name j)
include hmay

omit h hbus hcheck in
theorem State.pick_joined : (s.joined j).pick? name false = some j :=
  State.pick_first (s := s.joined j) (post := []) rfl (fun p hp _ => hold p hp) hmay nofun

omit h hbus hcheck in
theorem State.dequeue_picked : (s.joined j).dequeue j = s := State.dequeue_joined fun hmem => hold j hmem hmay

theorem State.TakesInto.joinQueue_release (hkind : j.kind = .breakRoute) : s.joinQueue j = s.releasing name j := by
  have hrelease := State.takeUpSlot_release (fuel := (s.joined j).ctp.queue.length) (State.pick_joined hold hmay) hcheck hkind
  rw [State.dequeue_picked hold hmay, State.placeRelease_releasing h.empty] at hrelease
  exact h.joinQueue_last hbus hrelease (by cases name <;> rfl) (by cases name <;> exact hold)

theorem State.TakesInto.joinQueue_propose (hkind : j.kind ≠ .breakRoute)
    (hplace : s.cxe.contexts.length + s.cxe.reservations.length < 6) :
    ∃ seq, s.seqOpen seq ∧ (s.seqOpen ((s.spu.seq + 1) % 256) → seq = (s.spu.seq + 1) % 256) ∧
      s.joinQueue j = s.proposed name j seq := by
  obtain ⟨seq, hopen, hnext, hplaced⟩ := State.placePropose_proposed hplace name j
  have hpropose :=
    State.takeUpSlot_propose (fuel := (s.joined j).ctp.queue.length) (State.pick_joined hold hmay) hcheck hkind hplace
  rw [State.dequeue_picked hold hmay, hplaced] at hpropose
  exact ⟨seq, hopen, hnext, h.joinQueue_last hbus hpropose (by cases name <;> rfl) (by cases name <;> exact hold)⟩

end

/-- Settles O14: the request joins the queue (`State.jobRefusal_none`), and the take-up that follows finds at most this one. -/
theorem passedRequestJoinsQueue : Obligations.PassedRequestJoinsQueue := by
  intro c r j s u hc hj hu hs hbus hknown hid htarget hfrequency htrim hroutes hcheck hroom occupied taken queued
  have hpass : u.jobRefusal j = none :=
    State.jobRefusal_none hbus hknown ⟨hid, htarget, hfrequency, htrim, hroutes⟩ hcheck hroom
  have htaken {t : State} (ht : u.joinQueue j = t) : taken t := by
    subst hu
    exact exec_job hc hj hs (by rw [hbus]; rfl) ((State.submit_joins hpass).trans (congrArg _ ht))
  refine ⟨fun ha hb => htaken (State.joinQueue_shut ha hb j), fun name hempty hfirst hsecond => ?_⟩
  intro may full hold
  have hinto : u.TakesInto name := ⟨hempty, hfirst, hsecond⟩
  refine ⟨fun hnot => htaken (hinto.joinQueue_waits hbus hold hnot),
    fun _ hkind hfull => htaken (hinto.joinQueue_noPlace hbus hold hcheck hkind hfull),
    fun hmay hkind => htaken (hinto.joinQueue_release hbus hold hcheck hmay hkind), fun hmay hkind hplace => ?_⟩
  obtain ⟨seq, hopen, hnext, hjoins⟩ := hinto.joinQueue_propose hbus hold hcheck hmay hkind (Nat.not_le.mp hplace)
  rw [State.proposed, hempty] at hjoins
  exact ⟨seq, hopen, hnext, htaken hjoins⟩

end Sys2Proof.Machine
end

section
/-! A notice joining its queue, and one event firing (chapter 10). -/

namespace Sys2Proof.Machine

/-- A notice joins a queue with room at the young end (R178). -/
theorem joinNotice_room {q : List Notice} (n : Notice) (h : q.length < Config.noticeRoom) :
    joinNotice q n = q ++ [{ n with lost := 0 }] := if_pos h

/-- A notice takes the place of the newest in a full queue, and counts one loss more (R178). -/
theorem joinNotice_full {older : List Notice} (newest n : Notice) (h : Config.noticeRoom ≤ (older ++ [newest]).length) :
    joinNotice (older ++ [newest]) n = older ++ [{ n with lost := satAdd Config.count8 newest.lost 1 }] := by
  simp only [joinNotice, if_neg (Nat.not_lt.mpr h), List.getLast?_concat, List.dropLast_concat]

/-- A firing raises the event under its source; only a raised event counts it as a repeat (R181). -/
theorem EventStatus.fire_eq (source : EventSource) (e : EventStatus) :
    e.fire source = { e with
      raised := true, repeats := if e.raised then satAdd Config.count8 e.repeats 1 else 0, source := some source } := by
  unfold EventStatus.fire
  cases hraised : e.raised
  case true => simp only [if_true, ← hraised]
  case false => rfl

/-- Settles O51: the two ends of `joinNotice`, and `EventStatus.fire_eq` at each event of the name fired. -/
theorem noticesAndFirings : Obligations.NoticesAndFirings := by
  refine ⟨fun s n => ⟨fun hroom => ?_, fun older newest hqueue hfull => ?_⟩, fun s name source => ?_⟩
  · rw [State.notice, joinNotice_room n (Nat.lt_succ_of_le hroom)]
  · have hlong : Config.noticeRoom ≤ (older ++ [newest]).length := by simp [hfull, Config.noticeRoom]
    rw [State.notice, hqueue, joinNotice_full newest n hlong]
    rfl
  · simp only [State.fire, EventStatus.fire_eq]
    rfl

end Sys2Proof.Machine
end

section
/-! SUPPORT. What one step can do to the save in flight and the configuration memory (R194 to R196, chapter 11). -/

namespace Sys2Proof.Machine

/-! ### The store: the save and the memory -/

/-- The save and the memory it writes, the part of the state that the laws of the memory read. -/
def State.store (s : State) : SaveState × List Host.Cell := (s.pld.save, s.mem)

/-- All that one event can do to the save and the memory: nothing; a save begun (R194); the plan area placed by the tools (log 7);
the write in flight accepted, the save going on or ended (R195); or that write failed or cut off (R195, R196). -/
inductive StoreStep : SaveState × List Host.Cell → SaveState × List Host.Cell → Prop
  | kept (x : SaveState × List Host.Cell) : StoreStep x x
  | begun (copy : List Nat) (mem : List Host.Cell) : StoreStep (.idle, mem) (.writing copy .openMark, mem)
  | placed (save : SaveState) (plan : List Byte) (mem : List Host.Cell) : StoreStep (save, mem) (save, Memory.placePlan mem plan)
  | accepted {w v : SaveWrite} (copy : List Nat) (mem : List Host.Cell) (next : w.next = some v) :
      StoreStep (.writing copy w, mem) (.writing copy v, w.whole copy mem)
  | ended {w : SaveWrite} (copy : List Nat) (mem : List Host.Cell) (next : w.next = none) :
      StoreStep (.writing copy w, mem) (.idle, w.whole copy mem)
  | failed (w : SaveWrite) (copy : List Nat) (reached : Nat) (mem : List Host.Cell) :
      StoreStep (.writing copy w, mem) (.idle, w.partly copy reached mem)

/-- An operation that does one of these things to the store, or none. -/
def State.Stores (s t : State) : Prop := StoreStep s.store t.store

theorem State.Stores.of_store {s t : State} (h : t.store = s.store) : s.Stores t := by
  unfold State.Stores
  rw [h]
  exact .kept _

theorem State.Stores.refl (s : State) : s.Stores s := .of_store rfl

/-- What leaves the plan side leaves the store. -/
theorem State.store_of_planSide {s t : State} (h : t.planSide = s.planSide) : t.store = s.store :=
  congrArg (fun x => (x.2.1.save, x.2.2.1)) h

/-- An operation between two that leave the store. -/
theorem State.Stores.between {s t u v : State} (h : t.Stores u) (before : t.store = s.store) (after : v.store = u.store) :
    s.Stores v := by
  unfold State.Stores
  rw [← before, after]
  exact h

/-! ### The work of a frame end and the bus -/

theorem State.doWork_store (s : State) (w : Work) : (s.doWork w).store = s.store :=
  State.store_of_planSide (s.doWork_planSide w)

theorem State.caughtUp_store (s : State) : s.caughtUp.store = s.store :=
  foldl_keeps _ State.store State.doWork_store _ _

theorem State.workNow_store (s : State) (w : Work) : (s.workNow w).store = s.store := by
  unfold State.workNow
  split
  · exact State.doWork_store _ w
  · rfl

theorem State.frameEnds_store (s : State) (sense : SenseLevels) : (s.frameEnds sense).store = s.store := by
  unfold State.frameEnds
  split
  · have hdrain := ({ s with sense := sense } : State).countFrame.drainTest_planSide
    exact (State.store_of_planSide hdrain :)
  · rfl

theorem State.timerDrives_store (s : State) : s.timerDrives.store = s.store := by
  unfold State.timerDrives
  split <;> rfl

theorem State.syncSeen_store (s : State) : s.syncSeen.store = s.store := by
  unfold State.syncSeen
  split <;> rfl

theorem State.frameTimerExpires_store (s : State) : s.frameTimerExpires.store = s.store := by
  unfold State.frameTimerExpires
  split
  · split
    · rfl
    · exact s.timerDrives_store
  · rfl

theorem State.searchSpanExpires_store (s : State) : s.searchSpanExpires.store = s.store := by
  unfold State.searchSpanExpires
  split
  · exact s.timerDrives_store
  · rfl

theorem State.sampleTaken_store (s : State) (input : Nat) (level : Int) : (s.sampleTaken input level).store = s.store :=
  foldl_keeps _ State.store (by intros; rfl) _ _

/-! ### The controller port -/

theorem State.submit_store (s : State) (j : Job) : (s.submit j).2.store = s.store := by
  unfold State.submit
  split
  · rfl
  · exact State.store_of_planSide (State.sponsorEvent_planSide _)

theorem State.cancelTaken_store (s : State) (id : Nat) : (s.cancelTaken id).2.store = s.store := by
  have hstate : (s.cancelTaken id).2 = (s.cancelRequest id).2 := by
    unfold State.cancelTaken
    split <;> rename_i heq <;> rw [heq]
  rw [hstate]
  exact State.store_of_planSide (s.cancelRequest_planSide id)

theorem State.takeNotice_store (s : State) : s.takeNotice.2.store = s.store := by
  unfold State.takeNotice
  split <;> rfl

theorem State.clearFaultOf_store (s : State) (index : Nat) : (s.clearFaultOf index).2.store = s.store := by
  unfold State.clearFaultOf
  split <;> rfl

theorem State.clearEventSet_store (s : State) (events : Word16) : (s.clearEventSet events).2.store = s.store := by
  unfold State.clearEventSet
  split <;> rfl

theorem State.leave_store (s : State) : s.leave.2.store = s.store := by
  unfold State.leave
  split <;> rfl

theorem State.join_store (s : State) : s.join.2.store = s.store := by
  unfold State.join
  split
  · dsimp only
    split <;> rfl
  · exact State.store_of_planSide (State.sponsorEvent_planSide _)
  all_goals rfl

/-- SAVE WEAR begins a save only where none is in flight (R194). -/
theorem State.saveWearTaken_stores (s : State) : s.Stores s.saveWearTaken.2 := by
  unfold State.saveWearTaken State.beginSave State.Stores State.store
  cases hsave : s.pld.save with
  | idle => exact .begun _ _
  | writing copy w =>
    dsimp only
    rw [hsave]
    exact .kept _

theorem State.carryOut_stores (s : State) (id : Nat) (body : RequestBody) : s.Stores (s.carryOut id body).2 := by
  cases body with
  | make | breakRoute | exchange | retrim => exact .of_store (s.submit_store _)
  | cancel x => exact .of_store (s.cancelTaken_store x)
  | takeNotice => exact .of_store s.takeNotice_store
  | clearFault i => exact .of_store (s.clearFaultOf_store i)
  | clearEvents e => exact .of_store (s.clearEventSet_store e)
  | saveWear => exact s.saveWearTaken_stores
  | leaveBus => exact .of_store s.leave_store
  | joinBus => exact .of_store s.join_store
  | queryRoute | querySwitch | queryNode | setNotifyMap | restart | wrongForm | unknownKind => exact .of_store rfl

theorem State.takeRequest_stores (s : State) (r : Request) : s.Stores (s.takeRequest r) := by
  have hanswer : s.Stores (s.answer r).2 := by
    unfold State.answer
    split
    · exact .refl s
    · exact s.carryOut_stores r.id r.body
  exact hanswer.between rfl rfl

theorem State.offer_stores (s : State) (r : Request) : s.Stores (s.offer r) := by
  unfold State.offer
  split
  · exact s.takeRequest_stores r
  all_goals exact .of_store rfl

theorem State.frameArrived_stores (s : State) (bytes : List Byte) : s.Stores (s.frameArrived bytes) := by
  unfold State.frameArrived
  split
  · exact s.offer_stores _
  · exact .of_store rfl

theorem State.sendComplete_stores (s : State) : s.Stores s.sendComplete := by
  unfold State.sendComplete
  split
  · exact .refl s
  · dsimp only
    split
    · refine (State.takeRequest_stores _ _).between ?_ rfl
      rfl
    · exact .of_store rfl

/-! ### The load and the saves -/

theorem State.beginLoad_stores (s : State) (straps : Nat) (plan : List Byte) : s.Stores (s.beginLoad straps plan) := by
  unfold State.beginLoad
  split
  · dsimp only
    split <;> exact .placed _ plan _
  · exact .refl s

theorem State.rejectPlan_store (s : State) : s.rejectPlan.store = s.store := by
  unfold State.rejectPlan
  repeat' split
  all_goals rfl

theorem State.judgeWear_store (s : State) : s.judgeWear.2.store = s.store := by
  unfold State.judgeWear
  repeat' split
  all_goals rfl

theorem State.fill_store (s : State) (p : RawPlan) (counts : Option (List Nat)) (sense : SenseLevels) :
    (s.fill p counts sense).store = s.store :=
  foldl_keeps (fun (u : State) (w : Switch) => u.fire .worn (.switch w.plan.index)) State.store (fun _ _ => rfl) _ _

theorem State.acceptPlan_store (s : State) (sense : SenseLevels) : (s.acceptPlan sense).store = s.store := by
  unfold State.acceptPlan
  split
  · split
    · exact (State.fill_store _ _ _ sense).trans s.judgeWear_store
    · rfl
  · rfl

/-- A write the memory accepts stands in it whole, and the save goes on to the next or ends (R195). -/
theorem State.saveAccepted_stores (s : State) : s.Stores s.saveAccepted := by
  unfold State.saveAccepted
  split
  · exact .refl s
  · rename_i copy w hsave
    unfold State.Stores State.store
    rw [hsave]
    dsimp only
    split
    · exact .accepted copy s.mem ‹_›
    · exact .ended copy s.mem ‹_›

/-- A write that fails ends the save, as much of it in the memory as had reached it (R195). -/
theorem State.saveFailed_stores (s : State) (reached : Nat) : s.Stores (s.saveFailed reached) := by
  unfold State.saveFailed
  split
  · exact .refl s
  · rename_i copy w hsave
    unfold State.Stores State.store
    rw [hsave]
    exact .failed w copy reached s.mem

theorem State.notAnswered_stores (s : State) (access : MemoryAccess) : s.Stores (s.notAnswered access) := by
  cases access with
  | planRead =>
    unfold State.notAnswered
    dsimp only
    split <;> exact .of_store rfl
  | wearRead =>
    unfold State.notAnswered
    dsimp only
    repeat' split
    all_goals exact .of_store rfl
  | saveWrite reached => exact s.saveFailed_stores reached

/-- A hardware reset ends a save in flight where it stood (R196). -/
theorem State.hardwareReset_stores (s : State) (reached : Nat) : s.Stores (s.hardwareReset reached) := by
  unfold State.Stores State.store State.hardwareReset
  cases s.pld.save with
  | idle => exact .kept _
  | writing copy w => exact .failed w copy reached s.mem

/-! ### Every command -/

/-- A command that acts as one event does to the store what its own meaning does. -/
theorem State.event_stores {s t : State} {act : State → State} (hact : ∀ u : State, u.Stores (act u))
    (e : s.event act = .next t) : s.Stores t := by
  cases e
  exact (hact _).between s.caughtUp_store rfl

theorem State.event_store {s t : State} {act : State → State} (hact : ∀ u : State, (act u).store = u.store)
    (e : s.event act = .next t) : s.Stores t := State.event_stores (fun u => .of_store (hact u)) e

theorem State.exec_stores {s t : State} (c : Instr) (e : exec c s = .next t) : s.Stores t := by
  cases c with
  | hardwareReset reached => cases e; exact s.hardwareReset_stores reached
  | resetRelease straps plan => exact State.event_stores (fun u => u.beginLoad_stores straps plan) e
  | memoryNoAnswer access => exact State.event_stores (fun u => u.notAnswered_stores access) e
  | planRefused => exact State.event_store State.rejectPlan_store e
  | planAccepted sense => exact State.event_store (fun u => u.acceptPlan_store sense) e
  | settleEnd | answerWindowExpiry | quietTimeout | lingerExpiry | backoffExpiry | takeUp | silenceCountComplete
  | clearCountComplete | peerAbsent =>
    cases e
    exact .of_store (s.workNow_store _)
  | requestUnknownKind | make | breakRoute | exchange | retrim | cancel | takeNotice | queryNode | queryRoute | querySwitch
  | clearEvents | setNotifyMap | saveWear | leaveBus | joinBus => exact State.event_stores (fun u => u.offer_stores _) e
  | clearFault _ _ sense | restart _ sense =>
    exact State.event_stores (fun u => (State.offer_stores (u.sensed sense) _).between rfl rfl) e
  | frameReceived bytes sense =>
    exact State.event_stores (fun u => (State.frameArrived_stores (u.sensed sense) bytes).between rfl rfl) e
  | responseSendComplete sense => exact State.event_stores (fun u => (State.sendComplete_stores (u.sensed sense)).between rfl rfl) e
  | frameGapTimeout => exact State.event_store (act := State.framingFault) (fun _ => rfl) e
  | saveWearWriteAccepted => exact State.event_stores State.saveAccepted_stores e
  | saveWearWriteFailed reached => exact State.event_stores (fun u => u.saveFailed_stores reached) e
  | syncRecognised => exact State.event_store State.syncSeen_store e
  | frameTimerExpiry => exact State.event_store State.frameTimerExpires_store e
  | searchSpanExpiry => exact State.event_store State.searchSpanExpires_store e
  | ownSlotStart => exact State.event_store (fun u => State.store_of_planSide u.startOwnSlot_planSide) e
  | slotEnd line => exact State.event_store (fun u => State.store_of_planSide (u.endSlot_planSide line)) e
  | frameEnd sense => exact State.event_store (fun u => u.frameEnds_store sense) e
  | detectorSample input level => exact State.event_store (fun u => u.sampleTaken_store input level) e
  | readyPulseExpiry line => exact State.event_store (act := fun u => { u with rfg := u.rfg.pulseExpiry line }) (fun _ => rfl) e

/-- What one step can do to the save and the memory. -/
theorem step_stores {s t : State} (e : step s = .next t) : s.Stores t := by
  unfold step at e
  split at e
  · cases e
    exact .refl s
  · rename_i rest _
    exact (State.exec_stores _ e).between (t := s.queued rest) rfl rfl

/-- Nothing that is done to the store breaks the canonical form. -/
theorem StoreStep.wf {x y : SaveState × List Host.Cell} (h : StoreStep x y) (hx : Memory.wf x.2 = true) :
    Memory.wf y.2 = true := by
  cases h with
  | kept | begun => exact hx
  | placed save plan mem => exact Memory.wf_placePlan mem plan hx
  | accepted copy mem | ended copy mem => exact SaveWrite.wf_whole copy _ mem hx
  | failed w copy reached mem => exact SaveWrite.wf_partly copy w reached mem hx

/-- Settles O52: a step does to the memory what `step_stores` lists, and each of these keeps the addresses rising. -/
theorem memoryCanonicalKept : Obligations.MemoryCanonicalKept :=
  fun _ _ h e => (step_stores e).wf h

end Sys2Proof.Machine
end

section
/-! SUPPORT. The wear area through a save: open from the first write to the last but one, VALID with the copied counts after
(R192, R195). -/

namespace Sys2Proof.Machine

/-! ### Bytes in memory -/

theorem Memory.writeBytes_append : ∀ (xs ys : List Byte) (mem : List Host.Cell) (a : Nat),
    Memory.writeBytes mem a (xs ++ ys) = Memory.writeBytes (Memory.writeBytes mem a xs) (a + xs.length) ys
  | [], _, _, _ => rfl
  | x :: xs, ys, mem, a => by
    rw [List.cons_append, Memory.writeBytes, Memory.writeBytes_append xs ys, Memory.writeBytes, List.length_cons]
    congr 1
    omega

/-- Bytes the memory answers one by one it answers as a whole. -/
theorem Memory.readBytes_eq : ∀ (bytes : List Byte) (mem : List Host.Cell) (a : Nat),
    (∀ i, i < bytes.length → Memory.read mem (a + i) = bytes[i]?) → Memory.readBytes mem a bytes.length = some bytes
  | [], _, _, _ => rfl
  | b :: bs, mem, a, h => by
    have hfirst : Memory.read mem a = some b := h 0 (Nat.succ_pos _)
    have hrest : Memory.readBytes mem (a + 1) bs.length = some bs :=
      Memory.readBytes_eq bs mem (a + 1) fun i hi => by
        rw [show a + 1 + i = a + (i + 1) by omega]
        exact h (i + 1) (Nat.succ_lt_succ hi)
    rw [List.length_cons, Memory.readBytes, hfirst, hrest]

/-- Numbers below 2^32 are cut back out of the four bytes each was written in (R201). -/
theorem countsOf_flatMap : ∀ (copy : List Nat) (_ : ∀ n ∈ copy, n < 4294967296),
    countsOf copy.length (copy.flatMap (bytesOf 4)) = copy
  | [], _ => rfl
  | n :: copy, h => by
    obtain ⟨hn, hcopy⟩ := List.forall_mem_cons.mp h
    have hlength : 4 = (bytesOf 4 n).length := (bytesOf_length 4 n).symm
    rw [List.length_cons, List.flatMap_cons, countsOf, List.take_left' hlength.symm, List.drop_left' hlength.symm,
      bytesValue_bytesOf, countsOf_flatMap copy hcopy]
    exact congrArg (· :: copy) (Nat.mod_eq_of_lt hn)

theorem flatMap_bytesOf_length (copy : List Nat) : (copy.flatMap (bytesOf 4)).length = 4 * copy.length := by
  simp [List.length_flatMap, Nat.mul_comm]

/-! ### The order of the writes (R195) -/

theorem saveWrites_count {i : Nat} (h : i < 48) : saveWrites[i + 1]? = some (.count i) := by
  revert i
  decide

/-- Each write is followed by its next, the closing one by none. -/
theorem saveWrites_next (i : Nat) : (saveWrites[i]?).bind SaveWrite.next = saveWrites[i + 1]? := by
  by_cases h : i < 51
  · revert i
    decide
  · have hlength : saveWrites.length = 51 := rfl
    rw [List.getElem?_eq_none (by omega), List.getElem?_eq_none (by omega)]
    rfl

theorem saveWrites_not_open {i : Nat} (h : 1 ≤ i ∧ i ≤ 50) : saveWrites[i]? ≠ some .openMark := by
  obtain ⟨hlow, hhigh⟩ := h
  have hlt : i < 51 := by omega
  revert i
  decide

theorem saveWrites_not_close {i : Nat} (h : i < 50) : saveWrites[i]? ≠ some .closeMark := by
  revert i
  decide

/-- One write more stands in the memory. -/
theorem afterWrites_succ {n : Nat} {w : SaveWrite} (h : saveWrites[n]? = some w) (copy : List Nat) (mem : List Host.Cell) :
    afterWrites copy (n + 1) mem = w.whole copy (afterWrites copy n mem) := by
  simp [afterWrites, List.take_add_one, h]

/-! ### Open until closed (R195) -/

/-- The opening write opens the area, and no later write but the closing one meets the mark. -/
theorem SaveWrite.whole_open {w : SaveWrite} (hclose : w ≠ .closeMark) (copy : List Nat) {mem : List Host.Cell}
    (h : w ≠ .openMark → Memory.read mem Config.wearBase = some 0#8) :
    Memory.read (w.whole copy mem) Config.wearBase = some 0#8 := by
  unfold SaveWrite.whole
  rw [Memory.read_writeBytes]
  by_cases hopen : w = .openMark
  · rw [hopen]
    rfl
  · have := SaveWrite.target_above hopen hclose copy
    rw [if_neg (by omega), h hopen]

/-- From the first accepted write to the last but one the mark stands open. -/
theorem afterWrites_open (copy : List Nat) (mem : List Host.Cell) :
    ∀ n, n < 50 → Memory.read (afterWrites copy (n + 1) mem) Config.wearBase = some 0#8
  | 0, _ => SaveWrite.whole_open (w := .openMark) nofun copy fun h => (h rfl).elim
  | n + 1, hn => by
    obtain ⟨w, hw⟩ : ∃ w, saveWrites[n + 1]? = some w := ⟨_, List.getElem?_eq_getElem (show n + 1 < 51 by omega)⟩
    rw [afterWrites_succ hw]
    exact SaveWrite.whole_open (fun e => saveWrites_not_close hn (e ▸ hw)) copy fun _ => afterWrites_open copy mem n (by omega)

/-! ### VALID after the closing write (R192) -/

/-- The counts written so far stand behind the mark, in index order. -/
theorem afterWrites_counts {copy : List Nat} (hcopy : copy.length = 48) (mem : List Host.Cell) :
    ∀ n, n ≤ 48 → afterWrites copy (n + 1) mem =
      Memory.writeBytes mem Config.wearBase (0#8 :: (copy.take n).flatMap (bytesOf 4))
  | 0, _ => rfl
  | n + 1, hn => by
    have hget : copy[n]? = some (copy.getD n 0) := by
      rw [List.getD_eq_getElem?_getD, List.getElem?_eq_getElem (by omega), Option.getD_some]
    have htake : copy.take (n + 1) = copy.take n ++ [copy.getD n 0] := by
      rw [List.take_add_one, hget]
      rfl
    have hlength : ((copy.take n).flatMap (bytesOf 4)).length = 4 * n := by
      rw [flatMap_bytesOf_length, List.length_take]
      omega
    rw [afterWrites_succ (saveWrites_count hn), afterWrites_counts hcopy mem n (by omega), htake, List.flatMap_append,
      List.flatMap_singleton, ← List.cons_append, Memory.writeBytes_append, List.length_cons, hlength]
    show Memory.writeBytes _ (Config.wearBase + 1 + 4 * n) _ = _
    congr 1
    omega

/-- The bytes of a closed wear area: the mark, the counts, and their check (R201). -/
def wearBytes (copy : List Nat) : List Byte :=
  copy.flatMap (bytesOf 4) ++ bytesOf 2 (crcBytes (copy.flatMap (bytesOf 4))).toNat

/-- All writes of a save together: the mark, and the counts with their check behind it. -/
theorem afterWrites_all {copy : List Nat} (hcopy : copy.length = 48) (mem : List Host.Cell) :
    afterWrites copy 51 mem = Memory.writeBytes
      (Memory.writeBytes mem Config.wearBase (0#8 :: wearBytes copy)) Config.wearBase [1#8] := by
  have hlength : (copy.flatMap (bytesOf 4)).length = 4 * Config.wearSlots := by
    rw [flatMap_bytesOf_length, hcopy]
    rfl
  have hchecked : afterWrites copy 50 mem = Memory.writeBytes mem Config.wearBase (0#8 :: wearBytes copy) := by
    rw [afterWrites_succ (w := .check) rfl, afterWrites_counts hcopy mem 48 (Nat.le_refl _), List.take_of_length_le hcopy.le,
      wearBytes, ← List.cons_append, Memory.writeBytes_append, List.length_cons, hlength]
    rfl
  rw [afterWrites_succ (w := .closeMark) rfl, hchecked]
  rfl

/-- A wear area with a closed mark, the counts and their check reads VALID (R192). -/
theorem readWear_of_closed {mem : List Host.Cell} {copy : List Nat} (hcopy : copy.length = 48)
    (hbound : ∀ n ∈ copy, n < 4294967296) (hmark : Memory.read mem Config.wearBase = some 1#8)
    (hbytes : ∀ i, i < 194 → Memory.read mem (Config.wearBase + 1 + i) = (wearBytes copy)[i]?) : readWear mem = some copy := by
  have hslots : 4 * Config.wearSlots = 192 := rfl
  have hlength : (copy.flatMap (bytesOf 4)).length = 4 * Config.wearSlots := by
    rw [flatMap_bytesOf_length, hcopy, hslots]
  have hcounts : Memory.readBytes mem (Config.wearBase + 1) (4 * Config.wearSlots) = some (copy.flatMap (bytesOf 4)) := by
    have := Memory.readBytes_eq (copy.flatMap (bytesOf 4)) mem (Config.wearBase + 1) fun i hi => by
      rw [hbytes i (by omega), wearBytes, List.getElem?_append_left hi]
    rwa [hlength] at this
  have hcheck : Memory.readBytes mem (Config.wearBase + 1 + 4 * Config.wearSlots) 2 =
      some (bytesOf 2 (crcBytes (copy.flatMap (bytesOf 4))).toNat) := by
    have := Memory.readBytes_eq (bytesOf 2 (crcBytes (copy.flatMap (bytesOf 4))).toNat) mem
      (Config.wearBase + 1 + 4 * Config.wearSlots) fun i hi => by
        rw [bytesOf_length] at hi
        rw [Nat.add_assoc _ _ i, hbytes _ (by omega), wearBytes,
          List.getElem?_append_right (by omega), hlength, Nat.add_sub_cancel_left]
    rwa [bytesOf_length] at this
  have hagrees : bytesValue (bytesOf 2 (crcBytes (copy.flatMap (bytesOf 4))).toNat) =
      (crcBytes (copy.flatMap (bytesOf 4))).toNat := by
    rw [bytesValue_bytesOf]
    exact Nat.mod_eq_of_lt (crcBytes _).isLt
  have hread : countsOf Config.wearSlots (copy.flatMap (bytesOf 4)) = copy := by
    have := countsOf_flatMap copy hbound
    rwa [hcopy] at this
  unfold readWear
  rw [hmark, hcounts, hcheck]
  dsimp only
  rw [if_pos ⟨rfl, hagrees⟩, hread]

theorem readWear_afterWrites {copy : List Nat} (hcopy : copy.length = 48) (hbound : ∀ n ∈ copy, n < 4294967296)
    (mem : List Host.Cell) : readWear (afterWrites copy 51 mem) = some copy := by
  have hlength : (wearBytes copy).length = 194 := by
    rw [wearBytes, List.length_append, flatMap_bytesOf_length, bytesOf_length, hcopy]
  rw [afterWrites_all hcopy]
  refine readWear_of_closed hcopy hbound ?_ fun i hi => ?_
  · rw [Memory.read_writeBytes]
    rfl
  · rw [Memory.read_writeBytes, List.length_singleton, if_neg (by omega), Memory.read_writeBytes, List.length_cons, hlength,
      if_pos (by omega), show Config.wearBase + 1 + i - Config.wearBase = i + 1 by omega, List.getElem?_cons_succ]

/-! ### Kept by every step -/

/-- Nothing that is done to the store closes the mark of a save past its opening write. -/
theorem StoreStep.markOpen {x y : SaveState × List Host.Cell} (h : StoreStep x y)
    (hx : ∀ copy w, x.1 = .writing copy w → w ≠ .openMark → Memory.read x.2 Config.wearBase = some 0#8)
    (copy : List Nat) (w : SaveWrite) (hy : y.1 = .writing copy w) (hw : w ≠ .openMark) :
    Memory.read y.2 Config.wearBase = some 0#8 := by
  cases h with
  | kept => exact hx copy w hy hw
  | begun copied mem =>
    cases hy
    exact (hw rfl).elim
  | placed save plan mem =>
    rw [Memory.read_placePlan, if_neg (Nat.lt_irrefl _)]
    exact hx copy w hy hw
  | accepted copied mem next =>
    refine SaveWrite.whole_open (fun e => ?_) copied fun hopen => hx _ _ rfl hopen
    rw [e] at next
    cases next
  | ended | failed => cases hy

/-- Settles O9: the order of the writes, the mark open after each but the last (`afterWrites_open`), the area read back after the
last (`readWear_afterWrites`), and the mark kept open by what a step can do to the store. -/
theorem wearAreaOpenUntilClosed : Obligations.WearAreaOpenUntilClosed := by
  refine ⟨⟨rfl, saveWrites_next, fun i => saveWrites_count, rfl, rfl, rfl⟩, fun copy mem hcopy hbound => ⟨?_, ?_⟩,
    fun s t hs e => (step_stores e).markOpen hs⟩
  · intro n hlow hhigh
    obtain ⟨m, rfl⟩ : ∃ m, n = m + 1 := ⟨n - 1, by omega⟩
    have hopen := afterWrites_open copy mem m (by omega)
    refine ⟨readWear_of_open hopen, fun w reached hw => readWear_of_open (SaveWrite.partly_open ?_ copy reached hopen)⟩
    exact fun e => saveWrites_not_open ⟨hlow, hhigh⟩ (e ▸ hw)
  · exact readWear_afterWrites hcopy hbound mem

end Sys2Proof.Machine
end

section
/-! SUPPORT. The load: the straps read at its start, and the loads that end without a plan (R180, R189, R191, R192). -/

namespace Sys2Proof.Machine

/-- A command that acts as one event answers the end of its own meaning. -/
theorem State.event_of_act {s u : State} {act : State → State} (h : act s.caughtUp = u) : s.event act = .next u.complete :=
  congrArg (fun v : State => Host.Outcome.next v.complete) h

/-! ### The load begins (R189 step 1) -/

/-- Straps 1 to 30 are the node number, with the plan area as the tools left it. -/
theorem State.beginLoad_node {s : State} {straps : Nat} (hl : s.pld.load = .loading) (hb : s.pld.begun = false)
    (h : 1 ≤ straps ∧ straps ≤ 30) (plan : List Byte) : s.beginLoad straps plan =
      { s with mem := Memory.placePlan s.mem plan, biu := { s.biu with node := some straps },
               pld := { s.pld with begun := true } } := by
  unfold State.beginLoad
  rw [if_pos ⟨hl, hb⟩, (nodeOk_iff straps).mpr h]
  rfl

/-- Straps 0 and 31 refuse the plan (log 36). -/
theorem State.beginLoad_strap {s : State} {straps : Nat} (hl : s.pld.load = .loading) (hb : s.pld.begun = false)
    (h : straps = 0 ∨ straps = 31) (plan : List Byte) : s.beginLoad straps plan =
      ({ s with mem := Memory.placePlan s.mem plan } : State).refusePlan { cause := .strap, at? := none } := by
  have hnode : nodeOk straps = false := by rcases h with rfl | rfl <;> rfl
  unfold State.beginLoad
  rw [if_pos ⟨hl, hb⟩, hnode]
  rfl

/-- Settles O4, by the two readings of the straps. -/
theorem resetReleaseReadsStraps : Obligations.ResetReleaseReadsStraps := by
  rintro straps plan s u rfl hl hb hplan
  refine ⟨Memory.placePlan s.caughtUp.mem plan, fun i hi => ?_, fun a ha => ?_, fun h => ?_, fun h => ?_⟩
  · rw [Memory.read_placePlan, if_pos hi]
  · rw [Memory.read_placePlan, if_neg (Nat.not_lt.mpr ha)]
    rfl
  · exact State.event_of_act (State.beginLoad_node hl hb h plan)
  · exact State.event_of_act (State.beginLoad_strap hl hb h plan)

/-! ### A load that ends without a plan (R189, R191) -/

theorem State.loading_of {s : State} (hl : s.pld.load = .loading) (hb : s.pld.begun = true) : s.loading = true := by
  simp [State.loading, hl, hb]

theorem State.rejectPlan_fails {s : State} {fault : PlanFault} (hl : s.loading = true) (hp : s.planRead = .error fault) :
    s.rejectPlan = s.refusePlan fault := by
  unfold State.rejectPlan
  rw [if_pos hl, hp]

/-- A refused plan raises PLAN at the end of its event (R180). -/
theorem State.refusePlan_raises {s : State} {fault : PlanFault} {e : EventStatus}
    (he : e ∈ (s.refusePlan fault).complete.ctp.events) (hn : e.name = .plan) : e.raised = true := by
  obtain ⟨x, _, rfl⟩ := List.mem_map.mp he
  have hname : x.name = .plan := hn
  show levelRaised _ _ BusState.planFault x.name x.raised = true
  rw [hname]
  rfl

/-- An access to the plan acts only where the plan is still being read (log 2). -/
theorem State.planAccess_iff (s : State) : (s.loading && s.pld.wearValid.isNone) = true ↔
    s.pld.load = .loading ∧ s.pld.begun = true ∧ s.pld.wearValid = none := by
  simp [State.loading, and_assoc]

theorem State.notAnswered_planRead {s : State} (hl : s.pld.load = .loading) (hb : s.pld.begun = true)
    (hw : s.pld.wearValid = none) : s.notAnswered .planRead = s.refusePlan { cause := .memory, at? := none } :=
  if_pos ((s.planAccess_iff).mpr ⟨hl, hb, hw⟩)

theorem State.notAnswered_planRead_late {s : State}
    (h : s.pld.load ≠ .loading ∨ s.pld.begun = false ∨ s.pld.wearValid ≠ none) : s.notAnswered .planRead = s := by
  refine if_neg fun e => ?_
  obtain ⟨hl, hb, hw⟩ := (s.planAccess_iff).mp e
  rcases h with h | h | h
  · exact h hl
  · exact nomatch hb.symm.trans h
  · exact h hw

theorem State.notAnswered_wearRead {s : State} {p : RawPlan} (hl : s.pld.load = .loading) (hb : s.pld.begun = true)
    (hw : s.pld.wearValid = none) (hp : s.planRead = .ok p) : s.notAnswered .wearRead = s.wearLost := by
  unfold State.notAnswered
  dsimp only
  rw [if_pos ((s.planAccess_iff).mpr ⟨hl, hb, hw⟩), hp]

/-- A wear area found LOST leaves SWITCH FAULT raised with source WEAR AREA LOST (R192). -/
theorem State.wearLost_raises {s : State} {e : EventStatus} (he : e ∈ s.wearLost.complete.ctp.events)
    (hn : e.name = .switchFault) : e.raised = true ∧ e.source = some .wearAreaLost := by
  obtain ⟨x, hx, hname, _, hsource, _, hraised⟩ := State.complete_event he
  have hxn : x.name = .switchFault := hname.symm.trans hn
  obtain ⟨hxr, hxs⟩ := State.fire_raised hx hxn
  exact ⟨(hraised (by rw [hxn]; rfl)).trans hxr, hsource.trans hxs⟩

/-- Settles O5: PLAN_REFUSED where the plan fails, and MEMORY_NO_ANSWER by the access that is not answered. -/
theorem loadRefusedOutcomes : Obligations.LoadRefusedOutcomes := by
  refine ⟨?_, ?_⟩
  · rintro s u fault rfl hl hb hp
    exact ⟨_, State.event_of_act (State.rejectPlan_fails (State.loading_of hl hb) hp), rfl, fun e => State.refusePlan_raises⟩
  · rintro access s u rfl
    refine ⟨?_, ?_, ?_, ?_⟩
    · rintro rfl hl hb hw
      exact State.event_of_act (State.notAnswered_planRead hl hb hw)
    · rintro rfl h
      exact State.event_of_act (State.notAnswered_planRead_late h)
    · rintro rfl hl hb hw p hp
      exact ⟨_, State.event_of_act (State.notAnswered_wearRead hl hb hw hp), rfl, rfl, rfl, rfl, rfl, rfl, rfl, rfl, rfl,
        fun e => State.wearLost_raises⟩
    · rintro reached copy w rfl hw
      have hfailed := State.event_of_act (act := fun v => v.notAnswered (.saveWrite reached)) (State.saveFailed_writing hw reached)
      refine ⟨_, hfailed, fun hopen hmark => ?_, fun a ha => ?_⟩
      · exact readWear_of_open (SaveWrite.partly_open hopen copy reached hmark)
      · exact SaveWrite.read_partly_outside w copy reached _ ha

end Sys2Proof.Machine
end

section
/-! SUPPORT. A load whose plan passes: the blocks filled, the wear area judged, and the events fired by it (R24, R192, R193). -/

namespace Sys2Proof.Machine

/-! ### The statuses of one event -/

/-- The statuses kept under the name of an event. -/
def State.eventsOf (s : State) (name : EventName) : List EventStatus := s.ctp.events.filter (fun e => e.name == name)

theorem eventsOf_map {g : EventStatus → EventStatus} (hg : ∀ e, (g e).name = e.name) (name : EventName) (l : List EventStatus) :
    (l.map g).filter (fun e => e.name == name) = (l.filter (fun e => e.name == name)).map g := by
  simp [List.filter_map, Function.comp_def, hg]

theorem State.eventsOf_name {s : State} {name : EventName} {e : EventStatus} (h : e ∈ s.eventsOf name) : e.name = name := by
  simpa using (List.mem_filter.mp h).2

/-- No condition moves an edge event (R180). -/
theorem levelRaised_edge {name : EventName} (h : name.isEdge = true) (notices : List Notice) (hold : Bool) (bus : BusState)
    (raised : Bool) : levelRaised notices hold bus name raised = raised := by
  cases name with
  | notice | hold | plan => cases h
  | switchFault | hotMove | worn | orphan | peer | busCheck | duplicate => rfl

/-- The end of an event leaves the edge events. -/
theorem State.complete_eventsOf (s : State) {name : EventName} (h : name.isEdge = true) :
    s.complete.eventsOf name = s.eventsOf name := by
  refine (eventsOf_map (by exact fun _ => rfl) name s.ctp.events).trans
    ((List.map_congr_left fun e he => ?_).trans (List.map_id _))
  rw [levelRaised_edge (State.eventsOf_name (s := s) he ▸ h)]
  rfl

theorem State.fire_eventsOf (s : State) (fired name : EventName) (source : EventSource) : (s.fire fired source).eventsOf name =
    (s.eventsOf name).map (fun e => if e.name = fired then e.fire source else e) :=
  eventsOf_map (fun e => by split <;> simp) name s.ctp.events

/-- A firing meets its own event. -/
theorem State.fire_eventsOf_same (s : State) (name : EventName) (source : EventSource) :
    (s.fire name source).eventsOf name = (s.eventsOf name).map (EventStatus.fire source) := by
  rw [State.fire_eventsOf]
  exact List.map_congr_left fun e he => if_pos (State.eventsOf_name he)

/-- A firing leaves every other event. -/
theorem State.fire_eventsOf_other (s : State) {fired name : EventName} (h : name ≠ fired) (source : EventSource) :
    (s.fire fired source).eventsOf name = s.eventsOf name := by
  rw [State.fire_eventsOf]
  exact (List.map_congr_left fun e he => if_neg (State.eventsOf_name he ▸ h)).trans (List.map_id _)

/-! ### WORN at start-up (R24) -/

/-- WORN fired for each of these switches, in their order. -/
def State.fireWorns (s : State) (l : List Switch) : State := l.foldl (fun s w => s.fire .worn (.switch w.plan.index)) s

theorem State.fireWorns_eventsOf_other {name : EventName} (h : name ≠ .worn) (s : State) (l : List Switch) :
    (s.fireWorns l).eventsOf name = s.eventsOf name :=
  foldl_keeps _ (fun u : State => u.eventsOf name) (fun u _ => u.fire_eventsOf_other h _) l s

theorem State.fireWorns_eventsOf (l : List Switch) : ∀ s : State, (s.fireWorns l).eventsOf .worn =
    (s.eventsOf .worn).map (fun e => l.foldl (fun e w => e.fire (.switch w.plan.index)) e) := by
  induction l with
  | nil => exact fun s => (List.map_id _).symm
  | cons w l ih =>
    intro s
    show ((s.fire .worn (.switch w.plan.index)).fireWorns l).eventsOf .worn = _
    rw [ih, State.fire_eventsOf_same, List.map_map]
    rfl

/-- The firings touch the statuses alone. -/
theorem State.fireWorns_keeps {β : Type} (f : State → β) (hf : ∀ (u : State) name source, f (u.fire name source) = f u)
    (l : List Switch) (s : State) : f (s.fireWorns l) = f s :=
  foldl_keeps _ f (fun u _ => hf u _ _) l s

/-- An event fired once for each switch shows the last, and counts those before it as repeats (R181). -/
theorem EventStatus.fire_all (pre : List Switch) (w : Switch) (e : EventStatus) :
    (pre ++ [w]).foldl (fun e v => e.fire (.switch v.plan.index)) e = { e with
      raised := true, source := some (.switch w.plan.index),
      repeats := min 255 ((if e.raised then e.repeats + 1 else 0) + pre.length) } := by
  induction pre using List.reverseRecOn generalizing w with
  | nil =>
    simp only [List.nil_append, List.foldl_cons, List.foldl_nil, EventStatus.fire_eq, List.length_nil, Nat.add_zero]
    cases e.raised <;> rfl
  | append_singleton pre v ih =>
    rw [List.foldl_append, ih]
    simp only [List.foldl_cons, List.foldl_nil, EventStatus.fire_eq, if_true, satAdd, Config.count8, List.length_append,
      List.length_singleton]
    congr 1
    omega

/-! ### The wear area judged (R192) -/

section
variable {s : State}

theorem State.judgeWear_valid {counts : List Nat} (h : s.pld.wearValid = none) (hr : readWear s.mem = some counts) :
    s.judgeWear = (some counts, { s with pld := { s.pld with wearValid := some true } }) := by
  unfold State.judgeWear
  rw [h]
  dsimp only
  rw [hr]

theorem State.judgeWear_lost (h : s.pld.wearValid = none) (hr : readWear s.mem = none) : s.judgeWear = (none, s.wearLost) := by
  unfold State.judgeWear
  rw [h]
  dsimp only
  rw [hr]

theorem State.judgeWear_again {valid : Bool} (h : s.pld.wearValid = some valid) : s.judgeWear = (none, s) := by
  unfold State.judgeWear
  rw [h]

end

/-- Judging the wear area touches its own verdict and the statuses alone. -/
theorem State.judgeWear_rest (s : State) : ∃ verdict events,
    s.judgeWear.2 = { s with pld := { s.pld with wearValid := verdict }, ctp := { s.ctp with events := events } } := by
  unfold State.judgeWear
  repeat' split
  all_goals exact ⟨_, _, rfl⟩

/-! ### The blocks filled (R193) -/

theorem State.acceptPlan_passes {s : State} {p : RawPlan} (hl : s.pld.load = .loading) (hb : s.pld.begun = true)
    (hp : s.planRead = .ok p) (sense : SenseLevels) : s.acceptPlan sense = s.judgeWear.2.fill p s.judgeWear.1 sense := by
  unfold State.acceptPlan
  rw [if_pos (State.loading_of hl hb), hp]

section
variable (s : State) (p : RawPlan) (counts : Option (List Nat)) (sense : SenseLevels)

theorem State.fill_rtb : (s.fill p counts sense).rtb = { s.rtb with routes := p.routes.map (fun r => r.plan.record) } :=
  State.fireWorns_keeps State.rtb (fun _ _ _ => rfl) _ _

theorem State.fill_rfg : (s.fill p counts sense).rfg = { s.rfg with
    detectors := p.detectors.zipIdx.map (fun d =>
      { input := d.2, threshold := d.1.1, hysteresis := d.1.2, hot := true, fresh := true, lastSample := none })
    pulseWidth := p.pulse } :=
  State.fireWorns_keeps State.rfg (fun _ _ _ => rfl) _ _

theorem State.fill_spu : (s.fill p counts sense).spu = { s.spu with single := p.single == 1, window := p.window } :=
  State.fireWorns_keeps State.spu (fun _ _ _ => rfl) _ _

theorem State.fill_cxe : (s.fill p counts sense).cxe = { s.cxe with quietTimeout := p.quiet } :=
  State.fireWorns_keeps State.cxe (fun _ _ _ => rfl) _ _

theorem State.fill_sbc : (s.fill p counts sense).sbc = p.switches.map (fun w => w.plan.start sense counts) :=
  State.fireWorns_keeps State.sbc (fun _ _ _ => rfl) _ _

theorem State.fill_biu : (s.fill p counts sense).biu = s.biu.start p.period :=
  congrArg (fun b : Biu => b.start p.period) (State.fireWorns_keeps State.biu (fun _ _ _ => rfl) _ _)

theorem State.fill_pld : (s.fill p counts sense).pld = { s.pld with load := .loaded, begun := false } :=
  congrArg (fun x : Pld => { x with load := .loaded, begun := false }) (State.fireWorns_keeps State.pld (fun _ _ _ => rfl) _ _)

theorem State.fill_ltu : (s.fill p counts sense).ltu =
    p.tables.map (fun t => { index := t.1, points := t.2.map (fun q => { frequency := q.1, loss := q.2 }) }) :=
  State.fireWorns_keeps State.ltu (fun _ _ _ => rfl) _ _

theorem State.fill_mem : (s.fill p counts sense).mem = s.mem := State.fireWorns_keeps State.mem (fun _ _ _ => rfl) _ _

theorem State.fill_sense : (s.fill p counts sense).sense = sense := State.fireWorns_keeps State.sense (fun _ _ _ => rfl) _ _

/-- The model's own fields stand as they stood. -/
theorem State.fill_own : (s.fill p counts sense).agenda = s.agenda ∧ (s.fill p counts sense).freeDraws = s.freeDraws ∧
    (s.fill p counts sense).pending = s.pending :=
  ⟨State.fireWorns_keeps State.agenda (fun _ _ _ => rfl) _ _, State.fireWorns_keeps State.freeDraws (fun _ _ _ => rfl) _ _,
    State.fireWorns_keeps State.pending (fun _ _ _ => rfl) _ _⟩

/-- A plan fills nothing of the port; only the statuses may move. -/
theorem State.fill_ctp : (s.fill p counts sense).ctp = { s.ctp with events := (s.fill p counts sense).ctp.events } :=
  congrArg (fun c : Ctp => { c with events := (s.fill p counts sense).ctp.events })
    (State.fireWorns_keeps (fun u => { u.ctp with events := [] }) (fun _ _ _ => rfl) _ _)

end

/-- Each switch as start-up finds it (R24). -/
theorem SwitchPlan.start_found (sense : SenseLevels) (counts : Option (List Nat)) (p : SwitchPlan) :
    let w := p.start sense counts
    w.state = .still ∧ w.claims = [] ∧ w.waiters = [] ∧ w.settleLeft = 0 ∧ w.faultReason = none ∧
      w.driveLines = none ∧ w.commanded = w.current ∧ w.current = (if w.plan.sensed then w.reading sense else none) :=
  ⟨rfl, rfl, rfl, rfl, rfl, rfl, rfl, rfl⟩

/-- A calibration table in its two columns, as its entry gave them (R201). -/
theorem CalPoint.columns (l : List (Nat × Nat)) :
    (l.map (fun q => ({ frequency := q.1, loss := q.2 } : CalPoint))).map (fun q => (q.frequency, q.loss)) = l := by
  rw [List.map_map]
  exact List.map_id l

/-- Settles O6: neither the judged wear area nor the firings of WORN touch what the plan fills (`State.judgeWear_rest`,
`State.fireWorns_keeps`), and each record is read off its entry. -/
theorem planAcceptedFillsBlocks : Obligations.PlanAcceptedFillsBlocks := by
  rintro sense s u p rfl hl hb hp
  refine ⟨_, State.event_of_act (State.acceptPlan_passes hl hb hp sense), ?_⟩
  generalize s.before (.planAccepted sense) = u
  obtain ⟨verdict, events, hjudged⟩ := u.judgeWear_rest
  rw [hjudged]
  generalize u.judgeWear.1 = counts
  generalize hv : ({ u with pld := { u.pld with wearValid := verdict }, ctp := { u.ctp with events := events } } : State) = v
  obtain ⟨hagenda, hdraws, hpending⟩ := v.fill_own p counts sense
  have hctp := v.fill_ctp p counts sense
  rw [State.complete_biu, State.complete_cxe, State.complete_sbc, State.complete_rfg, State.complete_ltu,
    State.complete_rtb, State.complete_spu, State.complete_pld, State.complete_mem, State.complete_sense,
    State.complete_agenda, State.complete_freeDraws, State.complete_pending, State.complete_ctp_queue,
    State.complete_ctp_notices, State.complete_ctp_sending]
  rw [State.fill_rtb, State.fill_rfg, State.fill_spu, State.fill_cxe, State.fill_sbc, State.fill_biu, State.fill_pld,
    State.fill_ltu, State.fill_mem, State.fill_sense, hagenda, hdraws, hpending, hctp]
  subst hv
  refine ⟨rfl, rfl, rfl, rfl, rfl, rfl, rfl, rfl, ?routes, ?idle, ?tables, ?detectors, ?fresh, rfl, rfl, rfl, rfl, ?plans,
    ?found, rfl, rfl, rfl, rfl, rfl, rfl, rfl, rfl, rfl, rfl, rfl⟩
  case routes | plans => exact List.map_map
  case idle =>
    intro r hr
    obtain ⟨raw, _, rfl⟩ := List.mem_map.mp hr
    exact ⟨rfl, rfl, rfl, rfl⟩
  case tables =>
    rw [List.map_map]
    refine (List.map_congr_left fun t _ => ?_).trans (List.map_id _)
    exact Prod.ext rfl (CalPoint.columns t.2)
  case detectors =>
    rw [List.map_map]
    exact List.zipIdx_map_fst 0 p.detectors
  case fresh =>
    intro d hd
    obtain ⟨entry, _, rfl⟩ := List.mem_map.mp hd
    exact ⟨rfl, rfl, rfl⟩
  case found =>
    intro w hw
    obtain ⟨raw, _, rfl⟩ := List.mem_map.mp hw
    exact SwitchPlan.start_found sense counts raw.plan

/-! ### The wear counts loaded (R24) -/

/-- The statuses at the end of a load: WORN fired for each switch found worn, in the order of the entries (log 25). -/
theorem State.fill_worn (s : State) (p : RawPlan) (counts : Option (List Nat)) (sense : SenseLevels) :
    (s.fill p counts sense).eventsOf .worn = (s.eventsOf .worn).map (fun e =>
      ((s.fill p counts sense).sbc.filter Switch.worn).foldl (fun e w => e.fire (.switch w.plan.index)) e) := by
  rw [State.fill_sbc]
  exact State.fireWorns_eventsOf _ _

theorem State.fill_eventsOf (s : State) (p : RawPlan) (counts : Option (List Nat)) (sense : SenseLevels) {name : EventName}
    (h : name ≠ .worn) : (s.fill p counts sense).eventsOf name = s.eventsOf name :=
  State.fireWorns_eventsOf_other h _ _

/-- With no switch worn, WORN does not fire. -/
theorem State.fill_unworn {s : State} {p : RawPlan} {counts : Option (List Nat)} {sense : SenseLevels}
    (h : ∀ w ∈ (s.fill p counts sense).sbc, w.worn = false) :
    (s.fill p counts sense).eventsOf .worn = s.eventsOf .worn := by
  have hnone : (s.fill p counts sense).sbc.filter Switch.worn = [] := List.filter_eq_nil_iff.mpr fun w hw => by simp [h w hw]
  rw [State.fill_worn, hnone]
  exact List.map_id _

/-- With no saved counts every switch starts at 0 (R192). -/
theorem State.fill_zero (s : State) (p : RawPlan) (sense : SenseLevels) :
    ∀ w ∈ (s.fill p none sense).sbc, w.wear = 0 ∧ w.worn = false := by
  intro w hw
  rw [State.fill_sbc] at hw
  obtain ⟨raw, _, rfl⟩ := List.mem_map.mp hw
  exact ⟨rfl, rfl⟩

/-- With no saved counts WORN does not fire. -/
theorem State.fill_zero_worn (s : State) (p : RawPlan) (sense : SenseLevels) :
    (s.fill p none sense).eventsOf .worn = s.eventsOf .worn :=
  State.fill_unworn fun w hw => (s.fill_zero p sense w hw).2

/-- With saved counts each switch starts at its own, worn where that has reached its life limit (R24). -/
theorem State.fill_counted (s : State) (p : RawPlan) (counts : List Nat) (sense : SenseLevels) :
    ∀ w ∈ (s.fill p (some counts) sense).sbc, w.wear = counts.getD w.plan.index 0 ∧
      w.worn = (match w.plan.lifeLimit with | some n => decide (n ≤ w.wear) | none => false) := by
  intro w hw
  rw [State.fill_sbc] at hw
  obtain ⟨raw, _, rfl⟩ := List.mem_map.mp hw
  exact ⟨rfl, rfl⟩

/-- Settles O7, by what the wear area reads: the end of the event moves no edge event (`State.complete_eventsOf`), the plan's fill
fires WORN alone, and the verdict LOST fires SWITCH FAULT once. -/
theorem wearAreaJudgedAtLoad : Obligations.WearAreaJudgedAtLoad := by
  rintro sense s u p rfl hl hb hp
  refine ⟨_, State.event_of_act (State.acceptPlan_passes hl hb hp sense), ?_⟩
  generalize s.before (.planAccepted sense) = u
  have hworn (v : State) : v.complete.eventsOf .worn = v.eventsOf .worn := v.complete_eventsOf rfl
  have hfault (v : State) (counts : Option (List Nat)) :
      (v.fill p counts sense).complete.eventsOf .switchFault = v.eventsOf .switchFault :=
    (State.complete_eventsOf _ rfl).trans (v.fill_eventsOf p counts sense nofun)
  have hverdict (v : State) (counts : Option (List Nat)) :
      (v.fill p counts sense).complete.pld.wearValid = v.pld.wearValid := by
    rw [State.complete_pld, State.fill_pld]
  refine ⟨fun hnone counts hread => ?_, fun hnone hread => ?_, fun hlost => ?_⟩
  · rw [State.judgeWear_valid hnone hread]
    refine ⟨hverdict _ _, hfault _ _, State.fill_counted _ p counts sense, fun h => ?_, fun pre w hlast => ?_⟩
    · exact (hworn _).trans (State.fill_unworn h)
    · refine (hworn _).trans ((State.fill_worn _ p _ sense).trans ?_)
      refine List.map_congr_left fun e _ => ?_
      rw [← EventStatus.fire_all, ← hlast]
      rfl
  · rw [State.judgeWear_lost hnone hread]
    refine ⟨hverdict _ _, ⟨State.fill_zero _ p sense, (hworn _).trans ((State.fill_zero_worn _ p sense).trans ?_)⟩, ?_⟩
    · exact State.fire_eventsOf_other (fired := .switchFault) (name := .worn) _ nofun _
    · refine (hfault _ _).trans ((State.fire_eventsOf_same _ _ _).trans ?_)
      exact List.map_congr_left fun e _ => EventStatus.fire_eq _ e
  · rw [State.judgeWear_again hlost]
    exact ⟨(hverdict u none).trans hlost, ⟨State.fill_zero u p sense, (hworn _).trans (u.fill_zero_worn p sense)⟩,
      hfault u none⟩

end Sys2Proof.Machine
end

section
/-! SUPPORT. A step by what stands in the queue: what is queued is what the step takes (log 3). -/

namespace Sys2Proof.Machine
open Sys2Proof

/-- Only the queue set last stands. -/
@[simp] theorem State.queued_queued (s : State) (p q : List Instr) : (s.queued p).queued q = s.queued q := rfl

theorem step_of_pending_nil {s : State} (h : s.pending = []) : step s = .next s := by
  unfold step
  rw [h]

theorem step_of_pending_cons {s : State} {c : Instr} {rest : List Instr} (h : s.pending = c :: rest) :
    step s = exec c (s.queued rest) := by
  unfold step
  rw [h]

/-- Settles O1, by the two forms of the queue: the command in front runs on what `State.queued_queued` leaves of the queue, and
with none the node idles. -/
theorem stepRunsFrontCommand : Obligations.StepRunsFrontCommand := by
  refine ⟨fun c rest s => ?_, fun s => step_of_pending_nil (s.queued_pending [])⟩
  calc step (s.queued (c :: rest))
      = exec c ((s.queued (c :: rest)).queued rest) := step_of_pending_cons (s.queued_pending _)
    _ = exec c (s.queued rest) := by rw [State.queued_queued]

end Sys2Proof.Machine
end
